-- ==== Sys2Proof/Word.lean ====
section
/-! DEFINITION. The word types of the FVK-4016 model: a byte of a frame, a 32-bit word of the image port and
of a press return lane, and a string of caption-set codes. -/

namespace Sys2Proof

/-- One byte of a desk frame, a band frame, the settings image or the image pool. -/
abbrev Byte := BitVec 8

/-- One word of the image port (R192) or of a press return lane (R193). -/
abbrev Word32 := BitVec 32

/-- A string of caption-set codes, one number per character (R25). -/
abbrev Str := List Nat

end Sys2Proof
end

