-- ==== Sys2Proof/Syntax.lean ====
section
/-! DEFINITION. The commands and events of the FVK-4016, one constructor of `Instr` per row of spec/opcode_table.json.
The engine fetches no program: each row is one whole, indivisible step that a station, the image server, a press, the
settings memory, the RESET input or one of the engine's own units brings about.

A desk request row names only the port. The request's own fields arrive as bytes in REQUEST_FRAME, wait in the port's
slot, and are read from the slot at the grant by the field layout of R191 (Machine/Operands.lean), so the row and the
frame cannot disagree (assumption 1). -/

namespace Sys2Proof

/-- The four desk ports, DP0 to DP3. -/
inductive Port where
  | dp0 | dp1 | dp2 | dp3
  deriving DecidableEq, Repr

/-- The two presses. -/
inductive Press where
  | a | b
  deriving DecidableEq, Repr

/-- The steps of the engine, in the order of spec/opcode_table.json. -/
inductive Instr where
  /-- REQUEST FRAME (R169). A request frame completes on port `p`; `bytes` is everything from its first to its last byte. -/
  | requestFrame (p : Port) (bytes : List Byte)
  /-- REPLY FRAME SENT (R171). The last byte of the reply frame at the head of port `p`'s queue is sent. -/
  | replyFrameSent (p : Port)
  /-- BREAK (R178). Port `p`'s request line has been at break level for 10 ms. -/
  | lineBreak (p : Port)
  /-- BREAK END (R178). Port `p`'s request line leaves break level. -/
  | breakEnd (p : Port)
  /-- UNKNOWN REQUEST CODE (R172). The request held by port `p` is granted and is no request: its code is unknown, or its fields do not fit the code. -/
  | unknownRequestCode (p : Port)
  /-- OPEN BOOK (R3). The OPEN BOOK request held by port `p` is granted and executed whole. -/
  | openBook (p : Port)
  /-- SET BOOK (R4). The SET BOOK request held by port `p` is granted and executed whole. -/
  | setBook (p : Port)
  /-- CLOSE BOOK (R5). The CLOSE BOOK request held by port `p` is granted and executed whole. -/
  | closeBook (p : Port)
  /-- ADD SECTION (R7). The ADD SECTION request held by port `p` is granted and executed whole. -/
  | addSection (p : Port)
  /-- SET SECTION (R8). The SET SECTION request held by port `p` is granted and executed whole. -/
  | setSection (p : Port)
  /-- DROP SECTION (R9). The DROP SECTION request held by port `p` is granted and executed whole. -/
  | dropSection (p : Port)
  /-- ADD SHEET (R11). The ADD SHEET request held by port `p` is granted and executed whole. -/
  | addSheet (p : Port)
  /-- DROP SHEET (R12). The DROP SHEET request held by port `p` is granted and executed whole. -/
  | dropSheet (p : Port)
  /-- SET LAYOUT (R15). The SET LAYOUT request held by port `p` is granted and executed whole. -/
  | setLayout (p : Port)
  /-- APPROVE SHEET (R52). The APPROVE SHEET request held by port `p` is granted and executed whole. -/
  | approveSheet (p : Port)
  /-- UNLOCK SHEET (R53). The UNLOCK SHEET request held by port `p` is granted and executed whole. -/
  | unlockSheet (p : Port)
  /-- ADD ENTRY (R34). The ADD ENTRY request held by port `p` is granted and executed whole. -/
  | addEntry (p : Port)
  /-- DROP ENTRY (R35). The DROP ENTRY request held by port `p` is granted and executed whole. -/
  | dropEntry (p : Port)
  /-- EDIT ENTRY NAME (R37). The EDIT ENTRY NAME request held by port `p` is granted and executed whole. -/
  | editEntryName (p : Port)
  /-- EDIT ENTRY ROLE (R38). The EDIT ENTRY ROLE request held by port `p` is granted and executed whole. -/
  | editEntryRole (p : Port)
  /-- EDIT ENTRY STATUS (R39). The EDIT ENTRY STATUS request held by port `p` is granted and executed whole. -/
  | editEntryStatus (p : Port)
  /-- EDIT ENTRY PORTRAIT (R40). The EDIT ENTRY PORTRAIT request held by port `p` is granted and executed whole. -/
  | editEntryPortrait (p : Port)
  /-- MOVE ENTRY (R41). The MOVE ENTRY request held by port `p` is granted and executed whole. -/
  | moveEntry (p : Port)
  /-- SWAP PORTRAITS (R42). The SWAP PORTRAITS request held by port `p` is granted and executed whole. -/
  | swapPortraits (p : Port)
  /-- RESERVE PORTRAIT (R63). The RESERVE PORTRAIT request held by port `p` is granted and executed whole. -/
  | reservePortrait (p : Port)
  /-- RELEASE PORTRAIT (R64). The RELEASE PORTRAIT request held by port `p` is granted and executed whole. -/
  | releasePortrait (p : Port)
  /-- SET FACE BOX (R65). The SET FACE BOX request held by port `p` is granted and executed whole. -/
  | setFaceBox (p : Port)
  /-- SUBMIT RUN (R120). The SUBMIT RUN request held by port `p` is granted and executed whole. -/
  | submitRun (p : Port)
  /-- SUBMIT PROOF (R121). The SUBMIT PROOF request held by port `p` is granted and executed whole. -/
  | submitProof (p : Port)
  /-- CANCEL JOB (R124). The CANCEL JOB request held by port `p` is granted and executed whole. -/
  | cancelJob (p : Port)
  /-- FORCE RESYNC (R163). The FORCE RESYNC request held by port `p` is granted and executed whole. -/
  | forceResync (p : Port)
  /-- SET PRESS (R164). The SET PRESS request held by port `p` is granted and executed whole. -/
  | setPress (p : Port)
  /-- SET ARBITER (R176). The SET ARBITER request held by port `p` is granted and executed whole. -/
  | setArbiter (p : Port)
  /-- READ BOOK (R23). The READ BOOK request held by port `p` is granted and executed whole. -/
  | readBook (p : Port)
  /-- READ SECTION (R23). The READ SECTION request held by port `p` is granted and executed whole. -/
  | readSection (p : Port)
  /-- READ SHEET (R23). The READ SHEET request held by port `p` is granted and executed whole. -/
  | readSheet (p : Port)
  /-- READ ENTRY (R45). The READ ENTRY request held by port `p` is granted and executed whole. -/
  | readEntry (p : Port)
  /-- READ ROSTER INDEX (R45). The READ ROSTER INDEX request held by port `p` is granted and executed whole. -/
  | readRosterIndex (p : Port)
  /-- READ PORTRAIT (R66). The READ PORTRAIT request held by port `p` is granted and executed whole. -/
  | readPortrait (p : Port)
  /-- READ IMAGE PORT (R66). The READ IMAGE PORT request held by port `p` is granted and executed whole. -/
  | readImagePort (p : Port)
  /-- READ PLACEMENT UNIT (R78). The READ PLACEMENT UNIT request held by port `p` is granted and executed whole. -/
  | readPlacementUnit (p : Port)
  /-- READ PLACEMENT RESULT (R95). The READ PLACEMENT RESULT request held by port `p` is granted and executed whole. -/
  | readPlacementResult (p : Port)
  /-- READ TILE (R95). The READ TILE request held by port `p` is granted and executed whole. -/
  | readTile (p : Port)
  /-- READ JOB (R125). The READ JOB request held by port `p` is granted and executed whole. -/
  | readJob (p : Port)
  /-- READ PRESS JOB COLLECTIONS (R125). The READ PRESS JOB COLLECTIONS request held by port `p` is granted and executed whole. -/
  | readPressJobCollections (p : Port)
  /-- READ RENDERER (R125). The READ RENDERER request held by port `p` is granted and executed whole. -/
  | readRenderer (p : Port)
  /-- READ PRESS LINK (R143). The READ PRESS LINK request held by port `p` is granted and executed whole. -/
  | readPressLink (p : Port)
  /-- READ DESK PORT (R179). The READ DESK PORT request held by port `p` is granted and executed whole. -/
  | readDeskPort (p : Port)
  /-- READ ARBITER (R179). The READ ARBITER request held by port `p` is granted and executed whole. -/
  | readArbiter (p : Port)
  /-- READ COUNTERS (R188). The READ COUNTERS request held by port `p` is granted and executed whole. -/
  | readCounters (p : Port)
  /-- READ SETTINGS PORT (R197). The READ SETTINGS PORT request held by port `p` is granted and executed whole. -/
  | readSettingsPort (p : Port)
  /-- READ NOTICES (R184). The READ NOTICES request held by port `p` is granted and executed whole. -/
  | readNotices (p : Port)
  /-- SET NOTICE MASK (R185). The SET NOTICE MASK request held by port `p` is granted and executed whole. -/
  | setNoticeMask (p : Port)
  /-- CLEAR COUNTERS (R188). The CLEAR COUNTERS request held by port `p` is granted and executed whole. -/
  | clearCounters (p : Port)
  /-- SAVE SETTINGS (R197). The SAVE SETTINGS request held by port `p` is granted and executed whole. -/
  | saveSettings (p : Port)
  /-- SETTINGS SAVE COMPLETE (R197). The settings write ends; `readBack` is what the read-back returned. -/
  | settingsSaveComplete (readBack : List Byte)
  /-- IMAGE HEADER (R69). A transfer arrives at the image port as its words, `words` being all of it: a header, when bits 31-28
  of its first word name one (R192). Words of another kind do what that transfer does (assumption 47). -/
  | imageHeader (words : List Word32)
  /-- IMAGE HEADER GRANT (R69). The arbiter grants the table engine to the header that waits in the image port. -/
  | imageHeaderGrant
  /-- IMAGE PAYLOAD (R70). A payload transfer arrives: the byte count of its first word, and the words after that, four bytes
  to a word. -/
  | imagePayload (count : Nat) (words : List Word32)
  /-- IMAGE END MARK (R71). An end mark arrives, carrying a 32-bit check. -/
  | imageEndMark (check : Word32)
  /-- IMAGE END MARK GRANT (R72). The arbiter grants the table engine to the end mark that waits in the image port. -/
  | imageEndMarkGrant
  /-- IMAGE ABORT (R75). An ABORT arrives at the image port. -/
  | imageAbort
  /-- LOAD TIMER EXPIRY (R76). The load timer expires. -/
  | loadTimerExpiry
  /-- PLACEMENT TAKE (R79). The placement unit takes the sheet at the queue head. -/
  | placementTake
  /-- PLACEMENT COMPLETION (R20). The placement unit posts its completion. -/
  | placementCompletion
  /-- RENDERER GRANT (R126). The free renderer grants itself to the job the grant order names. -/
  | rendererGrant
  /-- BAND BEGIN (R128). The ACTIVE job begins producing a band. -/
  | bandBegin
  /-- BAND COMPLETION (R128). The band in production completes. -/
  | bandCompletion
  /-- STALL TIMER EXPIRY (R129). The stall timer expires. -/
  | stallTimerExpiry
  /-- MARK REPORT (R144). A mark report arrives from press `q`, with its three fields (R155). -/
  | markReport (q : Press) (found stray : Bool) (offset : BitVec 12)
  /-- FRAME REQUEST (R145). A frame request arrives from press `q`. -/
  | frameRequest (q : Press)
  /-- STATUS REPORT (R149). A status report arrives from press `q`: OK, or CHECK_ERROR. -/
  | statusReport (q : Press) (checkError : Bool)
  /-- ONLINE FALL (R153). Press `q`'s online line falls. -/
  | onlineFall (q : Press)
  /-- ONLINE RISE (R154). Press `q`'s online line rises. -/
  | onlineRise (q : Press)
  /-- BAD RETURN WORD (R194). A return-lane word of unknown kind, or with nonzero unused bits, arrives from press `q`. -/
  | badReturnWord (q : Press) (word : Word32)
  /-- RESET (R139). Power-on, or the RESET input. -/
  | reset
  /-- SETTINGS LOAD COMPLETE (R196). The start-up settings read ends with the bytes read, or with none when the memory does not answer. -/
  | settingsLoadComplete (image : Option (List Byte))
  /-- REQUEST FRAME START (R167). A request frame begins on port `p`'s idle request line. -/
  | requestFrameStart (p : Port)
  deriving DecidableEq, Repr

end Sys2Proof
end

