-- ==== Sys2Proof/Decode.lean ====
section
/-! DEFINITION. The command that a word spells by the bits of spec/opcode_table.json. No row of the table gives bits: the part
fetches no program, and its commands arrive as frames, transfers, lane words and events. -/

/-- The command that the low `nbits` bits of `w` spell by the table's bits: none, since no row gives any. The words the part
does receive are read by `requestOf`, `headerOf`, `settingsOf` and `returnUnitOf` under Machine/. -/
def Sys2Proof.decodeTableWord (_nbits _w : Nat) : Option Sys2Proof.Instr := none
end

