-- ==== Sys2Proof/Config.lean ====
section
/-! DEFINITION. The device's fixed capacities and default settings, and the values the reference leaves open. -/

namespace Sys2Proof.Config

/-- Book slots (R1). -/
def bookSlots : Nat := 6
/-- Section slots (R1). -/
def sectionSlots : Nat := 96
/-- Sheet slots (R1). -/
def sheetSlots : Nat := 192
/-- Entry slots (R1). -/
def entrySlots : Nat := 3072
/-- Portrait slots (R58). -/
def portraitSlots : Nat := 3072
/-- Sections one book may hold (R1). -/
def sectionsPerBook : Nat := 32
/-- Sheets one section may hold (R1). -/
def sheetsPerSection : Nat := 8
/-- Entries one roster may hold (R1). -/
def entriesPerRoster : Nat := 256
/-- Blocks of the image pool (R67). -/
def poolBlocks : Nat := 262144
/-- Bytes of one pool block (R67). -/
def blockBytes : Nat := 65536
/-- Tiles one placement result may hold (R82). -/
def maxTiles : Nat := 48
/-- Places of a desk port's reply queue (R167). -/
def replyPlaces : Nat := 4
/-- Frames a band FIFO holds (R142). -/
def fifoFrames : Nat := 6
/-- Records of an attempt list (R143). -/
def attemptRecords : Nat := 4
/-- RUN jobs of one run queue (R119). -/
def runQueuePlaces : Nat := 12
/-- PROOF jobs of one proof list (R119). -/
def proofListPlaces : Nat := 4
/-- The highest job tag (R118). -/
def maxTag : Nat := 4095
/-- Rows of a band (R140). -/
def bandRows : Nat := 128
/-- The load timer, in milliseconds (R76). -/
def loadTimerMs : Nat := 2000

/-- What a byte of the image pool that nothing has written reads as. DESIGN CHOICE, unsafe: the reference gives the pool
no contents after power-on (assumption 3). -/
def unwrittenPixel : Byte := 0

/-- The header bytes of a fill frame that R193 does not state (all but the start, the job tag, the span count, the
payload length and the check), by byte number. A free value: no body, so nothing can be proved of it (assumption 4). -/
opaque fillHeaderByte : Nat → Byte

/-- Bits 19-0 of image reply word 0 where R192 gives neither a block count nor a generation, by a number that the
reply's fields make. A free value (assumption 5). -/
opaque imageReplyFiller : Nat → Nat

/-- Bits 31-20 of image reply word 1, which R192 does not give, by the free count in bits 19-0. A free value (assumption
5). -/
opaque imageReplyUpper : Nat → Nat

/-- The length byte of a string of more than 255 characters, by its length: R189 gives a string one length byte, and R114 lets
a not-pictured line be longer than it can say. A free value (assumption 55). -/
opaque longStringLength : Nat → Nat

end Sys2Proof.Config
end

