-- ==== Sys2Proof/Machine/Bytes.lean ====
section
/-! DEFINITION. Byte order, field widths and check words of the link formats (R189 to R191). -/

namespace Sys2Proof.Machine

open Sys2Proof

/-- A 1-byte field: a code, a flag, a weight or a generation (R191). -/
def byte1 (n : Nat) : List Byte := [BitVec.ofNat 8 n]

/-- A 2-byte field, most significant byte first (R189, R191). -/
def byte2 (n : Nat) : List Byte := [BitVec.ofNat 8 (n / 256), BitVec.ofNat 8 n]

/-- A 4-byte field, most significant byte first (R189, R191). -/
def byte4 (n : Nat) : List Byte :=
  [BitVec.ofNat 8 (n / 16777216), BitVec.ofNat 8 (n / 65536), BitVec.ofNat 8 (n / 256), BitVec.ofNat 8 n]

/-- A signed 2-byte field in two's complement (R189). -/
def byte2s (x : Int) : List Byte := byte2 (x % 65536).toNat

/-- A flag byte (R190, R191). -/
def byteFlag (b : Bool) : List Byte := byte1 (if b then 1 else 0)

/-- A string: a length byte and one code per character (R189). A string of more than 255 characters, which a not-pictured line
can be (R114), has no length that a byte holds: its length byte is a free value (assumption 55). -/
def byteStr (s : Str) : List Byte :=
  byte1 (if s.length < 256 then s.length else Config.longStringLength s.length) ++ s.flatMap byte1

/-- A slot, index or tag that may be absent: FFFFh when it is (R191). -/
def byteSlot (o : Option Nat) : List Byte := byte2 (o.getD 65535)

/-- Any other value that may be absent: a presence byte, and the value when it is present (R191). -/
def bytePresent {α : Type} (f : α → List Byte) : Option α → List Byte
  | none => byte1 0
  | some a => byte1 1 ++ f a

/-- A list of values: its count in 2 bytes, then its members (R191). -/
def byteList {α : Type} (f : α → List Byte) (l : List α) : List Byte := byte2 l.length ++ l.flatMap f

/-- One bit of the 16-bit check (R190): polynomial 1021h, most significant bit first. -/
def crc16Bit (c : BitVec 16) : BitVec 16 :=
  if c.getLsbD 15 then (c <<< 1) ^^^ 0x1021#16 else c <<< 1

/-- One byte of the 16-bit check. -/
def crc16Byte (c : BitVec 16) (b : Byte) : BitVec 16 :=
  crc16Bit (crc16Bit (crc16Bit (crc16Bit (crc16Bit (crc16Bit (crc16Bit (crc16Bit (c ^^^ (b.zeroExtend 16 <<< 8)))))))))

/-- The 16-bit check of desk frames, band frames and the settings image (R190). -/
def crc16 (bs : List Byte) : BitVec 16 := bs.foldl crc16Byte 0xFFFF#16

/-- One bit of the 32-bit check (R190): polynomial 04C11DB7h, most significant bit first. -/
def crc32Bit (c : BitVec 32) : BitVec 32 :=
  if c.getLsbD 31 then (c <<< 1) ^^^ 0x04C11DB7#32 else c <<< 1

/-- One byte of the 32-bit check. -/
def crc32Byte (c : BitVec 32) (b : Byte) : BitVec 32 :=
  crc32Bit (crc32Bit (crc32Bit (crc32Bit (crc32Bit (crc32Bit (crc32Bit (crc32Bit (c ^^^ (b.zeroExtend 32 <<< 24)))))))))

/-- The 32-bit check of the image payload, continued from `c` over more bytes (R70, R190). -/
def crc32From (c : BitVec 32) (bs : List Byte) : BitVec 32 := bs.foldl crc32Byte c

/-- The initial value of the 32-bit check (R190). -/
def crc32Init : BitVec 32 := 0xFFFFFFFF#32

/-- The four bytes of a 32-bit word, most significant first (R189, R192). -/
def wordBytes (w : Word32) : List Byte :=
  [w.extractLsb' 24 8, w.extractLsb' 16 8, w.extractLsb' 8 8, w.extractLsb' 0 8]

/-- The unsigned number two bytes make, the first the more significant (R189). -/
def number2 (hi lo : Byte) : Nat := hi.toNat * 256 + lo.toNat

/-- A code of the caption set that a station may send: any but the elision mark (R25, R26). -/
def sendable (s : Str) : Bool := s.all (· < 95)

/-- The decimal digits of `n` as caption-set codes (33 is the digit 0), no leading zeros; `fuel` bounds the digits. -/
def decimalWith : Nat → Nat → Str
  | 0, _ => []
  | fuel + 1, n => if n < 10 then [33 + n] else decimalWith fuel (n / 10) ++ [33 + n % 10]

/-- A number in decimal with no leading zeros (R17, R116). -/
def decimal (n : Nat) : Str := decimalWith 20 n

end Sys2Proof.Machine
end

