-- ==== Sys2Proof/Machine/State.lean ====
section
/-! DEFINITION. The state of the FVK-4016 as plain data, its reset value, and the reasons a step may stop.
A table of slots is a list of (slot number, record) pairs with strictly rising slot numbers; a slot that is not listed is
free. Every list that the reference orders (queues, rosters, section lists) is a list in that order. -/

namespace Sys2Proof.Machine

open Sys2Proof

/-! ### Faults and refusals -/

/-- The faults of the machine. There are none: the reference gives every command an effect in every state, so no step
of this model ends in a fault. -/
inductive Fault where
  deriving DecidableEq, Repr

/-- Why a step may be refused. -/
inductive Refusal where
  /-- Raised by `exec` alone, for a command that has no meaning yet; safe. No arm of `exec` raises it. -/
  | notModelled (mnemonic : String)
  deriving DecidableEq, Repr

/-! ### Collections of a fixed number of like things -/

/-- One value for each desk port. -/
structure PerPort (α : Type) where
  dp0 : α
  dp1 : α
  dp2 : α
  dp3 : α
  deriving DecidableEq, Repr

/-- One value for each press. -/
structure PerPress (α : Type) where
  a : α
  b : α
  deriving DecidableEq, Repr

/-! ### Replies (R170) -/

/-- The refusal reasons, in the order of the table of R170. -/
inductive Reason where
  | badForm | badIndex | notOpen | tableFull | listFull | orderTaken | locked | inPress | frozen | inUse
  | badLayout | badFace | poolFull | queueFull | notEligible | disabled | badCheck
  deriving DecidableEq, Repr

/-- The status of a reply frame or a reply word. -/
inductive Status where
  | done | busy | refused
  deriving DecidableEq, Repr

/-- A reply frame (R170, R191). -/
structure Reply where
  tag : Nat
  status : Status
  reason : Option Reason
  adjusted : Bool
  /-- The blocking slot: the sheet that stopped a change. -/
  blocking : Option Nat
  /-- The data bytes, laid out by R191. -/
  data : List Byte
  deriving DecidableEq, Repr

/-! ### The desk ports (R167) -/

/-- The receiver of a desk port. -/
inductive Receiver where
  | idle | receiving | atBreak
  deriving DecidableEq, Repr

/-- A request as a valid frame brought it: its code, its tag and its field bytes (R191). -/
structure HeldRequest where
  code : Nat
  tag : Nat
  fields : List Byte
  deriving DecidableEq, Repr

/-- The request slot of a desk port. -/
inductive Slot where
  | empty
  | waiting (r : HeldRequest)
  | granted (r : HeldRequest)
  deriving DecidableEq, Repr

/-- The subject a notice records (section 11.1). -/
inductive Subject where
  | none
  | sheet (i : Nat)
  | job (tag : Nat)
  | press (q : Press)
  | portrait (i : Option Nat)
  | counter (unit index : Nat)
  deriving DecidableEq, Repr

/-- A latched notice flag: its occurrence count, 1 to 255, and its subject (R180). -/
structure Latch where
  count : Nat
  subject : Subject
  deriving DecidableEq, Repr

/-- One desk port (R167, R180, R183). Its weight is the arbiter's, its counters are the counter block's. -/
structure DeskPort where
  receiver : Receiver
  slot : Slot
  /-- The silent mark: the reply of the GRANTED request is to be withheld. -/
  silent : Bool
  /-- The reply queue, head first; the head frame is the one being sent. -/
  replies : List Reply
  /-- The notice set by flag number; a flag that is not listed is clear. -/
  notices : List (Nat × Latch)
  /-- The notice mask: bit n masks flag n. -/
  mask : BitVec 16
  defaultMask : BitVec 16
  /-- The attention line is asserted. -/
  attention : Bool
  /-- The request line is at break level (the pin). -/
  breakLevel : Bool
  deriving DecidableEq, Repr

/-! ### The arbiter (R173) -/

/-- A requester of the table engine. -/
inductive Requester where
  | desk (p : Port)
  | image
  deriving DecidableEq, Repr

/-- The request arbiter. The ring is fixed. -/
structure Arbiter where
  weights : PerPort Nat
  imageWeight : Nat
  /-- The turn pointer. -/
  turn : Requester
  /-- The run count. -/
  run : Nat
  /-- The engine: FREE, or HELD for a requester. -/
  engine : Option Requester
  deriving DecidableEq, Repr

/-! ### The book table (R1 to R24) -/

/-- The policy of a book for absent entries (R2). -/
inductive AbsentPolicy where
  | silhouette | list | omit
  deriving DecidableEq, Repr

/-- The policy of a book for withheld entries (R2). -/
inductive WithheldPolicy where
  | silhouette | omit
  deriving DecidableEq, Repr

/-- An OPEN book. A book slot that is not listed is CLOSED. -/
structure Book where
  label : Str
  firstFolio : Nat
  absent : AbsentPolicy
  withheld : WithheldPolicy
  /-- The drift tolerance, in dots. -/
  tolerance : Nat
  holdOnDrift : Bool
  /-- The section slots in ascending order of order key. -/
  sections : List Nat
  deriving DecidableEq, Repr

/-- A section (R6). -/
structure Section where
  book : Nat
  key : Nat
  label : Str
  /-- The entry ids in collation order. -/
  roster : List Nat
  /-- The sheet slots in position order: a sheet's position is its index here. -/
  sheets : List Nat
  deriving DecidableEq, Repr

/-- A layout record (R13), in the order of its table. -/
structure Layout where
  sheetWidth : Nat
  sheetHeight : Nat
  bodyLeft : Nat
  bodyTop : Nat
  bodyWidth : Nat
  bodyHeight : Nat
  columns : Nat
  cellWidth : Nat
  cellHeight : Nat
  captionHeight : Nat
  lineHeight : Nat
  /-- The caption advance A. -/
  advance : Nat
  gutterAcross : Nat
  gutterDown : Nat
  headHeight : Nat
  eyeRow : Nat
  listLines : Nat
  featureFirst : Bool
  centreLast : Bool
  pattern : Nat
  deriving DecidableEq, Repr

/-- The states of a sheet slot that holds a sheet (R10). -/
inductive SheetState where
  | unlaid | stale | placing | placed | held | inPress
  deriving DecidableEq, Repr

/-- A hold reason (R86). -/
inductive Hold where
  | overflow | portraitMissing | drift
  deriving DecidableEq, Repr

/-- The fit of a PORTRAIT tile (R107). -/
structure Fit where
  scale : Nat
  x0 : Int
  y0 : Int
  w : Nat
  h : Nat
  /-- The eye drift. -/
  drift : Int
  deriving DecidableEq, Repr

/-- The flags of a tile (R94). -/
structure TileFlags where
  raised : Bool
  clamped : Bool
  padded : Bool
  inexact : Bool
  drift : Bool
  deriving DecidableEq, Repr

/-- What a tile shows: a fitted portrait, or a placeholder pattern (R85, R94). -/
inductive TileKind where
  | portrait (slot generation : Nat) (fit : Fit) (flags : TileFlags)
  | placeholder (pattern : Nat)
  deriving DecidableEq, Repr

/-- One caption line: its string and its x offset within the area (R113). -/
structure CaptionLine where
  text : Str
  x : Nat
  deriving DecidableEq, Repr

/-- A tile record (R94). -/
structure Tile where
  entry : Nat
  row : Nat
  col : Nat
  /-- The span is 2 × 2: the feature tile. -/
  feature : Bool
  x : Nat
  y : Nat
  width : Nat
  height : Nat
  kind : TileKind
  caption : List CaptionLine
  /-- The CUT mark of the caption. -/
  cut : Bool
  deriving DecidableEq, Repr

/-- The footer line as set (R92). -/
structure FooterLine where
  text : Str
  x : Nat
  y : Nat
  cut : Bool
  deriving DecidableEq, Repr

/-- A placement result (R93). -/
structure PlacementResult where
  tiles : List Tile
  notPictured : List Str
  footer : Str
  footerLine : FooterLine
  featureActive : Bool
  rows : Nat
  /-- The centring shift of the last row, 0 when it is not centred. -/
  shift : Nat
  /-- The tile-sequence position of tile 0, none when there is no tile. -/
  firstTile : Option Nat
  overflow : Nat
  driftCount : Nat
  paddedCount : Nat
  clampedCount : Nat
  inexactCount : Nat
  cutCount : Nat
  deriving DecidableEq, Repr

/-- A sheet record (R10). Its position is its index in its section's sheet list; its placement epoch is kept by slot
in `State.epochs`, because the slot keeps it when the sheet is removed. -/
structure Sheet where
  section_ : Nat
  state : SheetState
  /-- The approval lock is set. -/
  lock : Bool
  layout : Option Layout
  result : Option PlacementResult
  hold : Option Hold
  printCount : Nat
  /-- The tag of the sheet's job. -/
  job : Option Nat
  deriving DecidableEq, Repr

/-- The role of an entry (R24), in collation rank order. -/
inductive Role where
  | teacher | staff | student
  deriving DecidableEq, Repr

/-- The status of an entry (R24). -/
inductive EntryStatus where
  | present | absent | withheld
  deriving DecidableEq, Repr

/-- An entry record (R24). -/
structure Entry where
  section_ : Nat
  surname : Str
  given : Str
  role : Role
  status : EntryStatus
  portrait : Option Nat
  deriving DecidableEq, Repr

/-! ### The portrait directory and the image pool (R58, R59, R67) -/

/-- A face box (R59): crown row, eye row, chin row, centre column. -/
structure FaceBox where
  crown : Nat
  eye : Nat
  chin : Nat
  centre : Nat
  deriving DecidableEq, Repr

/-- An image descriptor (R59). -/
structure Image where
  width : Nat
  height : Nat
  face : FaceBox
  blocks : Nat
  generation : Nat
  deriving DecidableEq, Repr

/-- The state of a portrait slot (R58). -/
inductive PortraitState where
  | free | empty | ready
  deriving DecidableEq, Repr

/-- A portrait record (R58). -/
structure Portrait where
  state : PortraitState
  current : Option Image
  pendingImage : Option Image
  /-- The generation counter. -/
  generation : Nat
  useCount : Nat
  pinCount : Nat
  lockCount : Nat
  deriving DecidableEq, Repr

/-- What owns a block of the pool (R67). -/
inductive Owner where
  | current (portrait : Nat)
  | pending (portrait : Nat)
  | inbound
  deriving DecidableEq, Repr

/-- The image pool (R67): the free count, the owner of each owned block by block number, and the bytes written. A block's
bytes lie at its number times 65,536; a byte that is not listed reads as `Config.unwrittenPixel`. -/
structure Pool where
  freeCount : Nat
  owned : List (Nat × Owner)
  cells : List Host.Cell
  deriving DecidableEq, Repr

/-! ### The image port (R68) -/

/-- The states of the image port. -/
inductive ImagePortState where
  | idle | headerWait | receiving | endWait
  deriving DecidableEq, Repr

/-- The fields of a load header (R192). -/
structure LoadHeader where
  slot : Nat
  width : Nat
  height : Nat
  face : FaceBox
  deriving DecidableEq, Repr

/-- The inbound load record (R68), with the port's running check over the payload bytes received (R70). -/
structure LoadRecord where
  header : LoadHeader
  blockCount : Nat
  /-- The reserved blocks in ascending order. -/
  blocks : List Nat
  received : Nat
  check : BitVec 32
  deriving DecidableEq, Repr

/-- The outcome field of an image reply word (R192). -/
inductive LoadOutcome where
  | none | committed | pending | dropped
  deriving DecidableEq, Repr

/-- A reply of the image port (R192). `value` is the block count or the generation, none where the reference gives
neither. -/
structure ImageReply where
  status : Status
  reason : Option Reason
  outcome : LoadOutcome
  value : Option Nat
  freeCount : Nat
  deriving DecidableEq, Repr

/-- The image port. -/
structure ImagePort where
  state : ImagePortState
  /-- The header that waits in HEADER_WAIT. -/
  header : Option LoadHeader
  load : Option LoadRecord
  /-- The load timer: the milliseconds left, none when it is stopped. -/
  timer : Option Nat
  /-- The last reply put on the image reply lines. -/
  reply : Option ImageReply
  deriving DecidableEq, Repr

/-! ### Placement (R31, R78, R79) -/

/-- One tile entry of a sheet's inputs (R31). -/
structure TileEntry where
  id : Nat
  surname : Str
  given : Str
  role : Role
  status : EntryStatus
  portrait : Option Nat
  deriving DecidableEq, Repr

/-- A portrait image as a sheet's input (R31). -/
structure ImageInput where
  width : Nat
  height : Nat
  face : FaceBox
  generation : Nat
  deriving DecidableEq, Repr

/-- The inputs of a sheet that has a layout (R31). -/
structure Inputs where
  layout : Layout
  /-- The overflow count, a part of the last sheet's share alone: none on any other sheet (R15, R31; assumption 44). -/
  overflow : Option Nat
  tiles : List TileEntry
  /-- For each tile entry, the current image that counts; none when the entry is not PRESENT, has no portrait, or its
  portrait has no current image. -/
  images : List (Option ImageInput)
  /-- The not-pictured names (given name, surname) of the last sheet. -/
  listed : List (Str × Str)
  footer : Str
  absent : AbsentPolicy
  withheld : WithheldPolicy
  tolerance : Nat
  holdOnDrift : Bool
  deriving DecidableEq, Repr

/-- The sheet in progress of a BUSY placement unit (R79): its slot, the epoch recorded at the take, and the copy. -/
structure InProgress where
  sheet : Nat
  epoch : BitVec 16
  inputs : Inputs
  /-- The first tile-sequence position of the share. -/
  start : Nat
  /-- The sheet is the last sheet of its section. -/
  last : Bool
  folio : Nat
  deriving DecidableEq, Repr

/-! ### The job table and the renderer (R118, R119, R125, R139) -/

/-- The kind of a job. -/
inductive JobKind where
  | run | proof
  deriving DecidableEq, Repr

/-- The states of a job (R118). -/
inductive JobState where
  | waiting | active | suspended | draining
  deriving DecidableEq, Repr

/-- The ending mark of a job (R118). -/
inductive EndMark where
  | none | cancelled | aborted
  deriving DecidableEq, Repr

/-- A job (R118). `rewind` is the rewind that waits for the next band boundary: the spoiled copy (R136). -/
structure Job where
  tag : Nat
  sheet : Nat
  press : Press
  kind : JobKind
  copies : Nat
  done : Nat
  port : Port
  state : JobState
  started : Bool
  resumeCopy : Nat
  resumeBand : Nat
  serial : Nat
  spoils : Nat
  ending : EndMark
  rewind : Option Nat
  deriving DecidableEq, Repr

/-- The band in production (R128). -/
structure BandInProduction where
  copy : Nat
  band : Nat
  serial : Nat
  deriving DecidableEq, Repr

/-- The renderer. The ACTIVE and the SUSPENDED job are the jobs in those states. -/
structure Renderer where
  band : Option BandInProduction
  /-- The press served last. -/
  lastServed : Press
  /-- The stall timer: the milliseconds left, none when it is stopped. -/
  stallTimer : Option Nat
  /-- The stall window, in milliseconds. -/
  stallWindow : Nat
  deriving DecidableEq, Repr

/-! ### The press links (R140 to R143, R156) -/

/-- The kind of a text span (R141). -/
inductive TextKind where
  | caption | list | footer
  deriving DecidableEq, Repr

/-- What a span entry carries beyond its rectangle (R141). -/
inductive SpanBody where
  | portrait (slot generation : Nat) (x0 y0 : Int) (w h scale : Nat)
  | placeholder (pattern areaWidth areaHeight : Nat)
  | text (kind : TextKind) (length advance lineHeight : Nat) (cut : Bool)
  deriving DecidableEq, Repr

/-- A span entry (R141); `y` counts from the band's top row. -/
structure Span where
  x : Nat
  y : Nat
  width : Nat
  height : Nat
  rowOffset : Nat
  body : SpanBody
  deriving DecidableEq, Repr

/-- A band frame (R140). Its check is computed when it is sent. -/
structure BandFrame where
  tag : Nat
  serial : Nat
  copy : Nat
  band : Nat
  bandCount : Nat
  bandHeight : Nat
  sheetWidth : Nat
  proof : Bool
  startCorrection : Int
  spans : List Span
  payload : List Byte
  deriving DecidableEq, Repr

/-- What a press link puts on its outbound lane: a band frame with its check, or fill (R145 to R147). -/
inductive LaneFrame where
  | fill
  | band (f : BandFrame) (check : BitVec 16)
  deriving DecidableEq, Repr

/-- The registration policy of a press (R159). -/
inductive PressPolicy where
  | auto | manual
  deriving DecidableEq, Repr

/-- The registration states (R156). -/
inductive RegState where
  | offline | search | confirm | locked
  deriving DecidableEq, Repr

/-- The registration lock of a press link (R156). -/
structure Registration where
  state : RegState
  confirm : Nat
  bad : Nat
  search : Nat
  correction : Int
  /-- The REG_TIMEOUT condition. -/
  timedOut : Bool
  captureWindow : Nat
  holdWindow : Nat
  searchTimeout : Nat
  policy : PressPolicy
  deriving DecidableEq, Repr

/-- The sheet period of a press link (R143): closed, or open with its first frame request answered or not. -/
inductive Period where
  | closed
  | opened (firstAnswered : Bool)
  deriving DecidableEq, Repr

/-- The attempt in transmission (R143). -/
structure Transmission where
  tag : Nat
  copy : Nat
  serial : Nat
  bandCount : Nat
  next : Nat
  deriving DecidableEq, Repr

/-- An attempt record (R143). -/
structure Attempt where
  tag : Nat
  copy : Nat
  serial : Nat
  bandCount : Nat
  sent : Nat
  received : Nat
  error : Bool
  voided : Bool
  deriving DecidableEq, Repr

/-- A dead rule (R148): a job's frames at `copy` or later are dead, but for those of the live serial, if there is one. -/
structure DeadRule where
  tag : Nat
  copy : Nat
  serial : Option Nat
  deriving DecidableEq, Repr

/-- A press link with its band FIFO and registration lock (R142, R143, R156). -/
structure Link where
  /-- The press's online line is high (the pin). -/
  onlineLine : Bool
  /-- The link state is ONLINE. -/
  online : Bool
  reg : Registration
  period : Period
  transmission : Option Transmission
  attempts : List Attempt
  rules : List DeadRule
  fifo : List BandFrame
  /-- The frame last put on the outbound lane, none since reset when nothing was. -/
  lane : Option LaneFrame
  deriving DecidableEq, Repr

/-! ### Counters and settings (R186, R195, R197) -/

/-- A counter with its overflow flag (R186). -/
structure Counter where
  value : BitVec 32
  overflow : Bool
  deriving DecidableEq, Repr

/-- A press's part of the settings image (R195). -/
structure PressSettings where
  captureWindow : Nat
  holdWindow : Nat
  searchTimeout : Nat
  policy : PressPolicy
  deriving DecidableEq, Repr

/-- The values of a settings image (R195). -/
structure Settings where
  weights : PerPort Nat
  imageWeight : Nat
  presses : PerPress PressSettings
  stallWindow : Nat
  masks : PerPort (BitVec 16)
  deriving DecidableEq, Repr

/-- The states of the settings port (R196, R197). -/
inductive SettingsState where
  | loading | idle | saving
  deriving DecidableEq, Repr

/-- The last save result (R197). -/
inductive SaveResult where
  | none | ok | failed
  deriving DecidableEq, Repr

/-- The settings port. While it is SAVING, `image` is the image being written. -/
structure SettingsPort where
  state : SettingsState
  lastSave : SaveResult
  /-- The values of the last image loaded or saved. -/
  image : Settings
  deriving DecidableEq, Repr

/-! ### The state -/

/-- The state of the engine. -/
structure State where
  /-- The commands that wait, first in, first out: the model's own. -/
  pending : List Instr
  ports : PerPort DeskPort
  arbiter : Arbiter
  books : List (Nat × Book)
  sections : List (Nat × Section)
  sheets : List (Nat × Sheet)
  /-- The placement epoch of each sheet slot; a slot that is not listed has epoch 0. -/
  epochs : List (Nat × BitVec 16)
  entries : List (Nat × Entry)
  /-- The placement queue, head first (R78). -/
  queue : List Nat
  /-- The placement unit: IDLE, or BUSY with a sheet in progress. -/
  placing : Option InProgress
  /-- The portrait directory; a slot that is not listed holds `Portrait.reset`. -/
  portraits : List (Nat × Portrait)
  pool : Pool
  image : ImagePort
  /-- The job table in the order of submission of R119: a run queue or proof list is its part of one press and kind. -/
  jobs : List Job
  tagCounter : Nat
  renderer : Renderer
  links : PerPress Link
  /-- The counters by key (8 times the unit number plus the index); one that is not listed is 0 with its flag clear. -/
  counters : List (Nat × Counter)
  settings : SettingsPort
  deriving DecidableEq, Repr

/-! ### Reset (R139 and the reset column of each table) -/

/-- A portrait slot after reset (R58). -/
def Portrait.reset : Portrait :=
  { state := .free, current := none, pendingImage := none, generation := 0, useCount := 0, pinCount := 0, lockCount := 0 }

/-- The default settings (R195). -/
def Settings.default : Settings :=
  { weights := ⟨2, 2, 2, 2⟩
    imageWeight := 4
    presses := ⟨⟨24, 48, 12, .auto⟩, ⟨24, 48, 12, .auto⟩⟩
    stallWindow := 250
    masks := ⟨0, 0, 0, 0⟩ }

/-- A desk port after reset (R167), with its request line at break level or not. -/
def DeskPort.reset (breakLevel : Bool) : DeskPort :=
  { receiver := if breakLevel then .atBreak else .idle
    slot := .empty, silent := false, replies := [], notices := [], mask := 0, defaultMask := 0, attention := false
    breakLevel := breakLevel }

/-- A registration lock after reset (R156), with the default windows until the settings load ends (assumption 6). -/
def Registration.reset (line : Bool) : Registration :=
  { state := if line then .search else .offline
    confirm := 0, bad := 0, search := 0, correction := 0, timedOut := false
    captureWindow := 24, holdWindow := 48, searchTimeout := 12, policy := .auto }

/-- A press link after reset (R142, R143), with its press's online line high or low. -/
def Link.reset (line : Bool) : Link :=
  { onlineLine := line, online := line, reg := Registration.reset line, period := .closed, transmission := none
    attempts := [], rules := [], fifo := [], lane := none }

/-- The arbiter after reset (R173, R196). -/
def Arbiter.reset : Arbiter :=
  { weights := ⟨2, 2, 2, 2⟩, imageWeight := 4, turn := .desk .dp0, run := 0, engine := none }

/-- The pool after reset (R67). -/
def Pool.reset : Pool :=
  { freeCount := Config.poolBlocks, owned := [], cells := [] }

/-- The image port after reset (R68). -/
def ImagePort.reset : ImagePort :=
  { state := .idle, header := none, load := none, timer := none, reply := none }

/-- The renderer after reset (R139). -/
def Renderer.reset : Renderer :=
  { band := none, lastServed := .b, stallTimer := none, stallWindow := 250 }

/-- The settings port after reset: it reads the image (R196). -/
def SettingsPort.reset : SettingsPort :=
  { state := .loading, lastSave := .none, image := Settings.default }

/-- The engine right after reset with the given input pins. -/
def State.resetWith (breakLevels : PerPort Bool) (onlineLines : PerPress Bool) : State :=
  { pending := []
    ports := ⟨DeskPort.reset breakLevels.dp0, DeskPort.reset breakLevels.dp1, DeskPort.reset breakLevels.dp2,
      DeskPort.reset breakLevels.dp3⟩
    arbiter := Arbiter.reset
    books := [], sections := [], sheets := [], epochs := [], entries := []
    queue := [], placing := none
    portraits := [], pool := Pool.reset, image := ImagePort.reset
    jobs := [], tagCounter := 1
    renderer := Renderer.reset
    links := ⟨Link.reset onlineLines.a, Link.reset onlineLines.b⟩
    counters := [], settings := SettingsPort.reset }

/-- The engine right after reset, with every request line at rest and both online lines low (assumption 2). -/
def State.reset : State :=
  State.resetWith ⟨false, false, false, false⟩ ⟨false, false⟩

end Sys2Proof.Machine
end

