-- ==== Sys2Proof/Machine/Ops.lean ====
section
/-! DEFINITION. The named operations every meaning shares: slot tables, desk ports, press links, the records of the book
table, the directory's counts, and the image pool with its memory. -/

namespace Sys2Proof.Machine

open Sys2Proof

/-! ### Slot tables -/

/-- The record a slot holds, none when the slot is free. -/
def tabFind {α : Type} : List (Nat × α) → Nat → Option α
  | [], _ => none
  | (j, a) :: t, i => if i = j then some a else tabFind t i

/-- Store a record in a slot, keeping the slot numbers rising. -/
def tabInsert {α : Type} : List (Nat × α) → Nat → α → List (Nat × α)
  | [], i, a => [(i, a)]
  | (j, b) :: t, i, a =>
    if i = j then (i, a) :: t else if i < j then (i, a) :: (j, b) :: t else (j, b) :: tabInsert t i a

/-- Free a slot. -/
def tabErase {α : Type} (t : List (Nat × α)) (i : Nat) : List (Nat × α) :=
  t.filter (fun e => decide (e.1 ≠ i))

/-- Store a record in a slot, or free it. -/
def tabUpdate {α : Type} (t : List (Nat × α)) (i : Nat) : Option α → List (Nat × α)
  | none => tabErase t i
  | some a => tabInsert t i a

/-- The slot numbers rise strictly: the canonical form of a slot table. -/
def tabSorted {α : Type} : List (Nat × α) → Bool
  | [] => true
  | [_] => true
  | (i, _) :: (j, b) :: t => decide (i < j) && tabSorted ((j, b) :: t)

/-- The lowest-numbered free slot of a table of `n` slots (R1). -/
def tabFree {α : Type} (n : Nat) (t : List (Nat × α)) : Option Nat :=
  (List.range n).find? (fun i => (tabFind t i).isNone)

/-! ### Lists -/

/-- A list with each member kept at its first place. -/
def distinct : List Nat → List Nat
  | [] => []
  | a :: l => a :: (distinct l).filter (fun b => decide (b ≠ a))

/-- `x` put in at index `i` of a list. -/
def insertAt {α : Type} (l : List α) (i : Nat) (x : α) : List α := l.take i ++ x :: l.drop i

/-- The index of `x` in a list, none when it is not there. -/
def indexIn (l : List Nat) (x : Nat) : Option Nat :=
  if l.contains x then some (l.findIdx (· == x)) else none

/-- The quotient of two numbers, rounded up. -/
def ceilDiv (a b : Nat) : Nat := (a + b - 1) / b

/-! ### Desk ports and press links -/

/-- The four desk ports in ring order. -/
def allPorts : List Port := [.dp0, .dp1, .dp2, .dp3]

/-- The two presses. -/
def allPresses : List Press := [.a, .b]

/-- The number of a desk port. -/
def portNumber : Port → Nat
  | .dp0 => 0 | .dp1 => 1 | .dp2 => 2 | .dp3 => 3

/-- The desk port of a number (R179). -/
def portOf : Nat → Option Port
  | 0 => some .dp0 | 1 => some .dp1 | 2 => some .dp2 | 3 => some .dp3 | _ => none

/-- The code of a press (R190). -/
def pressCode : Press → Nat
  | .a => 0 | .b => 1

/-- The press of a code (R190). -/
def pressOf : Nat → Option Press
  | 0 => some .a | 1 => some .b | _ => none

/-- The other press. -/
def otherPress : Press → Press
  | .a => .b | .b => .a

/-- The value kept for a port. -/
def PerPort.get {α : Type} (v : PerPort α) : Port → α
  | .dp0 => v.dp0 | .dp1 => v.dp1 | .dp2 => v.dp2 | .dp3 => v.dp3

/-- Replace the value kept for a port. -/
def PerPort.set {α : Type} (v : PerPort α) (p : Port) (x : α) : PerPort α :=
  match p with
  | .dp0 => { v with dp0 := x } | .dp1 => { v with dp1 := x } | .dp2 => { v with dp2 := x } | .dp3 => { v with dp3 := x }

/-- The value of each port changed by `f`. -/
def PerPort.map {α β : Type} (v : PerPort α) (f : α → β) : PerPort β := ⟨f v.dp0, f v.dp1, f v.dp2, f v.dp3⟩

/-- The value kept for a press. -/
def PerPress.get {α : Type} (v : PerPress α) : Press → α
  | .a => v.a | .b => v.b

/-- Replace the value kept for a press. -/
def PerPress.set {α : Type} (v : PerPress α) (q : Press) (x : α) : PerPress α :=
  match q with
  | .a => { v with a := x } | .b => { v with b := x }

/-- A desk port. -/
def State.port (s : State) (p : Port) : DeskPort := s.ports.get p

/-- Replace a desk port. -/
def State.setPort (s : State) (p : Port) (d : DeskPort) : State := { s with ports := s.ports.set p d }

/-- Change every desk port. -/
def State.mapPorts (s : State) (f : DeskPort → DeskPort) : State := { s with ports := s.ports.map f }

/-- A press link. -/
def State.link (s : State) (q : Press) : Link := s.links.get q

/-- Replace a press link. -/
def State.setLink (s : State) (q : Press) (l : Link) : State := { s with links := s.links.set q l }

/-! ### The book table -/

/-- The book in a slot, none when it is CLOSED. -/
def State.book (s : State) (i : Nat) : Option Book := tabFind s.books i
/-- The section in a slot. -/
def State.sec (s : State) (i : Nat) : Option Section := tabFind s.sections i
/-- The sheet in a slot. -/
def State.sheet (s : State) (i : Nat) : Option Sheet := tabFind s.sheets i
/-- The entry in a slot. -/
def State.entry (s : State) (i : Nat) : Option Entry := tabFind s.entries i

/-- Store a book, or close its slot. -/
def State.setBook (s : State) (i : Nat) (o : Option Book) : State := { s with books := tabUpdate s.books i o }
/-- Store a section, or free its slot. -/
def State.setSec (s : State) (i : Nat) (o : Option Section) : State := { s with sections := tabUpdate s.sections i o }
/-- Store a sheet, or free its slot. -/
def State.setSheet (s : State) (i : Nat) (o : Option Sheet) : State := { s with sheets := tabUpdate s.sheets i o }
/-- Store an entry, or free its slot. -/
def State.setEntry (s : State) (i : Nat) (o : Option Entry) : State := { s with entries := tabUpdate s.entries i o }

/-- The placement epoch of a sheet slot (R10). -/
def State.epoch (s : State) (i : Nat) : BitVec 16 := (tabFind s.epochs i).getD 0

/-- Increment the placement epoch of a sheet slot, wrapping from 65535 to 0 (R10, R18). -/
def State.bumpEpoch (s : State) (i : Nat) : State :=
  { s with epochs := tabUpdate s.epochs i (if s.epoch i + 1 = 0 then none else some (s.epoch i + 1)) }

/-! ### The portrait directory -/

/-- The record of a portrait slot (R58). -/
def State.portrait (s : State) (i : Nat) : Portrait := (tabFind s.portraits i).getD Portrait.reset

/-- Store the record of a portrait slot. -/
def State.setPortrait (s : State) (i : Nat) (r : Portrait) : State :=
  { s with portraits := tabUpdate s.portraits i (if r = Portrait.reset then none else some r) }

/-- Change the record of a portrait slot. -/
def State.mapPortrait (s : State) (i : Nat) (f : Portrait → Portrait) : State := s.setPortrait i (f (s.portrait i))

/-- The use count of a portrait, if there is one, rises by 1 (R61). -/
def State.useUp (s : State) : Option Nat → State
  | none => s
  | some i => s.mapPortrait i (fun r => { r with useCount := r.useCount + 1 })

/-- The use count of a portrait, if there is one, falls by 1 (R61). -/
def State.useDown (s : State) : Option Nat → State
  | none => s
  | some i => s.mapPortrait i (fun r => { r with useCount := r.useCount - 1 })

/-! ### The image pool (R67) -/

/-- The lowest-numbered `n` free blocks, looking at the last `fuel` block numbers of the pool. -/
def freeBlocksFrom {α : Type} (owned : List (Nat × α)) : Nat → Nat → List Nat
  | 0, _ => []
  | _, 0 => []
  | fuel + 1, n + 1 =>
    if (tabFind owned (Config.poolBlocks - (fuel + 1))).isSome then freeBlocksFrom owned fuel (n + 1)
    else (Config.poolBlocks - (fuel + 1)) :: freeBlocksFrom owned fuel n

/-- The blocks a reservation of `n` takes: the lowest-numbered free ones (R67). -/
def Pool.lowestFree (pl : Pool) (n : Nat) : List Nat := freeBlocksFrom pl.owned Config.poolBlocks n

/-- The blocks an owner holds, in ascending order. -/
def Pool.blocksOf (pl : Pool) (o : Owner) : List Nat := (pl.owned.filter (fun e => decide (e.2 = o))).map (·.1)

/-- Reserve blocks for the inbound load; the free count falls by their number (R67, R69). -/
def Pool.reserve (pl : Pool) (n : Nat) : Pool :=
  { pl with
    freeCount := pl.freeCount - n
    owned := (pl.lowestFree n).foldl (fun t b => tabInsert t b Owner.inbound) pl.owned }

/-- Return an owner's blocks to the pool; the free count rises by their number (R67). -/
def Pool.giveBack (pl : Pool) (o : Owner) : Pool :=
  { pl with
    freeCount := pl.freeCount + (pl.blocksOf o).length
    owned := pl.owned.filter (fun e => decide (e.2 ≠ o)) }

/-- Pass an owner's blocks to another owner; the free count does not move (R67). -/
def Pool.pass (pl : Pool) (src dst : Owner) : Pool :=
  { pl with owned := pl.owned.map (fun e => (e.1, if e.2 = src then dst else e.2)) }

/-- The byte of the pool at an address. -/
def Pool.readByte (pl : Pool) (a : Nat) : Byte := (tabFind pl.cells a).getD Config.unwrittenPixel

/-- Write a byte of the pool, keeping its memory canonical. -/
def Pool.writeByte (pl : Pool) (a : Nat) (b : Byte) : Pool :=
  { pl with cells := tabUpdate pl.cells a (if b = Config.unwrittenPixel then none else some b) }

/-- The pool address of byte `k` of an image whose blocks are `blocks` in order. -/
def imageAddress (blocks : List Nat) (k : Nat) : Nat :=
  blocks.getD (k / Config.blockBytes) 0 * Config.blockBytes + k % Config.blockBytes

/-- Write bytes into an image's blocks from byte `k` on, stopping at `limit` bytes of the image (R70). -/
def Pool.writeImage (pl : Pool) (blocks : List Nat) (limit : Nat) : Nat → List Byte → Pool
  | _, [] => pl
  | k, b :: bs =>
    if k < limit then (pl.writeByte (imageAddress blocks k) b).writeImage blocks limit (k + 1) bs else pl

/-- The canonical form of the pool's memory: addresses strictly rising inside the pool, and no byte listed that an unlisted
address would read as. -/
def Memory.wf (cells : List Host.Cell) : Bool :=
  tabSorted cells &&
    cells.all (fun c => decide (c.1 < Config.poolBlocks * Config.blockBytes) && decide (c.2 ≠ Config.unwrittenPixel))

/-! ### Jobs (R118, R119) -/

/-- The job of a tag. -/
def State.jobOf (s : State) (tag : Nat) : Option Job := s.jobs.find? (fun j => j.tag == tag)

/-- Replace the record of the job with the same tag. -/
def State.putJob (s : State) (j : Job) : State :=
  { s with jobs := s.jobs.map (fun k => if k.tag = j.tag then j else k) }

/-- The run queue or proof list of a press, head first (R119). -/
def State.collection (s : State) (q : Press) (k : JobKind) : List Job :=
  s.jobs.filter (fun j => decide (j.press = q) && decide (j.kind = k))

/-- The ACTIVE job. -/
def State.activeJob (s : State) : Option Job := s.jobs.find? (fun j => decide (j.state = .active))

/-- The SUSPENDED job. -/
def State.suspendedJob (s : State) : Option Job := s.jobs.find? (fun j => decide (j.state = .suspended))

end Sys2Proof.Machine
end

