-- ==== Sys2Proof/Machine/Flags.lean ====
section
/-! DEFINITION. The notice flags, the attention lines and the counters (chapter 11). -/

namespace Sys2Proof.Machine

open Sys2Proof

/-! ### Notices -/

/-- The notice kinds (section 11.1), REG_TIMEOUT once for each press. -/
inductive Notice where
  | sheetPlaced | sheetHeld | jobDone | jobAborted | jobDropped | copySpoiled | lockGained | lockLost
  | portraitCommitted | portraitPromoted | loadRefused | counterWrap | settingsDefault | regTimeoutA | regTimeoutB
  deriving DecidableEq, Repr

/-- The flag number of a notice kind (R180). -/
def Notice.flag : Notice → Nat
  | .sheetPlaced => 0 | .sheetHeld => 1 | .jobDone => 2 | .jobAborted => 3 | .jobDropped => 4 | .copySpoiled => 5
  | .lockGained => 6 | .lockLost => 7 | .portraitCommitted => 8 | .portraitPromoted => 9 | .loadRefused => 10
  | .counterWrap => 11 | .settingsDefault => 12 | .regTimeoutA => 13 | .regTimeoutB => 14

/-- The REG_TIMEOUT kind of a press. -/
def regTimeoutOf : Press → Notice
  | .a => .regTimeoutA | .b => .regTimeoutB

/-- What the attention line of a port shows: some latched flag has an open mask entry (R183). -/
def attentionOf (notices : List (Nat × Latch)) (mask : BitVec 16) : Bool :=
  notices.any (fun e => !mask.getLsbD e.1)

/-- Bring a port's attention line up to date (R183). -/
def DeskPort.updateAttention (d : DeskPort) : DeskPort := { d with attention := attentionOf d.notices d.mask }

/-- Latch a kind at a port (R181). -/
def DeskPort.latch (d : DeskPort) (k : Notice) (x : Subject) : DeskPort :=
  { d with
    notices := tabInsert d.notices k.flag
      { count := match tabFind d.notices k.flag with
          | none => 1
          | some l => min 255 (l.count + 1)
        subject := x } }.updateAttention

/-- Latch a kind at one port: the job kinds (R180). -/
def State.latchAt (s : State) (p : Port) (k : Notice) (x : Subject) : State := s.setPort p ((s.port p).latch k x)

/-- Latch a kind at every desk port (R180). -/
def State.latchAll (s : State) (k : Notice) (x : Subject) : State := s.mapPorts (fun d => d.latch k x)

/-- Latch again the REG_TIMEOUT flag of each press whose condition holds (R182), at a port whose set has been cleared. -/
def DeskPort.relatch (d : DeskPort) (condA condB : Bool) : DeskPort :=
  (fun e => if condB then e.latch .regTimeoutB .none else e) (if condA then d.latch .regTimeoutA .none else d)

/-- Clear a port's notice set, and latch again what R182 asks for. -/
def State.clearNotices (s : State) (p : Port) : State :=
  s.setPort p
    (({ s.port p with notices := [] } : DeskPort).updateAttention.relatch (s.link .a).reg.timedOut (s.link .b).reg.timedOut)

/-! ### Counters -/

/-- The unit number of a press (R186). -/
def pressUnit (q : Press) : Nat := pressCode q

/-- The unit number of a desk port (R186). -/
def portUnit (p : Port) : Nat := 2 + portNumber p

/-- The unit number of the image port (R186). -/
def imageUnit : Nat := 6

/-- The counters of a unit: six of a press, three of a desk port or the image port (R186). -/
def unitCounters (u : Nat) : Nat := if u < 2 then 6 else 3

/-- The key of a counter in `State.counters`. -/
def counterKey (u i : Nat) : Nat := 8 * u + i

/-- A counter after reset (R186). -/
def Counter.zero : Counter := { value := 0, overflow := false }

/-- A counter's value and flag. -/
def State.counter (s : State) (u i : Nat) : Counter := (tabFind s.counters (counterKey u i)).getD Counter.zero

/-- Store a counter. -/
def State.setCounter (s : State) (u i : Nat) (c : Counter) : State :=
  { s with counters := tabUpdate s.counters (counterKey u i) (if c = Counter.zero then none else some c) }

/-- Raise a counter by 1; one that wraps sets its overflow flag and latches COUNTER_WRAP at every port (R187). -/
def State.raise (s : State) (u i : Nat) : State :=
  if (s.counter u i).value = 0xFFFFFFFF#32 then
    (s.setCounter u i { value := 0, overflow := true }).latchAll .counterWrap (.counter u i)
  else s.setCounter u i { s.counter u i with value := (s.counter u i).value + 1 }

/-- Raise a counter `n` times. -/
def State.raiseTimes (s : State) (u i : Nat) : Nat → State
  | 0 => s
  | n + 1 => (s.raise u i).raiseTimes u i n

/-- Clear a counter and its overflow flag (R188). -/
def State.clearCounter (s : State) (u i : Nat) : State := s.setCounter u i Counter.zero

end Sys2Proof.Machine
end

