-- ==== Sys2Proof/Machine/Operands.lean ====
section
/-! DEFINITION. Desk frames and the fields of requests (R168, R191): from the bytes of a frame to the request it carries. -/

namespace Sys2Proof.Machine

open Sys2Proof

/-! ### Frames -/

/-- The request a valid frame carries; none when the frame fails its framing or its check (R168, R191): the start byte,
a body length of 2 to 1024, the end byte, the high bits of the tag, and the check word over length and body. -/
def frameRequestOf (bytes : List Byte) : Option HeldRequest :=
  match bytes with
  | start :: l1 :: l0 :: rest =>
    if start = 0xA5#8 ∧ 2 ≤ number2 l1 l0 ∧ number2 l1 l0 ≤ 1024 ∧ rest.length = number2 l1 l0 + 3 then
      match rest.take (number2 l1 l0), rest.drop (number2 l1 l0) with
      | code :: tag :: fields, [c1, c0, stop] =>
        if stop = 0x5A#8 ∧ tag.toNat < 16 ∧
            crc16 (l1 :: l0 :: code :: tag :: fields) = BitVec.ofNat 16 (number2 c1 c0) then
          some { code := code.toNat, tag := tag.toNat, fields := fields }
        else none
      | _, _ => none
    else none
  | _ => none

/-- A desk frame around a body (R191): the start, the length, the body, the check and the end. -/
def deskFrame (body : List Byte) : List Byte :=
  0xA5#8 :: (byte2 body.length ++ body ++ byte2 (crc16 (byte2 body.length ++ body)).toNat ++ [0x5A#8])

/-- The bytes of the request frame that carries a request: what a station sends (R191). -/
def requestFrameBytes (r : HeldRequest) : List Byte := deskFrame (byte1 r.code ++ byte1 r.tag ++ r.fields)

/-- The code of a refusal reason in a reply: its place in the table of R170 plus 1 (R190). -/
def reasonCode : Reason → Nat
  | .badForm => 1 | .badIndex => 2 | .notOpen => 3 | .tableFull => 4 | .listFull => 5 | .orderTaken => 6
  | .locked => 7 | .inPress => 8 | .frozen => 9 | .inUse => 10 | .badLayout => 11 | .badFace => 12
  | .poolFull => 13 | .queueFull => 14 | .notEligible => 15 | .disabled => 16 | .badCheck => 17

/-- The code of a reply status (R191). -/
def statusCode : Status → Nat
  | .done => 0 | .busy => 1 | .refused => 2

/-- The bytes of a reply frame on the reply link (R191). Bits 7 to 2 of the flags byte, which R191 does not name, are sent as 0
(assumption 54); the length field counts the body's bytes beyond 1024 too (assumption 55). -/
def replyFrameBytes (r : Reply) : List Byte :=
  deskFrame (byte1 r.tag ++ byte1 (statusCode r.status) ++ byte1 ((r.reason.map reasonCode).getD 0) ++
    byte1 ((if r.adjusted then 1 else 0) + (if r.blocking.isSome then 2 else 0)) ++ byteSlot r.blocking ++ r.data)

/-! ### Requests -/

/-- A desk request with its fields as sent, each code still a number (R191). -/
inductive Request where
  | openBook (book : Nat) (label : Str) (folio : Nat)
  | setBook (book : Nat) (label : Str) (folio absent withheld tolerance hold : Nat)
  | closeBook (book : Nat)
  | addSection (book key : Nat) (label : Str)
  | setSection (section_ : Nat) (label : Str) (key : Nat)
  | dropSection (section_ : Nat)
  | addSheet (section_ position : Nat)
  | dropSheet (sheet : Nat)
  | setLayout (sheet : Nat) (layout : Layout) (flagsFit : Bool)
  | approveSheet (sheet epoch : Nat)
  | unlockSheet (sheet : Nat)
  | addEntry (section_ : Nat) (surname given : Str) (role status : Nat) (portrait : Option Nat)
  | dropEntry (entry : Nat)
  | editName (entry : Nat) (surname given : Str)
  | editRole (entry role : Nat)
  | editStatus (entry status : Nat)
  | editPortrait (entry : Nat) (portrait : Option Nat)
  | editOther (entry : Nat)
  | moveEntry (entry section_ : Nat)
  | swapPortraits (entry other : Nat)
  | reservePortrait (portrait : Nat)
  | releasePortrait (portrait : Nat)
  | setFaceBox (portrait : Nat) (face : FaceBox)
  | submitRun (sheet press copies : Nat)
  | submitProof (sheet press : Nat)
  | cancelJob (tag : Nat)
  | forceResync (press : Nat)
  | setPress (press capture hold timeout policy stall : Nat)
  | setArbiter (w0 w1 w2 w3 image : Nat)
  | readBook (book : Nat)
  | readSection (section_ : Nat)
  | readSheet (sheet : Nat)
  | readEntry (entry : Nat)
  | readRosterIndex (section_ index : Nat)
  | readPortrait (portrait : Nat)
  | readImagePort
  | readPlacementUnit
  | readPlacementResult (sheet : Nat)
  | readTile (sheet index : Nat)
  | readJob (tag : Nat)
  | readPressJobCollections (press : Nat)
  | readRenderer
  | readPressLink (press : Nat)
  | readDeskPort (port : Nat)
  | readArbiter
  | readCounters (unit : Nat)
  | readSettingsPort
  | readNotices
  | setNoticeMask (mask : Nat)
  | clearCounters (unit : Nat) (index : Option Nat)
  | saveSettings
  deriving DecidableEq, Repr

/-- A field read from the front of the field bytes, with what is left. -/
abbrev Field (α : Type) := List Byte → Option (α × List Byte)

/-- Read a 1-byte field. -/
def field1 : Field Nat
  | b :: bs => some (b.toNat, bs)
  | [] => none

/-- Read a 2-byte field. -/
def field2 : Field Nat
  | b :: c :: bs => some (number2 b c, bs)
  | _ => none

/-- Read a slot, index or tag that may be absent (R191). -/
def fieldSlot : Field (Option Nat)
  | b :: c :: bs => some (if number2 b c = 65535 then none else some (number2 b c), bs)
  | _ => none

/-- Read a string (R189). -/
def fieldStr : Field Str
  | b :: bs => if b.toNat ≤ bs.length then some ((bs.take b.toNat).map (·.toNat), bs.drop b.toNat) else none
  | [] => none

/-- The field bytes are used up: a frame whose lengths do not match its code is refused (R172). -/
def fieldsEnd (r : Request) : List Byte → Option Request
  | [] => some r
  | _ :: _ => none

/-- Read the fields of a request that takes none. -/
def noFields (r : Request) (f : List Byte) : Option Request := fieldsEnd r f

/-- Read one 2-byte field. -/
def oneField2 (k : Nat → Request) (f : List Byte) : Option Request := do
  let (a, f) ← field2 f
  fieldsEnd (k a) f

/-- Read one 1-byte field. -/
def oneField1 (k : Nat → Request) (f : List Byte) : Option Request := do
  let (a, f) ← field1 f
  fieldsEnd (k a) f

/-- Read two 2-byte fields. -/
def twoFields2 (k : Nat → Nat → Request) (f : List Byte) : Option Request := do
  let (a, f) ← field2 f
  let (b, f) ← field2 f
  fieldsEnd (k a b) f

/-- Read a layout record: its fields in the order of the table of R13, and whether its two flag bytes are flags. -/
def fieldLayout : Field (Layout × Bool) := fun f => do
  let (sheetWidth, f) ← field2 f
  let (sheetHeight, f) ← field2 f
  let (bodyLeft, f) ← field2 f
  let (bodyTop, f) ← field2 f
  let (bodyWidth, f) ← field2 f
  let (bodyHeight, f) ← field2 f
  let (columns, f) ← field2 f
  let (cellWidth, f) ← field2 f
  let (cellHeight, f) ← field2 f
  let (captionHeight, f) ← field2 f
  let (lineHeight, f) ← field2 f
  let (advance, f) ← field2 f
  let (gutterAcross, f) ← field2 f
  let (gutterDown, f) ← field2 f
  let (headHeight, f) ← field2 f
  let (eyeRow, f) ← field2 f
  let (listLines, f) ← field2 f
  let (feature, f) ← field1 f
  let (centre, f) ← field1 f
  let (pattern, f) ← field1 f
  some (({ sheetWidth, sheetHeight, bodyLeft, bodyTop, bodyWidth, bodyHeight, columns, cellWidth, cellHeight,
           captionHeight, lineHeight, advance, gutterAcross, gutterDown, headHeight, eyeRow, listLines,
           featureFirst := feature == 1, centreLast := centre == 1, pattern }, decide (feature < 2) && decide (centre < 2)), f)

/-- The fields of EDIT ENTRY: an entry, a group code, and the group's values (R36). A group code outside the four leaves
the rest of the frame unread. -/
def editFields (f : List Byte) : Option Request := do
  let (e, f) ← field2 f
  let (g, f) ← field1 f
  match g with
  | 0 => do
    let (surname, f) ← fieldStr f
    let (given, f) ← fieldStr f
    fieldsEnd (.editName e surname given) f
  | 1 => oneField1 (.editRole e) f
  | 2 => oneField1 (.editStatus e) f
  | 3 => do
    let (p, f) ← fieldSlot f
    fieldsEnd (.editPortrait e p) f
  | _ => some (.editOther e)

/-- The fields of READ: an object kind and the selectors it needs (R191). -/
def readFields (f : List Byte) : Option Request := do
  let (kind, f) ← field1 f
  match kind with
  | 0 => oneField2 .readBook f
  | 1 => oneField2 .readSection f
  | 2 => oneField2 .readSheet f
  | 3 => oneField2 .readEntry f
  | 4 => twoFields2 .readRosterIndex f
  | 5 => oneField2 .readPortrait f
  | 6 => noFields .readImagePort f
  | 7 => noFields .readPlacementUnit f
  | 8 => oneField2 .readPlacementResult f
  | 9 => twoFields2 .readTile f
  | 10 => oneField2 .readJob f
  | 11 => oneField1 .readPressJobCollections f
  | 12 => noFields .readRenderer f
  | 13 => oneField1 .readPressLink f
  | 14 => oneField2 .readDeskPort f
  | 15 => noFields .readArbiter f
  | 16 => oneField2 .readCounters f
  | 17 => noFields .readSettingsPort f
  | _ => none

/-- The request a code and its field bytes carry (R191); none when the code names no request or the fields do not match
it (R172). -/
def requestOf (h : HeldRequest) : Option Request :=
  match h.code with
  | 0x01 => do
    let (b, f) ← field2 h.fields
    let (label, f) ← fieldStr f
    let (folio, f) ← field2 f
    fieldsEnd (.openBook b label folio) f
  | 0x02 => do
    let (b, f) ← field2 h.fields
    let (label, f) ← fieldStr f
    let (folio, f) ← field2 f
    let (absent, f) ← field1 f
    let (withheld, f) ← field1 f
    let (tolerance, f) ← field2 f
    let (hold, f) ← field1 f
    fieldsEnd (.setBook b label folio absent withheld tolerance hold) f
  | 0x03 => oneField2 .closeBook h.fields
  | 0x04 => do
    let (b, f) ← field2 h.fields
    let (key, f) ← field2 f
    let (label, f) ← fieldStr f
    fieldsEnd (.addSection b key label) f
  | 0x05 => do
    let (sec, f) ← field2 h.fields
    let (label, f) ← fieldStr f
    let (key, f) ← field2 f
    fieldsEnd (.setSection sec label key) f
  | 0x06 => oneField2 .dropSection h.fields
  | 0x07 => twoFields2 .addSheet h.fields
  | 0x08 => oneField2 .dropSheet h.fields
  | 0x09 => do
    let (i, f) ← field2 h.fields
    let (l, f) ← fieldLayout f
    fieldsEnd (.setLayout i l.1 l.2) f
  | 0x0A => twoFields2 .approveSheet h.fields
  | 0x0B => oneField2 .unlockSheet h.fields
  | 0x10 => do
    let (sec, f) ← field2 h.fields
    let (surname, f) ← fieldStr f
    let (given, f) ← fieldStr f
    let (role, f) ← field1 f
    let (status, f) ← field1 f
    let (portrait, f) ← fieldSlot f
    fieldsEnd (.addEntry sec surname given role status portrait) f
  | 0x11 => oneField2 .dropEntry h.fields
  | 0x12 => editFields h.fields
  | 0x13 => twoFields2 .moveEntry h.fields
  | 0x14 => twoFields2 .swapPortraits h.fields
  | 0x18 => oneField2 .reservePortrait h.fields
  | 0x19 => oneField2 .releasePortrait h.fields
  | 0x1A => do
    let (i, f) ← field2 h.fields
    let (crown, f) ← field2 f
    let (eye, f) ← field2 f
    let (chin, f) ← field2 f
    let (centre, f) ← field2 f
    fieldsEnd (.setFaceBox i { crown, eye, chin, centre }) f
  | 0x20 => do
    let (i, f) ← field2 h.fields
    let (q, f) ← field1 f
    let (copies, f) ← field2 f
    fieldsEnd (.submitRun i q copies) f
  | 0x21 => do
    let (i, f) ← field2 h.fields
    let (q, f) ← field1 f
    fieldsEnd (.submitProof i q) f
  | 0x22 => oneField2 .cancelJob h.fields
  | 0x23 => oneField1 .forceResync h.fields
  | 0x24 => do
    let (q, f) ← field1 h.fields
    let (capture, f) ← field2 f
    let (hold, f) ← field2 f
    let (timeout, f) ← field2 f
    let (policy, f) ← field1 f
    let (stall, f) ← field2 f
    fieldsEnd (.setPress q capture hold timeout policy stall) f
  | 0x28 => do
    let (w0, f) ← field1 h.fields
    let (w1, f) ← field1 f
    let (w2, f) ← field1 f
    let (w3, f) ← field1 f
    let (wi, f) ← field1 f
    fieldsEnd (.setArbiter w0 w1 w2 w3 wi) f
  | 0x30 => readFields h.fields
  | 0x31 => noFields .readNotices h.fields
  | 0x32 => oneField2 .setNoticeMask h.fields
  | 0x33 => do
    let (u, f) ← field2 h.fields
    let (i, f) ← fieldSlot f
    fieldsEnd (.clearCounters u i) f
  | 0x38 => noFields .saveSettings h.fields
  | _ => none

/-! ### The fields of a request, as a station writes them -/

/-- A layout record as sent: its fields in the order of the table of R13 (R191). -/
def layoutBytes (l : Layout) : List Byte :=
  byte2 l.sheetWidth ++ byte2 l.sheetHeight ++ byte2 l.bodyLeft ++ byte2 l.bodyTop ++ byte2 l.bodyWidth ++
    byte2 l.bodyHeight ++ byte2 l.columns ++ byte2 l.cellWidth ++ byte2 l.cellHeight ++ byte2 l.captionHeight ++
    byte2 l.lineHeight ++ byte2 l.advance ++ byte2 l.gutterAcross ++ byte2 l.gutterDown ++ byte2 l.headHeight ++
    byte2 l.eyeRow ++ byte2 l.listLines ++ byteFlag l.featureFirst ++ byteFlag l.centreLast ++ byte1 l.pattern

/-- A face box as sent: crown row, eye row, chin row, centre column. -/
def faceBytes (f : FaceBox) : List Byte := byte2 f.crown ++ byte2 f.eye ++ byte2 f.chin ++ byte2 f.centre

/-- The code and the field bytes of a request as a station sends it (R191). -/
def encodeRequest : Request → Nat × List Byte
  | .openBook b label folio => (0x01, byte2 b ++ byteStr label ++ byte2 folio)
  | .setBook b label folio absent withheld tolerance hold =>
    (0x02, byte2 b ++ byteStr label ++ byte2 folio ++ byte1 absent ++ byte1 withheld ++ byte2 tolerance ++ byte1 hold)
  | .closeBook b => (0x03, byte2 b)
  | .addSection b key label => (0x04, byte2 b ++ byte2 key ++ byteStr label)
  | .setSection sec label key => (0x05, byte2 sec ++ byteStr label ++ byte2 key)
  | .dropSection sec => (0x06, byte2 sec)
  | .addSheet sec position => (0x07, byte2 sec ++ byte2 position)
  | .dropSheet i => (0x08, byte2 i)
  | .setLayout i l _ => (0x09, byte2 i ++ layoutBytes l)
  | .approveSheet i epoch => (0x0A, byte2 i ++ byte2 epoch)
  | .unlockSheet i => (0x0B, byte2 i)
  | .addEntry sec surname given role status portrait =>
    (0x10, byte2 sec ++ byteStr surname ++ byteStr given ++ byte1 role ++ byte1 status ++ byteSlot portrait)
  | .dropEntry e => (0x11, byte2 e)
  | .editName e surname given => (0x12, byte2 e ++ byte1 0 ++ byteStr surname ++ byteStr given)
  | .editRole e role => (0x12, byte2 e ++ byte1 1 ++ byte1 role)
  | .editStatus e status => (0x12, byte2 e ++ byte1 2 ++ byte1 status)
  | .editPortrait e portrait => (0x12, byte2 e ++ byte1 3 ++ byteSlot portrait)
  | .editOther e => (0x12, byte2 e ++ byte1 4)
  | .moveEntry e sec => (0x13, byte2 e ++ byte2 sec)
  | .swapPortraits e other => (0x14, byte2 e ++ byte2 other)
  | .reservePortrait i => (0x18, byte2 i)
  | .releasePortrait i => (0x19, byte2 i)
  | .setFaceBox i face => (0x1A, byte2 i ++ faceBytes face)
  | .submitRun i q copies => (0x20, byte2 i ++ byte1 q ++ byte2 copies)
  | .submitProof i q => (0x21, byte2 i ++ byte1 q)
  | .cancelJob tag => (0x22, byte2 tag)
  | .forceResync q => (0x23, byte1 q)
  | .setPress q capture hold timeout policy stall =>
    (0x24, byte1 q ++ byte2 capture ++ byte2 hold ++ byte2 timeout ++ byte1 policy ++ byte2 stall)
  | .setArbiter w0 w1 w2 w3 wi => (0x28, byte1 w0 ++ byte1 w1 ++ byte1 w2 ++ byte1 w3 ++ byte1 wi)
  | .readBook b => (0x30, byte1 0 ++ byte2 b)
  | .readSection sec => (0x30, byte1 1 ++ byte2 sec)
  | .readSheet i => (0x30, byte1 2 ++ byte2 i)
  | .readEntry e => (0x30, byte1 3 ++ byte2 e)
  | .readRosterIndex sec index => (0x30, byte1 4 ++ byte2 sec ++ byte2 index)
  | .readPortrait i => (0x30, byte1 5 ++ byte2 i)
  | .readImagePort => (0x30, byte1 6)
  | .readPlacementUnit => (0x30, byte1 7)
  | .readPlacementResult i => (0x30, byte1 8 ++ byte2 i)
  | .readTile i index => (0x30, byte1 9 ++ byte2 i ++ byte2 index)
  | .readJob tag => (0x30, byte1 10 ++ byte2 tag)
  | .readPressJobCollections q => (0x30, byte1 11 ++ byte1 q)
  | .readRenderer => (0x30, byte1 12)
  | .readPressLink q => (0x30, byte1 13 ++ byte1 q)
  | .readDeskPort n => (0x30, byte1 14 ++ byte2 n)
  | .readArbiter => (0x30, byte1 15)
  | .readCounters u => (0x30, byte1 16 ++ byte2 u)
  | .readSettingsPort => (0x30, byte1 17)
  | .readNotices => (0x31, [])
  | .setNoticeMask m => (0x32, byte2 m)
  | .clearCounters u index => (0x33, byte2 u ++ byteSlot index)
  | .saveSettings => (0x38, [])

/-- A request under a tag, as a valid frame brings it to the slot. -/
def heldOf (tag : Nat) (r : Request) : HeldRequest :=
  { code := (encodeRequest r).1, tag := tag, fields := (encodeRequest r).2 }

end Sys2Proof.Machine
end

