-- ==== Sys2Proof/Machine/Desk.lean ====
section
/-! DEFINITION. The desk ports and the request arbiter (chapter 10): taking a frame, forming a reply, the grant decision,
and the execution of a granted request. -/

namespace Sys2Proof.Machine

open Sys2Proof

/-! ### Answers -/

/-- What the table engine answers a request: a reply without its tag. -/
structure Answer where
  status : Status
  reason : Option Reason
  adjusted : Bool
  blocking : Option Nat
  data : List Byte
  deriving DecidableEq, Repr

/-- DONE, with ADJUSTED or not, and data. -/
def Answer.done (adjusted : Bool) (data : List Byte) : Answer :=
  { status := .done, reason := none, adjusted := adjusted, blocking := none, data := data }

/-- DONE with no data. -/
def Answer.ok : Answer := Answer.done false []

/-- REFUSED with a reason; a REFUSED reply never carries ADJUSTED (R170). -/
def Answer.refuse (r : Reason) : Answer :=
  { status := .refused, reason := some r, adjusted := false, blocking := none, data := [] }

/-- REFUSED with a reason and the sheet that stopped the change in the blocking slot (R47, R49). -/
def Answer.refuseAt (r : Reason) (i : Nat) : Answer := { Answer.refuse r with blocking := some i }

/-- BUSY, with no data. -/
def Answer.busy : Answer := { status := .busy, reason := none, adjusted := false, blocking := none, data := [] }

/-- The reply an answer makes under a tag. -/
def Answer.reply (a : Answer) (tag : Nat) : Reply :=
  { tag := tag, status := a.status, reason := a.reason, adjusted := a.adjusted, blocking := a.blocking, data := a.data }

/-- Count a reply at its port when it is formed (R170): DONE in requests done, REFUSED and BUSY in requests refused. -/
def State.countReply (s : State) (p : Port) (st : Status) : State :=
  match st with
  | .done => s.raise (portUnit p) 0
  | .busy => s.raise (portUnit p) 1
  | .refused => s.raise (portUnit p) 1

/-- Put a reply at the tail of a port's reply queue. -/
def State.enqueueReply (s : State) (p : Port) (r : Reply) : State :=
  s.setPort p { s.port p with replies := (s.port p).replies ++ [r] }

/-- Form a reply: it is counted and joins the reply queue (R170, R171). -/
def State.formReply (s : State) (p : Port) (tag : Nat) (a : Answer) : State :=
  (s.enqueueReply p (a.reply tag)).countReply p a.status

/-! ### The arbiter's decision (R174) -/

/-- The ring (R173). -/
def ring : List Requester := [.desk .dp0, .desk .dp1, .desk .dp2, .desk .dp3, .image]

/-- The requesters after one in ring order, the one itself left out. -/
def ringAfter (r : Requester) : List Requester :=
  match r with
  | .desk .dp0 => [.desk .dp1, .desk .dp2, .desk .dp3, .image]
  | .desk .dp1 => [.desk .dp2, .desk .dp3, .image, .desk .dp0]
  | .desk .dp2 => [.desk .dp3, .image, .desk .dp0, .desk .dp1]
  | .desk .dp3 => [.image, .desk .dp0, .desk .dp1, .desk .dp2]
  | .image => [.desk .dp0, .desk .dp1, .desk .dp2, .desk .dp3]

/-- A slot is WAITING. -/
def Slot.isWaiting : Slot → Bool
  | .waiting _ => true
  | _ => false

/-- The image port waits for a grant: HEADER_WAIT or END_WAIT (R177). -/
def ImagePort.isWaiting (im : ImagePort) : Bool :=
  match im.state with
  | .headerWait => true
  | .endWait => true
  | _ => false

/-- A requester is asking: a desk port while its slot is WAITING, the image port in HEADER_WAIT and END_WAIT. -/
def State.asking (s : State) : Requester → Bool
  | .desk p => (s.port p).slot.isWaiting
  | .image => s.image.isWaiting

/-- The weight of a requester. -/
def Arbiter.weight (a : Arbiter) : Requester → Nat
  | .desk p => a.weights.get p
  | .image => a.imageWeight

/-- The decision of R174 as the requester granted and the run count after it; none when nobody asks. -/
def State.decision (s : State) : Option (Requester × Nat) :=
  if s.asking s.arbiter.turn ∧ s.arbiter.run < s.arbiter.weight s.arbiter.turn then
    some (s.arbiter.turn, s.arbiter.run + 1)
  else match (ringAfter s.arbiter.turn).find? s.asking with
    | some r => some (r, 1)
    | none => if s.asking s.arbiter.turn then some (s.arbiter.turn, s.arbiter.run) else none

/-- The arbiter decides: the settings load is complete (R196) and the engine is FREE. -/
def State.decides (s : State) : Bool := decide (s.settings.state ≠ .loading) && s.arbiter.engine.isNone

/-- The engine becomes HELD for a requester, and the turn pointer and the run count are as the decision leaves them. -/
def State.hold (s : State) (r : Requester) (run : Nat) : State :=
  { s with arbiter := { s.arbiter with turn := r, run := run, engine := some r } }

/-- The engine becomes FREE. -/
def State.freeEngine (s : State) : State := { s with arbiter := { s.arbiter with engine := none } }

/-- The grant of the table engine to a desk port: the state with the port's slot GRANTED and the engine HELD for it, and
the request. It is none when the engine neither holds the port's request nor, at this decision, goes to this port. -/
def State.grantDesk (s : State) (p : Port) : Option (State × HeldRequest) :=
  match (s.port p).slot with
  | .empty => none
  | .granted h => if s.arbiter.engine = some (.desk p) then some (s, h) else none
  | .waiting h =>
    if s.decides then
      match s.decision with
      | some (r, run) =>
        if r = .desk p then some ((s.setPort p { s.port p with slot := .granted h }).hold r run, h) else none
      | none => none
    else none

/-- The grant of the table engine to the image port; none when this decision does not go to it. -/
def State.grantImage (s : State) : Option State :=
  if s.decides then
    match s.decision with
    | some (r, run) => if r = .image then some (s.hold r run) else none
    | none => none
  else none

/-- A granted request is finished (R170): its reply is formed and counted, and queued unless the silent mark is set
(R178); the slot becomes EMPTY and the engine FREE. -/
def State.finish (s : State) (p : Port) (tag : Nat) (a : Answer) : State :=
  if (s.port p).silent then
    ((s.setPort p { s.port p with slot := .empty, silent := false }).countReply p a.status).freeEngine
  else
    ((s.setPort p { s.port p with slot := .empty }).formReply p tag a).freeEngine

/-- What the table engine does with a request: the state after it, and the answer. -/
abbrev Effect := State → State × Answer

/-- The grant and the whole execution of the request that a port holds (R170, R174). `row` is the effect when the request
is of the command's row, none when it is another's. Where the engine is not granted to the port, or the request held is of
another row, the command has not come about and nothing changes (assumption 7). -/
def State.serve (s : State) (p : Port) (row : Option Request → Option Effect) : State :=
  match s.grantDesk p with
  | none => s
  | some (g, h) =>
    match row (requestOf h) with
    | none => s
    | some op => (op g).1.finish p h.tag (op g).2

/-- An effect that refuses and changes nothing. -/
def refusing (r : Reason) : Effect := fun s => (s, Answer.refuse r)

/-- An effect that only reads. -/
def reading (f : State → Answer) : Effect := fun s => (s, f s)

/-! ### Taking a frame (R168, R169) -/

/-- Discard a frame: no reply, and the frames-discarded counter rises (R168, R169). -/
def State.discardFrame (s : State) (p : Port) : State := s.raise (portUnit p) 2

/-- Take a valid frame by the request slot and the reply queue (R169). -/
def State.takeFrame (s : State) (p : Port) (h : HeldRequest) : State :=
  match (s.port p).slot with
  | .empty =>
    if (s.port p).replies.length < Config.replyPlaces then
      if 0 < s.arbiter.weights.get p then s.setPort p { s.port p with slot := .waiting h }
      else s.formReply p h.tag (Answer.refuse .disabled)
    else s.discardFrame p
  | _ =>
    if (s.port p).replies.length + 1 < Config.replyPlaces then s.formReply p h.tag Answer.busy
    else s.discardFrame p

/-- A request frame completes on a port (R168, R169). A receiver in BREAK takes no frames (R178). -/
def execRequestFrame (p : Port) (bytes : List Byte) (s : State) : Host.Outcome State Fault Refusal :=
  match (s.port p).receiver with
  | .atBreak => .next s
  | _ =>
    match frameRequestOf bytes with
    | none => .next ((s.setPort p { s.port p with receiver := .idle }).discardFrame p)
    | some h => .next ((s.setPort p { s.port p with receiver := .idle }).takeFrame p h)

/-- A request frame begins: an IDLE receiver enters RECEIVING (R167). -/
def execRequestFrameStart (p : Port) (s : State) : Host.Outcome State Fault Refusal :=
  match (s.port p).receiver with
  | .idle => .next (s.setPort p { s.port p with receiver := .receiving })
  | _ => .next s

/-- The last byte of the head reply frame is sent, and the frame leaves the queue (R171). -/
def execReplyFrameSent (p : Port) (s : State) : Host.Outcome State Fault Refusal :=
  .next (s.setPort p { s.port p with replies := (s.port p).replies.tail })

/-- What a break leaves in the request slot and the silent mark (R178, steps 2 and 3). -/
def DeskPort.breakSlot (d : DeskPort) : DeskPort :=
  match d.slot with
  | .empty => d
  | .waiting _ => { d with slot := .empty }
  | .granted _ => { d with silent := true }

/-- A port takes a break (R178). A receiver already in BREAK has taken this one, and so has a receiver that RESET put in
BREAK because its line was at break level (R167): it takes no second break when 10 ms have passed (assumption 53). -/
def execLineBreak (p : Port) (s : State) : Host.Outcome State Fault Refusal :=
  match (s.port p).receiver with
  | .atBreak => .next s
  | _ =>
    .next ((s.setPort p
      { (s.port p).breakSlot with
        receiver := .atBreak, breakLevel := true, replies := [], mask := (s.port p).defaultMask }).clearNotices p)

/-- The request line leaves break level (R178). -/
def execBreakEnd (p : Port) (s : State) : Host.Outcome State Fault Refusal :=
  match (s.port p).receiver with
  | .atBreak => .next (s.setPort p { s.port p with receiver := .idle, breakLevel := false })
  | _ => .next s

/-- A granted request whose code names no request or whose fields do not match it is refused with BAD_FORM (R172). An EDIT
ENTRY with a group code outside the four is refused here too, after the check of its entry (R36). -/
def execUnknownRequestCode (p : Port) (s : State) : Host.Outcome State Fault Refusal :=
  .next (s.serve p fun
    | none => some (refusing .badForm)
    | some (.editOther e) =>
      some (fun g => if (g.entry e).isSome ∧ e < Config.entrySlots then (g, Answer.refuse .badForm)
        else (g, Answer.refuse .badIndex))
    | _ => none)

/-! ### The arbiter's requests (R176, R179) -/

/-- A weight of 0 stored while a port's slot is WAITING withdraws its request and answers it DISABLED (R175). -/
def State.withdrawDisabled (s : State) (p : Port) : State :=
  match (s.port p).slot with
  | .waiting h =>
    if s.arbiter.weights.get p = 0 then
      (s.setPort p { s.port p with slot := .empty }).formReply p h.tag (Answer.refuse .disabled)
    else s
  | _ => s

/-- Store the five weights; ports given weight 0 withdraw (R175, R176), from DP0 to DP3: no rule gives their order
(assumption 57). -/
def State.storeWeights (s : State) (w : PerPort Nat) (wi : Nat) : State :=
  allPorts.foldl State.withdrawDisabled { s with arbiter := { s.arbiter with weights := w, imageWeight := wi } }

/-- SET ARBITER (R176). -/
def setArbiter (w0 w1 w2 w3 wi : Nat) : Effect := fun s =>
  let w : PerPort Nat := ⟨min 8 w0, min 8 w1, min 8 w2, min 8 w3⟩
  let vi := max 1 (min 8 wi)
  if w.dp0 = 0 ∧ w.dp1 = 0 ∧ w.dp2 = 0 ∧ w.dp3 = 0 then (s, Answer.refuse .badForm)
  else
    (s.storeWeights w vi,
      Answer.done (decide (¬(w.dp0 = w0 ∧ w.dp1 = w1 ∧ w.dp2 = w2 ∧ w.dp3 = w3 ∧ vi = wi)))
        (byte1 w.dp0 ++ byte1 w.dp1 ++ byte1 w.dp2 ++ byte1 w.dp3 ++ byte1 vi))

/-- SET ARBITER, granted. -/
def execSetArbiter (p : Port) (s : State) : Host.Outcome State Fault Refusal :=
  .next (s.serve p fun
    | some (.setArbiter w0 w1 w2 w3 wi) => some (setArbiter w0 w1 w2 w3 wi)
    | _ => none)

/-- The code of a receiver state. -/
def receiverCode : Receiver → Nat
  | .idle => 0 | .receiving => 1 | .atBreak => 2

/-- A slot state with the held request's code and tag (R179). The tag takes 1 byte, as in a frame, and not the 2 of a job tag or
of an unsigned number (R191; assumption 18); both stand behind one presence byte (assumption 19). -/
def slotBytes : Slot → List Byte
  | .empty => byte1 0 ++ byte1 0
  | .waiting h => byte1 1 ++ byte1 1 ++ byte1 h.code ++ byte1 h.tag
  | .granted h => byte1 2 ++ byte1 1 ++ byte1 h.code ++ byte1 h.tag

/-- READ of a desk port (R179). -/
def readDeskPort (n : Nat) (s : State) : Answer :=
  match portOf n with
  | none => Answer.refuse .badIndex
  | some p =>
    Answer.done false
      (byte1 (receiverCode (s.port p).receiver) ++ slotBytes (s.port p).slot ++ byteFlag (s.port p).silent ++
        byte2 (s.port p).replies.length ++ byteFlag (s.port p).attention ++ byte1 (s.arbiter.weights.get p))

/-- READ DESK PORT, granted. -/
def execReadDeskPort (p : Port) (s : State) : Host.Outcome State Fault Refusal :=
  .next (s.serve p fun
    | some (.readDeskPort n) => some (reading (readDeskPort n))
    | _ => none)

/-- The place of a requester in the ring, as its code. -/
def requesterCode : Requester → Nat
  | .desk p => portNumber p
  | .image => 4

/-- READ of the arbiter (R179). -/
def readArbiter (s : State) : Answer :=
  Answer.done false
    (byte1 s.arbiter.weights.dp0 ++ byte1 s.arbiter.weights.dp1 ++ byte1 s.arbiter.weights.dp2 ++
      byte1 s.arbiter.weights.dp3 ++ byte1 s.arbiter.imageWeight ++ byte1 (requesterCode s.arbiter.turn) ++
      byte2 s.arbiter.run ++
      (match s.arbiter.engine with
        | none => byte1 0 ++ byte1 0
        | some r => byte1 1 ++ byte1 1 ++ byte1 (requesterCode r)) ++
      ring.flatMap (fun r => byteFlag (s.asking r)))

/-- READ ARBITER, granted. -/
def execReadArbiter (p : Port) (s : State) : Host.Outcome State Fault Refusal :=
  .next (s.serve p fun
    | some .readArbiter => some (reading readArbiter)
    | _ => none)

/-! ### Notices and counters (R184, R185, R188) -/

/-- The subject of a latched flag (section 11.1) in the widths of R191; a subject of none has no bytes (assumption 51). -/
def subjectBytes : Subject → List Byte
  | .none => []
  | .sheet i => byte2 i
  | .job tag => byte2 tag
  | .press q => byte1 (pressCode q)
  | .portrait i => byteSlot i
  | .counter u i => byte2 u ++ byte2 i

/-- A flag with its occurrence count and subject. -/
def latchBytes (l : Latch) : List Byte := byte2 l.count ++ subjectBytes l.subject

/-- The copy of a port's 15 flags that READ NOTICES returns, with the port's mask (R184): flag by flag with no count before
them, a presence byte and, for a set flag, its occurrence count and subject (assumption 51). -/
def noticeBytes (d : DeskPort) : List Byte :=
  (List.range 15).flatMap (fun n => bytePresent latchBytes (tabFind d.notices n)) ++ byte2 d.mask.toNat

/-- READ NOTICES (R184). -/
def readNotices (p : Port) : Effect := fun s => (s.clearNotices p, Answer.done false (noticeBytes (s.port p)))

/-- READ NOTICES, granted. -/
def execReadNotices (p : Port) (s : State) : Host.Outcome State Fault Refusal :=
  .next (s.serve p fun
    | some .readNotices => some (readNotices p)
    | _ => none)

/-- SET NOTICE MASK (R185): a mask with bit 15 set is refused. -/
def setNoticeMask (p : Port) (m : Nat) : Effect := fun s =>
  if m < 32768 then
    (s.setPort p ({ s.port p with mask := BitVec.ofNat 16 m } : DeskPort).updateAttention,
      Answer.done false (byte2 (s.port p).mask.toNat))
  else (s, Answer.refuse .badForm)

/-- SET NOTICE MASK, granted. -/
def execSetNoticeMask (p : Port) (s : State) : Host.Outcome State Fault Refusal :=
  .next (s.serve p fun
    | some (.setNoticeMask m) => some (setNoticeMask p m)
    | _ => none)

/-- A counter with its overflow flag. -/
def counterBytes (c : Counter) : List Byte := byte4 c.value.toNat ++ byteFlag c.overflow

/-- The counters of a unit from an index on, `n` of them. -/
def unitBytes (s : State) (u : Nat) (is : List Nat) : List Byte := byteList (fun i => counterBytes (s.counter u i)) is

/-- READ of counters (R188). -/
def readCounters (u : Nat) (s : State) : Answer :=
  if u ≤ 6 then Answer.done false (unitBytes s u (List.range (unitCounters u))) else Answer.refuse .badIndex

/-- READ COUNTERS, granted. -/
def execReadCounters (p : Port) (s : State) : Host.Outcome State Fault Refusal :=
  .next (s.serve p fun
    | some (.readCounters u) => some (reading (readCounters u))
    | _ => none)

/-- The counters CLEAR COUNTERS names: one, or all of the unit (R188). -/
def clearedIndices (u : Nat) : Option Nat → List Nat
  | none => List.range (unitCounters u)
  | some i => [i]

/-- CLEAR COUNTERS (R188). -/
def clearCounters (u : Nat) (index : Option Nat) : Effect := fun s =>
  if u ≤ 6 ∧ (clearedIndices u index).all (fun i => decide (i < unitCounters u)) then
    ((clearedIndices u index).foldl (fun s i => s.clearCounter u i) s,
      Answer.done false (unitBytes s u (clearedIndices u index)))
  else (s, Answer.refuse .badIndex)

/-- CLEAR COUNTERS, granted. -/
def execClearCounters (p : Port) (s : State) : Host.Outcome State Fault Refusal :=
  .next (s.serve p fun
    | some (.clearCounters u i) => some (clearCounters u i)
    | _ => none)

end Sys2Proof.Machine
end

