-- ==== Sys2Proof/Machine/Flow.lean ====
section
/-! DEFINITION. What the book table derives and does not store: collation, membership, the tile sequence, capacities and
shares, folios and footers, and the inputs of a sheet (R16, R17, R27 to R31, R82 to R84). -/

namespace Sys2Proof.Machine

open Sys2Proof

/-! ### Collation (R27, R28) -/

/-- A name folded for comparison (R27): capitals made small, and spaces, full stops, hyphens and apostrophes removed. -/
def fold (s : Str) : Str :=
  (s.map (fun c => if 43 ≤ c ∧ c ≤ 68 then c + 26 else c)).filter
    (fun c => decide (c ≠ 0) && decide (c ≠ 1) && decide (c ≠ 3) && decide (c ≠ 4))

/-- The order of two folded strings: code by code, a string before any that extends it (R27). -/
def compareStr : Str → Str → Ordering
  | [], [] => .eq
  | [], _ :: _ => .lt
  | _ :: _, [] => .gt
  | a :: s, b :: t => if a < b then .lt else if b < a then .gt else compareStr s t

/-- The rank of a role (R27). -/
def roleRank : Role → Nat
  | .teacher => 0 | .staff => 1 | .student => 2

/-- The order of two numbers. -/
def compareNum (a b : Nat) : Ordering := if a < b then .lt else if b < a then .gt else .eq

/-- Collation of two entries under their ids: role, folded surname, folded given name, id (R27). -/
def collate (i : Nat) (e : Entry) (j : Nat) (f : Entry) : Ordering :=
  match compareNum (roleRank e.role) (roleRank f.role) with
  | .eq =>
    match compareStr (fold e.surname) (fold f.surname) with
    | .eq =>
      match compareStr (fold e.given) (fold f.given) with
      | .eq => compareNum i j
      | o => o
    | o => o
  | o => o

/-- An entry put into a roster at the one index where collation puts it (R28). -/
def rosterInsert (entry : Nat → Option Entry) (i : Nat) (e : Entry) : List Nat → List Nat
  | [] => [i]
  | j :: l =>
    match entry j with
    | none => j :: rosterInsert entry i e l
    | some f => if collate i e j f = .lt then i :: j :: l else j :: rosterInsert entry i e l

/-- An entry taken out of a roster (R28). -/
def rosterRemove (l : List Nat) (i : Nat) : List Nat := l.filter (fun j => decide (j ≠ i))

/-! ### Membership (R29, R30) -/

/-- The membership of an entry (R29). -/
inductive Membership where
  | tile | listed | omitted
  deriving DecidableEq, Repr

/-- Membership by status and the book's policies (R29). -/
def membershipOf (absent : AbsentPolicy) (withheld : WithheldPolicy) : EntryStatus → Membership
  | .present => .tile
  | .absent => match absent with
    | .silhouette => .tile | .list => .listed | .omit => .omitted
  | .withheld => match withheld with
    | .silhouette => .tile | .omit => .omitted

/-- The entries of a section with one membership, in roster order (R30). -/
def State.members (s : State) (b : Book) (sec : Section) (m : Membership) : List Nat :=
  sec.roster.filter (fun i => match s.entry i with
    | some e => decide (membershipOf b.absent b.withheld e.status = m)
    | none => false)

/-- The tile sequence of a section (R30). -/
def State.tileSequence (s : State) (b : Book) (sec : Section) : List Nat := s.members b sec .tile

/-! ### Geometry and capacity (R13, R82) -/

/-- pitch_x (R13). -/
def Layout.pitchX (l : Layout) : Nat := l.cellWidth + l.gutterAcross

/-- pitch_y (R13). -/
def Layout.pitchY (l : Layout) : Nat := l.cellHeight + l.captionHeight + l.gutterDown

/-- The height of the list strip (R13). -/
def Layout.listStrip (l : Layout) : Nat := l.listLines * l.lineHeight

/-- rows_max, which may be negative before R14 is checked (R13). -/
def Layout.rowsMax (l : Layout) : Int :=
  min 8 (((l.bodyHeight : Int) - l.listStrip + l.gutterDown) / (l.pitchY : Int))

/-- The band count B of a sheet (R13, R140). -/
def Layout.bands (l : Layout) : Nat := ceilDiv l.sheetHeight Config.bandRows

/-- The capacity a layout gives in flow: at most 48 (R82). -/
def Layout.capacity (l : Layout) : Nat :=
  min Config.maxTiles ((l.columns : Int) * l.rowsMax - (if l.featureFirst then 3 else 0)).toNat

/-- The capacity of a sheet slot in flow; an UNLAID sheet has capacity 0 (R82). -/
def State.capacityOf (s : State) (i : Nat) : Nat :=
  match (s.sheet i).bind (·.layout) with
  | some l => l.capacity
  | none => 0

/-- A sheet slot holds a sheet with a layout. -/
def State.laid (s : State) (i : Nat) : Bool := ((s.sheet i).bind (·.layout)).isSome

/-! ### Shares (R83, R84) -/

/-- The capacities of the sheets before a sheet in a list of sheets, summed (R83). -/
def State.startIn (s : State) (i : Nat) : List Nat → Nat
  | [] => 0
  | j :: l => if j = i then 0 else s.capacityOf j + s.startIn i l

/-- The last sheet of a section: the highest-positioned one that has a layout (R10). -/
def State.lastSheet (s : State) (sec : Section) : Option Nat := (sec.sheets.filter s.laid).getLast?

/-- The overflow count of a section (R84). -/
def State.overflowOf (s : State) (b : Book) (sec : Section) : Nat :=
  (s.tileSequence b sec).length - (sec.sheets.map s.capacityOf).sum

/-- The entry ids of a sheet's share, in order (R83). -/
def State.shareOf (s : State) (b : Book) (sec : Section) (i : Nat) : List Nat :=
  ((s.tileSequence b sec).drop (s.startIn i sec.sheets)).take (s.capacityOf i)

/-! ### Folios and footers (R16, R17) -/

/-- The sheets of a book in folio order (R16). -/
def State.bookSheets (s : State) (b : Book) : List Nat :=
  b.sections.flatMap (fun k => match s.sec k with
    | some sec => sec.sheets
    | none => [])

/-- Every sheet, the lower-numbered book first, each book's in folio order (R18). -/
def State.folioOrder (s : State) : List Nat :=
  (List.range Config.bookSlots).flatMap (fun n => match s.book n with
    | some b => s.bookSheets b
    | none => [])

/-- The folio of a sheet: the book's first folio plus its ordinal (R16). -/
def State.folioOf (s : State) (b : Book) (i : Nat) : Nat := b.firstFolio + (s.bookSheets b).findIdx (· == i)

/-- The separator of a footer: a space, the dash and a space (R17). -/
def separator : Str := [0, 5, 0]

/-- The footer string (R17). -/
def footerOf (b : Book) (sec : Section) (folio : Nat) : Str :=
  b.label ++ separator ++ sec.label ++ separator ++ decimal folio

/-! ### Inputs (R31) -/

/-- The part of an entry that is an input (R31). -/
def tileEntry (i : Nat) (e : Entry) : TileEntry :=
  { id := i, surname := e.surname, given := e.given, role := e.role, status := e.status, portrait := e.portrait }

/-- The current image of a portrait as an input: width, height, face box and generation (R31). -/
def State.imageInput (s : State) (i : Nat) : Option ImageInput :=
  (s.portrait i).current.map (fun m => { width := m.width, height := m.height, face := m.face, generation := m.generation })

/-- The portrait image input of a tile entry: it counts only when the entry is PRESENT and has a portrait (R31). -/
def State.imageOf (s : State) (t : TileEntry) : Option ImageInput :=
  match t.status with
  | .present => t.portrait.bind s.imageInput
  | _ => none

/-- The book and the section of a sheet record. -/
def State.home (s : State) (sh : Sheet) : Option (Book × Section) := do
  let sec ← s.sec sh.section_
  let b ← s.book sec.book
  some (b, sec)

/-- The inputs of a sheet (R31); none when the slot is free or the sheet is UNLAID. The overflow count is a part of the last
sheet's share alone: a sheet that gains or loses that part has a changed share, with an overflow count of 0 too (R15, R31;
assumption 44). -/
def State.inputs (s : State) (i : Nat) : Option Inputs := do
  let sh ← s.sheet i
  let l ← sh.layout
  let (b, sec) ← s.home sh
  let tiles := (s.shareOf b sec i).filterMap (fun j => (s.entry j).map (tileEntry j))
  let last := decide (s.lastSheet sec = some i)
  some
    { layout := l
      overflow := if last then some (s.overflowOf b sec) else none
      tiles := tiles
      images := tiles.map s.imageOf
      listed := if last then (s.members b sec .listed).filterMap (fun j => (s.entry j).map (fun e => (e.given, e.surname))) else []
      footer := footerOf b sec (s.folioOf b i)
      absent := b.absent
      withheld := b.withheld
      tolerance := b.tolerance
      holdOnDrift := b.holdOnDrift }

/-- A tile entry shows a portrait's image: it is PRESENT and references the portrait (R44). -/
def TileEntry.shows (t : TileEntry) (p : Nat) : Bool := decide (t.status = .present) && decide (t.portrait = some p)

/-- The change set of a change to a portrait's current image, in folio order: every sheet with a layout whose share holds a
PRESENT entry that references the portrait (R44). -/
def State.imageSet (s : State) (p : Nat) : List Nat :=
  s.folioOrder.filter (fun i => match s.inputs i with
    | some inp => inp.tiles.any (·.shows p)
    | none => false)

end Sys2Proof.Machine
end

