-- ==== Sys2Proof/Machine/Guard.lean ====
section
/-! DEFINITION. The change set, the change guard, staling and removal (R18, R22, R32, R33, R46 to R49). -/

namespace Sys2Proof.Machine

open Sys2Proof

/-- The change set of R32 in the folio order of the table after the change: the surviving sheets whose inputs before and
after differ. A removed sheet is not in it (R49). -/
def changeSet (before after : State) : List Nat :=
  after.folioOrder.filter (fun i => decide (before.inputs i ≠ after.inputs i))

/-- A sheet has its approval lock set. -/
def State.isLocked (s : State) (i : Nat) : Bool :=
  match s.sheet i with
  | some sh => sh.lock
  | none => false

/-- A sheet is IN_PRESS. -/
def State.isInPress (s : State) (i : Nat) : Bool :=
  match s.sheet i with
  | some sh => decide (sh.state = .inPress)
  | none => false

/-- The change guard (R46, R47): none when it accepts; otherwise the reason and the first sheet of the set, in the folio
order of the table as it stands, that meets the condition of the pass that refused. -/
def guard (s : State) (set : List Nat) : Option (Reason × Nat) :=
  match (s.folioOrder.filter set.contains).find? s.isLocked with
  | some i => some (.locked, i)
  | none =>
    match (s.folioOrder.filter set.contains).find? s.isInPress with
    | some i => some (.inPress, i)
    | none => none

/-- A sheet at the tail of the placement queue (R78). -/
def State.joinQueue (s : State) (i : Nat) : State := { s with queue := s.queue ++ [i] }

/-- Stale one sheet (R18): its epoch is incremented and, unless it is STALE or UNLAID-without-layout, it enters STALE
without result and hold reason and joins the queue tail. -/
def State.staleOne (s : State) (i : Nat) : State :=
  match s.sheet i with
  | none => s
  | some sh =>
    match sh.state with
    | .stale => s.bumpEpoch i
    | .inPress => s
    | .unlaid =>
      if sh.layout.isSome then ((s.bumpEpoch i).setSheet i (some { sh with state := .stale })).joinQueue i else s
    | _ => ((s.bumpEpoch i).setSheet i (some { sh with state := .stale, result := none, hold := none })).joinQueue i

/-- Stale the sheets of a set in its order (R18, R33). -/
def State.staleAll (s : State) (set : List Nat) : State := set.foldl State.staleOne s

/-- Apply a change (R33): the guard judges its change set; a refusal leaves everything as it was; on acceptance the change
stands, its set is staled, and the reply is `ok`. -/
def applyChange (before after : State) (ok : Answer) : State × Answer :=
  match guard before (changeSet before after) with
  | some (r, i) => (before, Answer.refuseAt r i)
  | none => (after.staleAll (changeSet before after), ok)

/-- Remove a sheet from the sheet table and the placement queue; its slot keeps its incremented epoch (R22). -/
def State.removeSheet (s : State) (i : Nat) : State :=
  { (s.bumpEpoch i).setSheet i none with queue := s.queue.filter (fun j => decide (j ≠ i)) }

/-- Free an entry slot; the use count of its portrait falls (R5, R9, R35, R61). -/
def State.freeEntry (s : State) (i : Nat) : State :=
  match s.entry i with
  | none => s
  | some e => (s.useDown e.portrait).setEntry i none

/-- The check of a removal for its own sheets, in folio order (R49): LOCKED before IN_USE, with the first such sheet. -/
def removalCheck (s : State) (sheets : List Nat) : Option (Reason × Nat) :=
  match (s.folioOrder.filter sheets.contains).find? s.isLocked with
  | some i => some (.locked, i)
  | none =>
    match (s.folioOrder.filter sheets.contains).find? (fun i => ((s.sheet i).bind (·.job)).isSome) with
    | some i => some (.inUse, i)
    | none => none

end Sys2Proof.Machine
end

