-- ==== Sys2Proof/Machine/Books.lean ====
section
/-! DEFINITION. The requests on books, sections and sheets (chapter 1). -/

namespace Sys2Proof.Machine

open Sys2Proof

/-! ### Books (R3 to R5) -/

/-- The policy of a code for absent entries (R190). -/
def absentPolicyOf : Nat → Option AbsentPolicy
  | 0 => some .silhouette | 1 => some .list | 2 => some .omit | _ => none

/-- The policy of a code for withheld entries (R190). -/
def withheldPolicyOf : Nat → Option WithheldPolicy
  | 0 => some .silhouette | 1 => some .omit | _ => none

/-- The flag of a code: off or on. -/
def flagOf : Nat → Option Bool
  | 0 => some false | 1 => some true | _ => none

/-- A first folio brought into 1 to 9999 (R3). -/
def clampFolio (n : Nat) : Nat := max 1 (min 9999 n)

/-- OPEN BOOK (R3). -/
def openBook (i : Nat) (label : Str) (folio : Nat) : Effect := fun s =>
  if ¬i < Config.bookSlots then (s, Answer.refuse .badIndex)
  else if (s.book i).isSome then (s, Answer.refuse .inUse)
  else if ¬sendable label then (s, Answer.refuse .badForm)
  else
    (s.setBook i (some
      { label := label.take 40, firstFolio := clampFolio folio, absent := .silhouette, withheld := .silhouette
        tolerance := 24, holdOnDrift := false, sections := [] }),
      Answer.done (decide (40 < label.length) || decide (clampFolio folio ≠ folio)) [])

/-- OPEN BOOK, granted. -/
def execOpenBook (p : Port) (s : State) : Host.Outcome State Fault Refusal :=
  .next (s.serve p fun
    | some (.openBook i label folio) => some (openBook i label folio)
    | _ => none)

/-- SET BOOK (R4). A drift tolerance above 255 has no range to clamp into and is refused (assumption 8). -/
def setBook (i : Nat) (label : Str) (folio absent withheld tolerance hold : Nat) : Effect := fun s =>
  if ¬i < Config.bookSlots then (s, Answer.refuse .badIndex)
  else match s.book i with
    | none => (s, Answer.refuse .notOpen)
    | some b =>
      match absentPolicyOf absent, withheldPolicyOf withheld, flagOf hold with
      | some ap, some wp, some hd =>
        if sendable label ∧ tolerance < 256 then
          applyChange s
            (s.setBook i (some { b with
              label := label.take 40, firstFolio := clampFolio folio, absent := ap, withheld := wp
              tolerance := tolerance, holdOnDrift := hd }))
            (Answer.done (decide (40 < label.length) || decide (clampFolio folio ≠ folio)) [])
        else (s, Answer.refuse .badForm)
      | _, _, _ => (s, Answer.refuse .badForm)

/-- SET BOOK, granted. -/
def execSetBook (p : Port) (s : State) : Host.Outcome State Fault Refusal :=
  .next (s.serve p fun
    | some (.setBook i label folio absent withheld tolerance hold) =>
      some (setBook i label folio absent withheld tolerance hold)
    | _ => none)

/-- The entries of a section's roster freed, its sheets removed, and its slot freed (R5, R9). -/
def State.removeSection (s : State) (k : Nat) : State :=
  match s.sec k with
  | none => s
  | some sec => ((sec.roster.foldl State.freeEntry s) |> sec.sheets.foldl State.removeSheet).setSec k none

/-- CLOSE BOOK (R5). -/
def closeBook (i : Nat) : Effect := fun s =>
  if ¬i < Config.bookSlots then (s, Answer.refuse .badIndex)
  else match s.book i with
    | none => (s, Answer.refuse .notOpen)
    | some b =>
      match removalCheck s (s.bookSheets b) with
      | some (r, j) => (s, Answer.refuseAt r j)
      | none => ((b.sections.foldl State.removeSection s).setBook i none, Answer.ok)

/-- CLOSE BOOK, granted. -/
def execCloseBook (p : Port) (s : State) : Host.Outcome State Fault Refusal :=
  .next (s.serve p fun
    | some (.closeBook i) => some (closeBook i)
    | _ => none)

/-! ### Sections (R7 to R9) -/

/-- The key of a section slot. -/
def State.keyOf (s : State) (k : Nat) : Nat :=
  match s.sec k with
  | some sec => sec.key
  | none => 0

/-- A section slot put into a section list at the place its key gives it (R6). -/
def State.placeSection (s : State) (k key : Nat) (l : List Nat) : List Nat :=
  l.filter (fun j => decide (s.keyOf j < key)) ++ k :: l.filter (fun j => decide (¬s.keyOf j < key))

/-- ADD SECTION (R7). An order key above 255 has no range to clamp into and is refused (assumption 8). -/
def addSection (i key : Nat) (label : Str) : Effect := fun s =>
  if ¬i < Config.bookSlots then (s, Answer.refuse .badIndex)
  else match s.book i with
    | none => (s, Answer.refuse .notOpen)
    | some b =>
      if ¬(sendable label ∧ key < 256) then (s, Answer.refuse .badForm)
      else if b.sections.any (fun j => s.keyOf j == key) then (s, Answer.refuse .orderTaken)
      else if ¬b.sections.length < Config.sectionsPerBook then (s, Answer.refuse .listFull)
      else match tabFree Config.sectionSlots s.sections with
        | none => (s, Answer.refuse .tableFull)
        | some k =>
          ((s.setSec k (some { book := i, key := key, label := label.take 24, roster := [], sheets := [] })).setBook i
              (some { b with sections := s.placeSection k key b.sections }),
            Answer.done (decide (24 < label.length)) (byte2 k))

/-- ADD SECTION, granted. -/
def execAddSection (p : Port) (s : State) : Host.Outcome State Fault Refusal :=
  .next (s.serve p fun
    | some (.addSection i key label) => some (addSection i key label)
    | _ => none)

/-- SET SECTION (R8). -/
def setSection (k : Nat) (label : Str) (key : Nat) : Effect := fun s =>
  match s.sec k with
  | none => (s, Answer.refuse .badIndex)
  | some sec =>
    match s.book sec.book with
    | none => (s, Answer.refuse .badIndex)
    | some b =>
      if ¬(sendable label ∧ key < 256) then (s, Answer.refuse .badForm)
      else if (rosterRemove b.sections k).any (fun j => s.keyOf j == key) then (s, Answer.refuse .orderTaken)
      else
        applyChange s
          ((s.setSec k (some { sec with label := label.take 24, key := key })).setBook sec.book
            (some { b with sections := s.placeSection k key (rosterRemove b.sections k) }))
          (Answer.done (decide (24 < label.length)) [])

/-- SET SECTION, granted. -/
def execSetSection (p : Port) (s : State) : Host.Outcome State Fault Refusal :=
  .next (s.serve p fun
    | some (.setSection k label key) => some (setSection k label key)
    | _ => none)

/-- DROP SECTION (R9). -/
def dropSection (k : Nat) : Effect := fun s =>
  match s.sec k with
  | none => (s, Answer.refuse .badIndex)
  | some sec =>
    match s.book sec.book with
    | none => (s, Answer.refuse .badIndex)
    | some b =>
      match removalCheck s sec.sheets with
      | some (r, j) => (s, Answer.refuseAt r j)
      | none =>
        applyChange s
          ((s.removeSection k).setBook sec.book (some { b with sections := rosterRemove b.sections k })) Answer.ok

/-- DROP SECTION, granted. -/
def execDropSection (p : Port) (s : State) : Host.Outcome State Fault Refusal :=
  .next (s.serve p fun
    | some (.dropSection k) => some (dropSection k)
    | _ => none)

/-! ### Sheets (R11, R12) -/

/-- A sheet right after ADD SHEET (R10). -/
def Sheet.fresh (k : Nat) : Sheet :=
  { section_ := k, state := .unlaid, lock := false, layout := none, result := none, hold := none, printCount := 0
    job := none }

/-- ADD SHEET (R11). -/
def addSheet (k position : Nat) : Effect := fun s =>
  match s.sec k with
  | none => (s, Answer.refuse .badIndex)
  | some sec =>
    if sec.sheets.length < position then (s, Answer.refuse .badIndex)
    else if ¬sec.sheets.length < Config.sheetsPerSection then (s, Answer.refuse .listFull)
    else match tabFree Config.sheetSlots s.sheets with
      | none => (s, Answer.refuse .tableFull)
      | some i =>
        applyChange s
          (((s.bumpEpoch i).setSheet i (some (Sheet.fresh k))).setSec k
            (some { sec with sheets := insertAt sec.sheets position i }))
          (Answer.done false (byte2 i))

/-- ADD SHEET, granted. -/
def execAddSheet (p : Port) (s : State) : Host.Outcome State Fault Refusal :=
  .next (s.serve p fun
    | some (.addSheet k position) => some (addSheet k position)
    | _ => none)

/-- DROP SHEET (R12). -/
def dropSheet (i : Nat) : Effect := fun s =>
  match s.sheet i with
  | none => (s, Answer.refuse .badIndex)
  | some sh =>
    match s.sec sh.section_ with
    | none => (s, Answer.refuse .badIndex)
    | some sec =>
      match removalCheck s [i] with
      | some (r, j) => (s, Answer.refuseAt r j)
      | none =>
        applyChange s
          ((s.removeSheet i).setSec sh.section_ (some { sec with sheets := rosterRemove sec.sheets i })) Answer.ok

/-- DROP SHEET, granted. -/
def execDropSheet (p : Port) (s : State) : Host.Outcome State Fault Refusal :=
  .next (s.serve p fun
    | some (.dropSheet i) => some (dropSheet i)
    | _ => none)

/-! ### Layouts (R13 to R15) -/

/-- Every field lies in its range of R13. -/
def Layout.inRange (l : Layout) : Bool :=
  decide (1200 ≤ l.sheetWidth ∧ l.sheetWidth ≤ 8192 ∧ 1600 ≤ l.sheetHeight ∧ l.sheetHeight ≤ 12288 ∧
    64 ≤ l.bodyWidth ∧ l.bodyWidth ≤ l.sheetWidth ∧ 64 ≤ l.bodyHeight ∧ l.bodyHeight ≤ l.sheetHeight ∧
    1 ≤ l.columns ∧ l.columns ≤ 8 ∧ 64 ≤ l.cellWidth ∧ l.cellWidth ≤ 2048 ∧ 80 ≤ l.cellHeight ∧ l.cellHeight ≤ 2560) &&
  decide (l.captionHeight ≤ 256 ∧ 12 ≤ l.lineHeight ∧ l.lineHeight ≤ 128 ∧ 4 ≤ l.advance ∧ l.advance ≤ 64 ∧
    l.gutterAcross ≤ 512 ∧ l.gutterDown ≤ 512 ∧ 16 ≤ l.headHeight ∧ l.headHeight ≤ l.cellHeight ∧
    1 ≤ l.eyeRow ∧ l.eyeRow < l.cellHeight ∧ l.listLines ≤ 4 ∧ l.pattern ≤ 7)

/-- The checks of SET LAYOUT (R14). -/
def Layout.valid (l : Layout) : Bool :=
  l.inRange &&
    decide (l.bodyLeft + l.bodyWidth ≤ l.sheetWidth ∧ l.bodyTop + l.bodyHeight ≤ l.sheetHeight) &&
    decide (l.columns * l.cellWidth + (l.columns - 1) * l.gutterAcross ≤ l.bodyWidth) &&
    decide (1 ≤ l.rowsMax) &&
    decide (l.featureFirst = true → 3 ≤ l.columns ∧ 2 ≤ l.rowsMax) &&
    decide (0 < l.captionHeight → l.lineHeight ≤ l.captionHeight)

/-- SET LAYOUT (R14, R15). The record is checked before anything else. A sheet that has this very layout is unchanged,
unless it is IN_PRESS: such a sheet is always in the change set, and the guard refuses it. -/
def setLayout (i : Nat) (l : Layout) (flagsFit : Bool) : Effect := fun s =>
  if ¬(flagsFit ∧ l.valid) then (s, Answer.refuse .badLayout)
  else match s.sheet i with
    | none => (s, Answer.refuse .badIndex)
    | some sh =>
      if sh.state = .inPress then
        match guard s (i :: changeSet s (s.setSheet i (some { sh with layout := some l }))) with
        | some (r, j) => (s, Answer.refuseAt r j)
        | none => (s, Answer.refuseAt .inPress i)
      else applyChange s (s.setSheet i (some { sh with layout := some l })) Answer.ok

/-- SET LAYOUT, granted. -/
def execSetLayout (p : Port) (s : State) : Host.Outcome State Fault Refusal :=
  .next (s.serve p fun
    | some (.setLayout i l flagsFit) => some (setLayout i l flagsFit)
    | _ => none)

end Sys2Proof.Machine
end

