-- ==== Sys2Proof/Machine/Directory.lean ====
section
/-! DEFINITION. The portrait directory: face boxes, promotion, approval locks with their counts, and the requests on portraits
and approvals (R51 to R56, R58 to R65, R77). -/

namespace Sys2Proof.Machine

open Sys2Proof

/-! ### Images and tiles -/

/-- A face box that is valid for a width and a height in their ranges (R59). -/
def faceFits (width height : Nat) (f : FaceBox) : Bool :=
  decide (f.crown < f.eye ∧ f.eye < f.chin ∧ f.chin + 1 ≤ height ∧ 16 ≤ f.chin - f.crown ∧ f.centre + 1 ≤ width)

/-- An image size in its ranges (R59). -/
def sizeFits (width height : Nat) : Bool := decide (64 ≤ width ∧ width ≤ 2048 ∧ 64 ≤ height ∧ height ≤ 2560)

/-- The block count of an image (R59). -/
def blocksFor (width height : Nat) : Nat := ceilDiv (width * height * 3) Config.blockBytes

/-- The portrait a PORTRAIT tile names. -/
def Tile.portraitOf (t : Tile) : Option Nat :=
  match t.kind with
  | .portrait i _ _ _ => some i
  | .placeholder _ => none

/-- The portraits of a sheet's PORTRAIT tiles, one for each tile, in tile order (R62). -/
def Sheet.pins (sh : Sheet) : List Nat :=
  match sh.result with
  | some r => r.tiles.filterMap Tile.portraitOf
  | none => []

/-- The distinct portraits a sheet's result shows (R54). -/
def Sheet.shown (sh : Sheet) : List Nat := distinct sh.pins

/-! ### Promotion (R56, R77) -/

/-- A portrait promotes its pending image: it holds one, and both its counts are 0 (R77). -/
def State.promotes (s : State) (i : Nat) : Bool :=
  (s.portrait i).pendingImage.isSome && decide ((s.portrait i).pinCount = 0) && decide ((s.portrait i).lockCount = 0)

/-- One portrait's promotion (R77), its staling left out: the pending image becomes current, its blocks with it, and the old
current image's blocks are returned. -/
def State.promoteOne (s : State) (i : Nat) : State :=
  (({ s with pool := (s.pool.giveBack (.current i)).pass (.pending i) (.current i) } : State).mapPortrait i
    (fun r => { r with current := r.pendingImage, pendingImage := none })).latchAll .portraitPromoted (.portrait (some i))

/-- Examine portraits for promotion (R77): those that promote do, and then the sheets that show any of them are staled
together, in the order of R18, each once: its epoch rises by 1 for the whole event, however many of its portraits promote
(R18, R56; assumption 49). -/
def State.examine (s : State) (ports : List Nat) : State :=
  let ready := ports.filter s.promotes
  let t := ready.foldl State.promoteOne s
  t.staleAll (t.folioOrder.filter (fun i => ready.any (fun p => (t.imageSet p).contains i)))

/-! ### Approval (R52, R53) -/

/-- APPROVE SHEET (R52). -/
def approveSheet (i epoch : Nat) : Effect := fun s =>
  match s.sheet i with
  | none => (s, Answer.refuse .badIndex)
  | some sh =>
    if sh.state ≠ .placed then (s, Answer.refuse .notEligible)
    else if (s.epoch i).toNat ≠ epoch then (s, Answer.refuse .notEligible)
    else if sh.lock then (s, Answer.ok)
    else
      (sh.shown.foldl (fun t p => t.mapPortrait p (fun r => { r with lockCount := r.lockCount + 1 }))
          (s.setSheet i (some { sh with lock := true })),
        Answer.done false (byte2 sh.shown.length))

/-- APPROVE SHEET, granted. -/
def execApproveSheet (p : Port) (s : State) : Host.Outcome State Fault Refusal :=
  .next (s.serve p fun
    | some (.approveSheet i epoch) => some (approveSheet i epoch)
    | _ => none)

/-- UNLOCK SHEET (R53): the lock is cleared and the counts fall, and then the promotions this releases are made. -/
def unlockSheet (i : Nat) : Effect := fun s =>
  match s.sheet i with
  | none => (s, Answer.refuse .badIndex)
  | some sh =>
    if ¬sh.lock then (s, Answer.ok)
    else
      ((sh.shown.foldl (fun t p => t.mapPortrait p (fun r => { r with lockCount := r.lockCount - 1 }))
          (s.setSheet i (some { sh with lock := false }))).examine sh.shown,
        Answer.ok)

/-- UNLOCK SHEET, granted. -/
def execUnlockSheet (p : Port) (s : State) : Host.Outcome State Fault Refusal :=
  .next (s.serve p fun
    | some (.unlockSheet i) => some (unlockSheet i)
    | _ => none)

/-! ### Portrait requests (R63 to R65) -/

/-- A portrait slot number in the directory that is not FREE. -/
def State.portraitHeld (s : State) (i : Nat) : Bool :=
  decide (i < Config.portraitSlots) && decide ((s.portrait i).state ≠ .free)

/-- A portrait is the target of the inbound load record (R64). -/
def State.isLoadTarget (s : State) (i : Nat) : Bool :=
  match s.image.load with
  | some r => decide (r.header.slot = i)
  | none => false

/-- RESERVE PORTRAIT (R63). -/
def reservePortrait (i : Nat) : Effect := fun s =>
  if ¬i < Config.portraitSlots then (s, Answer.refuse .badIndex)
  else if (s.portrait i).state ≠ .free then (s, Answer.refuse .inUse)
  else
    (s.mapPortrait i (fun r => { r with state := .empty, current := none, pendingImage := none }),
      Answer.done false (byte1 (s.portrait i).generation))

/-- RESERVE PORTRAIT, granted. -/
def execReservePortrait (p : Port) (s : State) : Host.Outcome State Fault Refusal :=
  .next (s.serve p fun
    | some (.reservePortrait i) => some (reservePortrait i)
    | _ => none)

/-- RELEASE PORTRAIT (R64). -/
def releasePortrait (i : Nat) : Effect := fun s =>
  if ¬s.portraitHeld i then (s, Answer.refuse .badIndex)
  else if 0 < (s.portrait i).useCount then (s, Answer.refuse .inUse)
  else if s.isLoadTarget i then (s, Answer.refuse .inUse)
  else
    (({ s with pool := s.pool.giveBack (.current i) } : State).mapPortrait i
        (fun r => { r with state := .free, current := none, pendingImage := none }),
      Answer.done false (byte2 (s.pool.blocksOf (.current i)).length))

/-- RELEASE PORTRAIT, granted. -/
def execReleasePortrait (p : Port) (s : State) : Host.Outcome State Fault Refusal :=
  .next (s.serve p fun
    | some (.releasePortrait i) => some (releasePortrait i)
    | _ => none)

/-- SET FACE BOX (R65): its change set is that of R44. -/
def setFaceBox (i : Nat) (face : FaceBox) : Effect := fun s =>
  if ¬s.portraitHeld i then (s, Answer.refuse .badIndex)
  else match (s.portrait i).current with
    | none => (s, Answer.refuse .notEligible)
    | some m =>
      if ¬faceFits m.width m.height face then (s, Answer.refuse .badFace)
      else if 0 < (s.portrait i).lockCount then (s, Answer.refuse .frozen)
      else if m.face = face then (s, Answer.ok)
      else match guard s (s.imageSet i) with
        | some (r, j) => (s, Answer.refuseAt r j)
        | none =>
          ((s.mapPortrait i (fun r => { r with current := some { m with face := face } })).staleAll (s.imageSet i),
            Answer.ok)

/-- SET FACE BOX, granted. -/
def execSetFaceBox (p : Port) (s : State) : Host.Outcome State Fault Refusal :=
  .next (s.serve p fun
    | some (.setFaceBox i face) => some (setFaceBox i face)
    | _ => none)

end Sys2Proof.Machine
end

