-- ==== Sys2Proof/Machine/ImagePort.lean ====
section
/-! DEFINITION. The image port (section 4.5): the load of a portrait from its header to its end, R68 to R76. -/

namespace Sys2Proof.Machine

open Sys2Proof

/-! ### Replies and refusals -/

/-- Put a reply on the image reply lines (R192); it carries the pool's free count. -/
def State.imageReply (s : State) (status : Status) (reason : Option Reason) (outcome : LoadOutcome) (value : Option Nat) :
    State :=
  { s with image := { s.image with
      reply := some { status := status, reason := reason, outcome := outcome, value := value, freeCount := s.pool.freeCount } } }

/-- A BUSY reply word; it raises no counter (R186). -/
def State.imageBusy (s : State) : State := s.imageReply .busy none .none none

/-- A REFUSED reply word: the loads-refused counter rises (R186). -/
def State.imageRefuse (s : State) (r : Reason) : State := (s.imageReply .refused (some r) .none none).raise imageUnit 1

/-- A REFUSED reply word that also latches LOAD_REFUSED, with its target slot as subject or none (R186). -/
def State.imageRefuseLatch (s : State) (r : Reason) (slot : Option Nat) : State :=
  (s.imageRefuse r).latchAll .loadRefused (.portrait slot)

/-- The code of a load outcome (R192). -/
def outcomeCode : LoadOutcome → Nat
  | .none => 0 | .committed => 1 | .pending => 2 | .dropped => 3

/-- The two words of an image reply (R192); bits 31-20 of word 1 are a free value, and so are bits 19-0 of word 0 where the
reply has neither a block count nor a generation (assumption 5). -/
def imageReplyWords (r : ImageReply) : List Word32 :=
  [BitVec.ofNat 4 (statusCode r.status) ++ BitVec.ofNat 6 ((r.reason.map reasonCode).getD 0) ++
      BitVec.ofNat 2 (outcomeCode r.outcome) ++
      BitVec.ofNat 20 (r.value.getD (Config.imageReplyFiller (statusCode r.status * 64 + outcomeCode r.outcome))),
    BitVec.ofNat 12 (Config.imageReplyUpper r.freeCount) ++ BitVec.ofNat 20 r.freeCount]

/-- The image port returns to IDLE with no header, no load record and the load timer stopped. -/
def State.imageIdle (s : State) : State :=
  { s with image := { s.image with state := .idle, header := none, load := none, timer := none } }

/-- A load record is dropped: the inbound blocks are returned to the pool, and the port returns to IDLE. -/
def State.dropLoad (s : State) : State := ({ s with pool := s.pool.giveBack .inbound } : State).imageIdle

/-- The target slot of the load record. -/
def ImagePort.target (im : ImagePort) : Option Nat := im.load.map (·.header.slot)

/-! ### Header (R69) -/

/-- The header a transfer carries; none when it fails its form check: other than 4 words, or nonzero bits where zero is
given (R69, R192). -/
def headerOf : List Word32 → Option LoadHeader
  | [w0, w1, w2, w3] =>
    if w0.extractLsb' 28 4 = 1#4 ∧ w0.extractLsb' 12 16 = 0#16 then
      some
        { slot := (w0.extractLsb' 0 12).toNat
          width := (w1.extractLsb' 16 16).toNat
          height := (w1.extractLsb' 0 16).toNat
          face :=
            { crown := (w2.extractLsb' 16 16).toNat, eye := (w2.extractLsb' 0 16).toNat
              chin := (w3.extractLsb' 16 16).toNat, centre := (w3.extractLsb' 0 16).toNat } }
    else none
  | _ => none

/-- What the port does with a header as it arrives (R68, R69). -/
def State.takeHeader (s : State) (words : List Word32) : State :=
  match s.image.state with
  | .idle =>
    match headerOf words with
    | none => s.imageRefuseLatch .badForm none
    | some h => { s with image := { s.image with state := .headerWait, header := some h } }
  | _ => s.imageBusy

/-- The checks of a header at its grant, in the order of R69. -/
def State.headerCheck (s : State) (h : LoadHeader) : Option Reason :=
  if ¬s.portraitHeld h.slot then some .badIndex
  else if ¬(sizeFits h.width h.height ∧ faceFits h.width h.height h.face) then some .badFace
  else if 0 < (s.portrait h.slot).lockCount then some .frozen
  else if s.pool.freeCount < blocksFor h.width h.height then some .poolFull
  else none

/-- An accepted header (R69): the blocks are reserved, the load record is made, and the load timer starts. -/
def State.acceptHeader (s : State) (h : LoadHeader) : State :=
  let n := blocksFor h.width h.height
  let t : State := { s with
    pool := s.pool.reserve n
    image := { s.image with
      state := .receiving
      header := none
      load := some { header := h, blockCount := n, blocks := s.pool.lowestFree n, received := 0, check := crc32Init }
      timer := some Config.loadTimerMs } }
  t.imageReply .done none .none (some n)

/-- The table engine takes the header at its grant (R69). -/
def State.headerGrant (s : State) : State :=
  match s.image.header with
  | none => s
  | some h =>
    match s.headerCheck h with
    | some r => s.imageIdle.imageRefuseLatch r (some h.slot)
    | none => s.acceptHeader h

/-- A waiting header is granted and taken whole (R69, R174). -/
def execImageHeaderGrant (s : State) : Host.Outcome State Fault Refusal :=
  match s.image.state with
  | .headerWait =>
    match s.grantImage with
    | some g => .next g.headerGrant.freeEngine
    | none => .next s
  | _ => .next s

/-! ### Payload (R70) -/

/-- The payload bytes of a transfer: the first `count` bytes of its words, four to a word (R192). A byte count above what the
words after the first hold is a case the spec leaves open: only the bytes present arrive, and R70 counts and writes them
(assumption 52). -/
def payloadBytes (count : Nat) (words : List Word32) : List Byte := (words.flatMap wordBytes).take count

/-- Payload bytes received: counted, checked, and written to the reserved blocks in order, but for those beyond the image
(R70). -/
def State.takePayload (s : State) (r : LoadRecord) (bytes : List Byte) : State :=
  { s with
    pool := s.pool.writeImage r.blocks (r.header.width * r.header.height * 3) r.received bytes
    image := { s.image with
      load := some { r with received := r.received + bytes.length, check := crc32From r.check bytes } } }

/-- What the port does with payload as it arrives: outside RECEIVING it is discarded (R68, R70). -/
def State.takePayloadTransfer (s : State) (count : Nat) (words : List Word32) : State :=
  match s.image.state, s.image.load with
  | .receiving, some r => s.takePayload r (payloadBytes count words)
  | _, _ => s

/-- A payload transfer arrives (R70). -/
def execImagePayload (count : Nat) (words : List Word32) (s : State) : Host.Outcome State Fault Refusal :=
  .next (s.takePayloadTransfer count words)

/-! ### End mark (R71 to R74) -/

/-- The port's checks of an end mark, in the order of R71. -/
def LoadRecord.endCheck (r : LoadRecord) (check : Word32) : Option Reason :=
  if r.received ≠ r.header.width * r.header.height * 3 then some .badForm
  else if check ≠ r.check then some .badCheck
  else none

/-- A load is refused at its end mark (R71, R72). -/
def State.refuseLoad (s : State) (r : Reason) : State :=
  s.dropLoad.imageRefuseLatch r s.image.target

/-- What the port does with an end mark as it arrives (R68, R71). -/
def State.takeEndMark (s : State) (check : Word32) : State :=
  match s.image.state with
  | .idle => s.imageRefuse .badForm
  | .headerWait => s.imageRefuse .badForm
  | .endWait => s.imageBusy
  | .receiving =>
    match s.image.load with
    | none => s
    | some r =>
      match r.endCheck check with
      | some reason => s.refuseLoad reason
      | none => { s with image := { s.image with state := .endWait, timer := none } }

/-- An end mark arrives (R71). -/
def execImageEndMark (check : Word32) (s : State) : Host.Outcome State Fault Refusal := .next (s.takeEndMark check)

/-- The generation an accepted load takes (R60). -/
def nextGeneration (g : Nat) : Nat := (g + 1) % 256

/-- The descriptor an accepted load makes (R72). -/
def LoadRecord.image (r : LoadRecord) (generation : Nat) : Image :=
  { width := r.header.width, height := r.header.height, face := r.header.face, blocks := r.blockCount
    generation := generation }

/-- A load commits (R73): the image becomes current, the old blocks are freed, and the sheets that show the portrait are
staled. -/
def State.commitLoad (s : State) (r : LoadRecord) : State :=
  let i := r.header.slot
  let g := nextGeneration (s.portrait i).generation
  let t : State :=
    (({ s with pool := ((s.pool.giveBack (.current i)).giveBack (.pending i)).pass .inbound (.current i) } : State).mapPortrait i
      (fun q => { q with state := .ready, current := some (r.image g), pendingImage := none, generation := g })).imageIdle
  (((t.staleAll (t.imageSet i)).latchAll .portraitCommitted (.portrait (some i))).raise imageUnit 0).imageReply .done none
    .committed (some g)

/-- A load goes pending (R74): the image becomes the pending image in place of an earlier one. -/
def State.pendLoad (s : State) (r : LoadRecord) : State :=
  let i := r.header.slot
  let g := nextGeneration (s.portrait i).generation
  let t : State :=
    (({ s with pool := (s.pool.giveBack (.pending i)).pass .inbound (.pending i) } : State).mapPortrait i
      (fun q => { q with pendingImage := some (r.image g), generation := g })).imageIdle
  (t.raise imageUnit 0).imageReply .done none .pending (some g)

/-- The table engine takes the end mark at its grant (R72). -/
def State.endMarkGrant (s : State) : State :=
  match s.image.load with
  | none => s
  | some r =>
    if 0 < (s.portrait r.header.slot).lockCount then s.refuseLoad .frozen
    else if (s.portrait r.header.slot).pinCount = 0 then
      if (s.imageSet r.header.slot).any s.isInPress then s.refuseLoad .inPress else s.commitLoad r
    else s.pendLoad r

/-- A waiting end mark is granted and taken whole (R72, R174). -/
def execImageEndMarkGrant (s : State) : Host.Outcome State Fault Refusal :=
  match s.image.state with
  | .endWait =>
    match s.grantImage with
    | some g => .next g.endMarkGrant.freeEngine
    | none => .next s
  | _ => .next s

/-! ### ABORT and the load timer (R75, R76) -/

/-- The load-dropped reply of an ABORT, counted as abandoned (R75, R186). -/
def State.abortReply (s : State) : State := (s.raise imageUnit 2).imageReply .done none .dropped none

/-- What the port does with an ABORT (R75). -/
def State.takeAbort (s : State) : State :=
  match s.image.state with
  | .idle => s.imageReply .done none .none none
  | .headerWait => s.imageIdle.abortReply
  | .receiving => s.dropLoad.abortReply
  | .endWait => s.dropLoad.abortReply

/-- An ABORT arrives (R75). -/
def execImageAbort (s : State) : Host.Outcome State Fault Refusal := .next s.takeAbort

/-- The load timer expires in RECEIVING (R76): the load is dropped with no reply word. -/
def State.loadTimeout (s : State) : State :=
  ((s.dropLoad.raise imageUnit 2).latchAll .loadRefused (.portrait s.image.target))

/-- The load timer expires. It runs in RECEIVING alone (R76). -/
def execLoadTimerExpiry (s : State) : Host.Outcome State Fault Refusal :=
  match s.image.state with
  | .receiving => .next s.loadTimeout
  | _ => .next s

/-! ### The words of a transfer (R192) -/

/-- The kind of a transfer: bits 31-28 of its first word (R192). -/
def transferKind : List Word32 → Nat
  | [] => 0
  | w :: _ => (w.extractLsb' 28 4).toNat

/-- The byte count a payload transfer gives: bits 27-0 of its first word (R192). -/
def transferCount : List Word32 → Nat
  | [] => 0
  | w :: _ => (w.extractLsb' 0 28).toNat

/-- A transfer as its kind says: 2 is payload, 3 an end mark with the check in the second word, 4 ABORT; any other is a header,
judged by its form check (R69, R192). Bits 27-0 of an end mark or an ABORT are not read, and an end mark with no second word is
discarded (assumption 47). -/
def State.takeTransfer (s : State) (words : List Word32) : State :=
  match transferKind words with
  | 2 => s.takePayloadTransfer (transferCount words) words.tail
  | 3 =>
    match words.tail with
    | check :: _ => s.takeEndMark check
    | [] => s
  | 4 => s.takeAbort
  | _ => s.takeHeader words

/-- A transfer arrives as its words, a header by its kind or any other (R68, R69, R192). -/
def execImageHeader (words : List Word32) (s : State) : Host.Outcome State Fault Refusal := .next (s.takeTransfer words)

end Sys2Proof.Machine
end

