-- ==== Sys2Proof/Machine/Captions.lean ====
section
/-! DEFINITION. Captions and the not-pictured lines (sections 6.3 and 6.4): R108 to R117. -/

namespace Sys2Proof.Machine

open Sys2Proof

/-- A string longer than `m` cut to `m` characters, the last of them the elision mark (R112). -/
def cutTo (m : Nat) (s : Str) : Str := if m < s.length then s.take (m - 1) ++ [95] else s

/-- The full name: the given name, a space and the surname, or the surname alone (R109). -/
def fullName (given surname : Str) : Str := if given = [] then surname else given ++ 0 :: surname

/-- The short name: the given name's first character, a full stop, a space and the surname, or the surname alone (R111). -/
def shortName (given surname : Str) : Str :=
  match given with
  | [] => surname
  | c :: _ => c :: 1 :: 0 :: surname

/-- The lines of a caption and its CUT mark: the first of the forms 1 to 4 that applies, for a line capacity and a number of
lines available (R109 to R111). -/
def captionForm (cap lines : Nat) (given surname : Str) : List Str × Bool :=
  if (fullName given surname).length ≤ cap then ([fullName given surname], false)
  else if lines = 2 then
    if given ≠ [] ∧ given.length ≤ cap ∧ surname.length ≤ cap then ([given, surname], false)
    else if given = [] then ([cutTo cap surname], true)
    else ([cutTo cap given, cutTo cap surname], true)
  else if (shortName given surname).length ≤ cap then ([shortName given surname], false)
  else ([cutTo cap (shortName given surname)], true)

/-- A caption line centred in an area's width (R113). -/
def centreLine (width advance : Nat) (text : Str) : CaptionLine :=
  { text := text, x := (width - text.length * advance) / 2 }

/-- The caption of a tile of a given area width, with its CUT mark (R108 to R113). -/
def captionOf (l : Layout) (width : Nat) (given surname : Str) : List CaptionLine × Bool :=
  if l.captionHeight = 0 then ([], false)
  else
    let form := captionForm (min 48 (width / l.advance)) (min 2 (l.captionHeight / l.lineHeight)) given surname
    (form.1.map (centreLine width l.advance), form.2)

/-! ### Not-pictured lines (R114 to R116) -/

/-- "Not pictured: " in caption-set codes (R114). -/
def notPicturedLead : Str := [56, 83, 88, 0, 84, 77, 71, 88, 89, 86, 73, 72, 6, 0]

/-- What a line begins with: line 1 with the lead, any other with nothing (R114). -/
def lineLead (first : Bool) : Str := if first then notPicturedLead else []

/-- Names joined by the separator ", " (R115). -/
def joinNames : List Str → Str
  | [] => []
  | [a] => a
  | a :: b :: l => a ++ 2 :: 0 :: joinNames (b :: l)

/-- A line as set: its lead and its names; a name too long for a whole line is cut to it (R115). -/
def listLine (cap : Nat) (first : Bool) (names : List Str) : Str := lineLead first ++ joinNames (names.map (cutTo cap))

/-- The length a line would have with its names and one more (R115). -/
def trialLength (first : Bool) (names : List Str) (name : Str) : Nat :=
  (lineLead first ++ joinNames (names ++ [name])).length

/-- The names kept when the last line is refilled within `room` characters (R116): while the line's length stays within it;
on a line other than line 1 the first name is always kept. -/
def refillNames (room : Nat) (first : Bool) : List Str → List Str → List Str
  | kept, [] => kept
  | kept, n :: l =>
    if kept = [] ∧ first = false then refillNames room first [cutTo room n] l
    else if trialLength first kept n ≤ room then refillNames room first (kept ++ [n]) l
    else kept

/-- The last line refilled for the count mark, with `left` names left off after it (R116). -/
def refillLine (cap : Nat) (first : Bool) (names : List Str) (left : Nat) : Str :=
  let kept := refillNames (cap - 5) first [] names
  let line := lineLead first ++ joinNames kept
  let mark := 18 :: decimal (left + (names.length - kept.length))
  if kept = [] ∧ first then line ++ mark else line ++ 0 :: mark

/-- Fill the list lines (R115, R116): `first` says whether the current line is line 1, `names` are the names it holds,
`after` is the number of lines that follow it, and the last argument holds the names still to place. -/
def fillLines (cap : Nat) (first : Bool) (names : List Str) (after : Nat) : List Str → List Str
  | [] => [listLine cap first names]
  | n :: l =>
    if trialLength first names n ≤ cap ∨ (names = [] ∧ first = false) then
      fillLines cap first (names ++ [n]) after l
    else
      match after with
      | 0 => [refillLine cap first names (l.length + 1)]
      | k + 1 => listLine cap first names :: fillLines cap false [n] k l

/-- The not-pictured lines of a last sheet (R91, R114 to R116), from the LISTED names as (given name, surname). -/
def notPicturedLines (l : Layout) (listed : List (Str × Str)) : List Str :=
  if l.listLines = 0 ∨ l.bodyWidth / l.advance < 20 ∨ listed = [] then []
  else fillLines (l.bodyWidth / l.advance) true [] (l.listLines - 1) (listed.map (fun n => fullName n.1 n.2))

end Sys2Proof.Machine
end

