-- ==== Sys2Proof/Machine/FaceFit.lean ====
section
/-! DEFINITION. The face fit of one PORTRAIT tile (section 6.1): R98 to R107. Divisions round toward minus infinity. -/

namespace Sys2Proof.Machine

open Sys2Proof

/-- The inputs of one tile's fit (R98). -/
structure FitInput where
  width : Nat
  height : Nat
  face : FaceBox
  areaWidth : Nat
  areaHeight : Nat
  /-- T, the target head height. -/
  head : Nat
  /-- E, the target eye row. -/
  eye : Nat
  tolerance : Nat
  deriving DecidableEq, Repr

/-- Step 1: the fit scale (R99). -/
def FitInput.fitScale (i : FitInput) : Nat := i.head * 4096 / (i.face.chin - i.face.crown)

/-- The cover scale c (R100). -/
def FitInput.coverScale (i : FitInput) : Nat :=
  max (ceilDiv (i.areaWidth * 4096) i.width) (ceilDiv (i.areaHeight * 4096) i.height)

/-- Step 2: the scale after the cover raise (R100). -/
def FitInput.raisedScale (i : FitInput) : Nat := max i.fitScale i.coverScale

/-- Step 3: the tile's scale (R101). -/
def FitInput.scale (i : FitInput) : Nat := max 1024 (min 16384 i.raisedScale)

/-- Step 4: the window's width (R102). -/
def FitInput.w (i : FitInput) : Nat := i.areaWidth * 4096 / i.scale

/-- Step 4: the window's height (R102). -/
def FitInput.h (i : FitInput) : Nat := i.areaHeight * 4096 / i.scale

/-- Step 5: the target eye row in source pixels (R103). -/
def FitInput.e (i : FitInput) : Nat := i.eye * 4096 / i.scale

/-- Step 5: the raw window column (R103). -/
def FitInput.rawX (i : FitInput) : Int := (i.face.centre : Int) - ((i.w / 2 : Nat) : Int)

/-- Step 5: the raw window row (R103). -/
def FitInput.rawY (i : FitInput) : Int := (i.face.eye : Int) - (i.e : Int)

/-- Step 6 on one axis (R104): the window held inside the source, or the source centred in the window. -/
def placeAxis (raw : Int) (window source : Nat) : Int :=
  if window ≤ source then min (max raw 0) ((source : Int) - window) else -(((window - source) / 2 : Nat) : Int)

/-- Step 6: the window column (R104). -/
def FitInput.x0 (i : FitInput) : Int := placeAxis i.rawX i.w i.width

/-- Step 6: the window row (R104). -/
def FitInput.y0 (i : FitInput) : Int := placeAxis i.rawY i.h i.height

/-- Step 7: the eye drift (R105). -/
def FitInput.drift (i : FitInput) : Int := ((i.face.eye : Int) - i.y0) * i.scale / 4096 - i.eye

/-- A division discards a nonzero remainder. -/
def inexactDiv (a b : Nat) : Bool := decide (a % b ≠ 0)

/-- The INEXACT flag (R106). -/
def FitInput.inexact (i : FitInput) : Bool :=
  inexactDiv (i.head * 4096) (i.face.chin - i.face.crown) || inexactDiv (i.areaWidth * 4096) i.scale ||
    inexactDiv (i.areaHeight * 4096) i.scale || inexactDiv (i.eye * 4096) i.scale || inexactDiv i.w 2 ||
    (decide (i.width < i.w) && inexactDiv (i.w - i.width) 2) ||
    (decide (i.height < i.h) && inexactDiv (i.h - i.height) 2) ||
    decide (((i.face.eye : Int) - i.y0) * i.scale % 4096 ≠ 0)

/-- The fit of a tile (R107). -/
def FitInput.fit (i : FitInput) : Fit :=
  { scale := i.scale, x0 := i.x0, y0 := i.y0, w := i.w, h := i.h, drift := i.drift }

/-- The flags of a tile (R100, R101, R104, R105, R106). -/
def FitInput.flags (i : FitInput) : TileFlags :=
  { raised := decide (i.fitScale < i.coverScale)
    clamped := decide (16384 < i.raisedScale ∨ i.raisedScale < 1024)
    padded := decide (i.width < i.w ∨ i.height < i.h)
    inexact := i.inexact
    drift := decide ((i.tolerance : Int) < |i.drift|) }

/-- The source column that the dot at column `u` of the area shows (R107). -/
def Fit.sourceColumn (f : Fit) (u : Nat) : Int := f.x0 + ((min (u * 4096 / f.scale) (f.w - 1) : Nat) : Int)

/-- The source row that the dot at row `v` of the area shows (R107). -/
def Fit.sourceRow (f : Fit) (v : Nat) : Int := f.y0 + ((min (v * 4096 / f.scale) (f.h - 1) : Nat) : Int)

end Sys2Proof.Machine
end

