-- ==== Sys2Proof/Machine/Placement.lean ====
section
/-! DEFINITION. The placement unit (chapter 5): the take, the computation of a placement result from the unit's copy, and the
completion (R19, R20, R78 to R94). The drop of a RUN job at a HELD completion is R123's. -/

namespace Sys2Proof.Machine

open Sys2Proof

/-! ### The grid (R87 to R90) -/

/-- Feature is active on a sheet of `n` tiles (R87). -/
def Layout.featureActive (l : Layout) (n : Nat) : Bool := l.featureFirst && decide (2 ≤ n) && decide (3 ≤ l.columns)

/-- The cells `n` tiles take (R87). -/
def Layout.cells (l : Layout) (n : Nat) : Nat := if l.featureActive n then n + 3 else n

/-- R, the rows used; a sheet with no tile has no grid (R87). -/
def Layout.rowsUsed (l : Layout) (n : Nat) : Nat :=
  if n = 0 then 0
  else if l.featureActive n then max 2 (ceilDiv (l.cells n) l.columns) else ceilDiv (l.cells n) l.columns

/-- k, the cells in the last row, which may be negative when feature forces two rows (R87). -/
def Layout.lastRowCells (l : Layout) (n : Nat) : Int := (l.cells n : Int) - ((l.rowsUsed n : Int) - 1) * l.columns

/-- The centring shift of the last row, 0 when it is not centred (R89). -/
def Layout.shift (l : Layout) (n : Nat) : Nat :=
  if 0 < n ∧ l.centreLast ∧ l.lastRowCells n < l.columns ∧ ¬(l.featureActive n ∧ l.rowsUsed n ≤ 2) then
    (((l.columns : Int) - l.lastRowCells n) * l.pitchX / 2).toNat
  else 0

/-- The row and column of tile `i` of `n` (R88). -/
def Layout.cellOf (l : Layout) (n i : Nat) : Nat × Nat :=
  if l.featureActive n then
    if i = 0 then (0, 0)
    else if i - 1 < l.columns - 2 then (0, 2 + (i - 1))
    else if i - 1 < 2 * (l.columns - 2) then (1, 2 + (i - 1 - (l.columns - 2)))
    else (2 + (i - 1 - 2 * (l.columns - 2)) / l.columns, (i - 1 - 2 * (l.columns - 2)) % l.columns)
  else (i / l.columns, i % l.columns)

/-- Tile `i` of `n` is the feature tile (R88). -/
def Layout.isFeature (l : Layout) (n i : Nat) : Bool := l.featureActive n && decide (i = 0)

/-- The area width of a tile: Wf or Wc (R90). -/
def Layout.areaWidth (l : Layout) (feature : Bool) : Nat :=
  if feature then 2 * l.cellWidth + l.gutterAcross else l.cellWidth

/-- The area height of a tile: Hf or Hc (R90). -/
def Layout.areaHeight (l : Layout) (feature : Bool) : Nat :=
  if feature then 2 * l.cellHeight + l.captionHeight + l.gutterDown else l.cellHeight

/-- The x of tile `i`'s area (R90). -/
def Layout.areaX (l : Layout) (n i : Nat) : Nat :=
  l.bodyLeft + (l.cellOf n i).2 * l.pitchX + (if (l.cellOf n i).1 + 1 = l.rowsUsed n then l.shift n else 0)

/-- The y of tile `i`'s area (R90). -/
def Layout.areaY (l : Layout) (n i : Nat) : Nat := l.bodyTop + (l.cellOf n i).1 * l.pitchY

/-- The top of a tile's caption strip: below its area (R90). -/
def Tile.stripTop (t : Tile) : Nat := t.y + t.height

/-- The top of the list strip (R91). -/
def Layout.listTop (l : Layout) : Nat := l.bodyTop + l.bodyHeight - l.listStrip

/-- The footer line (R92). -/
def Layout.footerLine (l : Layout) (footer : Str) : FooterLine :=
  let room := l.sheetWidth / l.advance
  let y := if l.bodyTop + l.bodyHeight + l.lineHeight ≤ l.sheetHeight then l.bodyTop + l.bodyHeight
    else l.sheetHeight - l.lineHeight
  if footer.length ≤ room then
    { text := footer, x := (l.sheetWidth - footer.length * l.advance) / 2, y := y, cut := false }
  else { text := footer.take (room - 1) ++ [95], x := 0, y := y, cut := true }

/-! ### Tiles (R85, R94) -/

/-- The fit inputs of a tile (R98). -/
def fitInput (inp : Inputs) (feature : Bool) (m : ImageInput) : FitInput :=
  { width := m.width, height := m.height, face := m.face
    areaWidth := inp.layout.areaWidth feature
    areaHeight := inp.layout.areaHeight feature
    head := if feature then 2 * inp.layout.headHeight else inp.layout.headHeight
    eye := if feature then 2 * inp.layout.eyeRow else inp.layout.eyeRow
    tolerance := inp.tolerance }

/-- The kind of a tile with its fit and flags: PORTRAIT when the entry is PRESENT and its portrait has a current image
(R29, R85). -/
def tileKindOf (inp : Inputs) (feature : Bool) (t : TileEntry) (m : Option ImageInput) : TileKind :=
  match t.status, t.portrait, m with
  | .present, some p, some m => .portrait p m.generation (fitInput inp feature m).fit (fitInput inp feature m).flags
  | _, _, _ => .placeholder inp.layout.pattern

/-- The record of tile `i` of `n` (R94). -/
def tileOf (inp : Inputs) (n i : Nat) (t : TileEntry) (m : Option ImageInput) : Tile :=
  let l := inp.layout
  let feature := l.isFeature n i
  let caption := captionOf l (l.areaWidth feature) t.given t.surname
  { entry := t.id
    row := (l.cellOf n i).1
    col := (l.cellOf n i).2
    feature := feature
    x := l.areaX n i
    y := l.areaY n i
    width := l.areaWidth feature
    height := l.areaHeight feature
    kind := tileKindOf inp feature t m
    caption := caption.1
    cut := caption.2 }

/-- The tiles from index `i` on. -/
def tilesFrom (inp : Inputs) (n : Nat) : Nat → List (TileEntry × Option ImageInput) → List Tile
  | _, [] => []
  | i, (t, m) :: l => tileOf inp n i t m :: tilesFrom inp n (i + 1) l

/-- The tile list of a sheet, in tile order (R88, R93). -/
def Inputs.tileList (inp : Inputs) : List Tile := tilesFrom inp inp.tiles.length 0 (inp.tiles.zip inp.images)

/-- The flags of a tile; a PLACEHOLDER has none (R94). -/
def Tile.flags (t : Tile) : TileFlags :=
  match t.kind with
  | .portrait _ _ _ f => f
  | .placeholder _ => { raised := false, clamped := false, padded := false, inexact := false, drift := false }

/-- A tile is a PORTRAIT. -/
def Tile.isPortrait (t : Tile) : Bool :=
  match t.kind with
  | .portrait _ _ _ _ => true
  | .placeholder _ => false

/-! ### The hold reason and the result (R86, R93) -/

/-- The hold reason one tile gives (R86). -/
def tileHold (holdOnDrift : Bool) (e : TileEntry) (t : Tile) : Option Hold :=
  if e.status = .present ∧ ¬t.isPortrait then some .portraitMissing
  else if t.flags.drift ∧ holdOnDrift then some .drift
  else none

/-- The hold reason of a sheet: OVERFLOW, or the first that a tile gives in tile order (R86). -/
def Inputs.holdReason (inp : Inputs) : Option Hold :=
  if 0 < inp.overflow.getD 0 then some .overflow
  else (inp.tiles.zip inp.tileList).findSome? (fun e => tileHold inp.holdOnDrift e.1 e.2)

/-- The tiles with a flag, counted (R93). -/
def countTiles (f : Tile → Bool) (l : List Tile) : Nat := (l.filter f).length

/-- The placement result of a sheet from the unit's copy (R80, R93). -/
def InProgress.result (u : InProgress) : PlacementResult :=
  let inp := u.inputs
  let n := inp.tiles.length
  let tiles := inp.tileList
  { tiles := tiles
    notPictured := if u.last then notPicturedLines inp.layout inp.listed else []
    footer := inp.footer
    footerLine := inp.layout.footerLine inp.footer
    featureActive := inp.layout.featureActive n
    rows := inp.layout.rowsUsed n
    shift := inp.layout.shift n
    firstTile := if n = 0 then none else some u.start
    overflow := inp.overflow.getD 0
    driftCount := countTiles (fun t => t.flags.drift) tiles
    paddedCount := countTiles (fun t => t.flags.padded) tiles
    clampedCount := countTiles (fun t => t.flags.clamped) tiles
    inexactCount := countTiles (fun t => t.flags.inexact) tiles
    cutCount := countTiles (fun t => t.cut) tiles }

/-! ### The take (R19, R79) -/

/-- The unit's record of a sheet: its epoch, and the copy of its inputs with what derives from them (R79). -/
def State.copySheet (s : State) (i : Nat) : Option InProgress := do
  let sh ← s.sheet i
  let (b, sec) ← s.home sh
  let inp ← s.inputs i
  some
    { sheet := i, epoch := s.epoch i, inputs := inp, start := s.startIn i sec.sheets
      last := decide (s.lastSheet sec = some i), folio := s.folioOf b i }

/-- The placement unit takes the sheet at the queue head, which enters PLACING. A BUSY unit and an empty queue take nothing
(R79). -/
def execPlacementTake (s : State) : Host.Outcome State Fault Refusal :=
  match s.placing, s.queue with
  | none, i :: q =>
    match s.sheet i, s.copySheet i with
    | some sh, some u =>
      .next { s.setSheet i (some { sh with state := .placing }) with queue := q, placing := some u }
    | _, _ => .next { s with queue := q }
  | _, _ => .next s

/-! ### The completion (R20, R81) -/

/-- A RUN job that has not started on a sheet that completes HELD is dropped (R20, R123). -/
def State.dropRunJob (s : State) (i : Nat) : State :=
  match s.jobs.find? (fun j => decide (j.sheet = i) && decide (j.kind = .run) && !j.started) with
  | none => s
  | some j =>
    match s.sheet i with
    | none => s
    | some sh =>
      (({ s with jobs := s.jobs.filter (fun k => decide (k.tag ≠ j.tag)) } : State).setSheet i
        (some { sh with job := none })).latchAt j.port .jobDropped (.job j.tag)

/-- The book table takes a completion (R20): it is accepted only when the slot holds a sheet that is PLACING at the epoch
carried. -/
def State.acceptCompletion (s : State) (u : InProgress) : State :=
  match s.sheet u.sheet with
  | none => s
  | some sh =>
    if sh.state = .placing ∧ s.epoch u.sheet = u.epoch then
      match u.inputs.holdReason with
      | none =>
        (s.setSheet u.sheet (some { sh with state := .placed, result := some u.result, hold := none })).latchAll
          .sheetPlaced (.sheet u.sheet)
      | some r =>
        (((s.setSheet u.sheet (some { sh with state := .held, result := some u.result, hold := some r })).latchAll
          .sheetHeld (.sheet u.sheet)).dropRunJob u.sheet)
    else s

end Sys2Proof.Machine
end

