-- ==== Sys2Proof/Machine/Frames.lean ====
section
/-! DEFINITION. Band frames (section 8.1): which items of a placement result cross a band, their spans and payload, and the
bytes of a frame on the outbound lane (R140, R141, R193). -/

namespace Sys2Proof.Machine

open Sys2Proof

/-- The first sheet row of a band (R140). -/
def bandTop (j : Nat) : Nat := Config.bandRows * j

/-- The height of a band: the last one stops at the sheet's last row (R140). -/
def Layout.bandHeight (l : Layout) (j : Nat) : Nat := min Config.bandRows (l.sheetHeight - bandTop j)

/-- A rectangle of a sheet with the span body of its item and the payload of its rows from one on. -/
structure Item where
  x : Nat
  y : Nat
  width : Nat
  height : Nat
  body : SpanBody

/-- The first row of an item inside a band. -/
def Item.firstRow (it : Item) (top : Nat) : Nat := max it.y top

/-- The row after the last row of an item inside a band. -/
def Item.endRow (it : Item) (top rows : Nat) : Nat := min (it.y + it.height) (top + rows)

/-- An item crosses a band's rows (R141). -/
def Item.crosses (it : Item) (top rows : Nat) : Bool := decide (it.firstRow top < it.endRow top rows)

/-- The span entry of an item in a band it crosses (R141). -/
def Item.span (it : Item) (top rows : Nat) : Span :=
  { x := it.x
    y := it.firstRow top - top
    width := it.width
    height := it.endRow top rows - it.firstRow top
    rowOffset := it.firstRow top - it.y
    body := it.body }

/-! ### Items of a result, in span-list order (R141) -/

/-- The dots across an area that show a source pixel (R107). -/
def inkColumns (f : Fit) (areaWidth sourceWidth : Nat) : List Nat :=
  (List.range areaWidth).filter (fun u => decide (0 ≤ f.sourceColumn u) && decide (f.sourceColumn u < sourceWidth))

/-- The rows down an area that show a source pixel (R107). -/
def inkRows (f : Fit) (areaHeight sourceHeight : Nat) : List Nat :=
  (List.range areaHeight).filter (fun v => decide (0 ≤ f.sourceRow v) && decide (f.sourceRow v < sourceHeight))

/-- The bytes of one source pixel of a portrait's current image: three, row by row in the image (assumption 9). -/
def Pool.pixel (pl : Pool) (blocks : List Nat) (sourceWidth : Nat) (column row : Int) : List Byte :=
  (List.range 3).map (fun c => pl.readByte (imageAddress blocks ((row.toNat * sourceWidth + column.toNat) * 3 + c)))

/-- The payload of a PORTRAIT span: the dots of its rectangle row by row (R141). -/
def portraitPayload (pl : Pool) (blocks : List Nat) (sourceWidth : Nat) (f : Fit) (columns rows : List Nat) : List Byte :=
  rows.flatMap (fun v => columns.flatMap (fun u => pl.pixel blocks sourceWidth (f.sourceColumn u) (f.sourceRow v)))

/-- A text line as an item (R113, R117, R141). -/
def textItem (k : TextKind) (x y : Nat) (text : Str) (advance lineHeight : Nat) (cut : Bool) : Item :=
  { x := x, y := y, width := text.length * advance, height := lineHeight
    body := .text k text.length advance lineHeight cut }

/-- The entry of an item in a band with its payload, when it crosses the band. -/
def Item.entry (it : Item) (payload : List Byte) (top rows : Nat) : List (Span × List Byte) :=
  if it.crosses top rows then [(it.span top rows, payload)] else []

/-- The portrait or placeholder span of a tile with its payload (R141). -/
def tileSpan (s : State) (t : Tile) (top rows : Nat) : List (Span × List Byte) :=
  match t.kind with
  | .placeholder pattern =>
    ({ x := t.x, y := t.y, width := t.width, height := t.height, body := .placeholder pattern t.width t.height } : Item).entry
      [] top rows
  | .portrait p g f _ =>
    match (s.portrait p).current with
    | none => []
    | some m =>
      let us := inkColumns f t.width m.width
      let vs := inkRows f t.height m.height
      let it : Item :=
        { x := t.x + us.headD 0, y := t.y + vs.headD 0, width := us.length, height := vs.length
          body := .portrait p g f.x0 f.y0 f.w f.h f.scale }
      let inBand := vs.filter (fun v => decide (top ≤ t.y + v) && decide (t.y + v < top + rows))
      it.entry (portraitPayload s.pool (s.pool.blocksOf (.current p)) m.width f us inBand) top rows

/-- Numbered lines of text, each `lineHeight` below the one before. -/
def textSpans (k : TextKind) (advance lineHeight top rows : Nat) : Nat → List (Nat × Str) → List (Span × List Byte)
  | _, [] => []
  | y, (x, text) :: l =>
    (textItem k x y text advance lineHeight false).entry (text.flatMap byte1) top rows ++
      textSpans k advance lineHeight top rows (y + lineHeight) l

/-- The spans of a tile and its caption lines in a band (R141). -/
def tileSpans (s : State) (l : Layout) (top rows : Nat) (t : Tile) : List (Span × List Byte) :=
  tileSpan s t top rows ++
    textSpans .caption l.advance l.lineHeight top rows t.stripTop (t.caption.map (fun c => (t.x + c.x, c.text)))

/-- The span list of a band with each span's payload, in the order of R141. -/
def bandSpans (s : State) (l : Layout) (r : PlacementResult) (top rows : Nat) : List (Span × List Byte) :=
  r.tiles.flatMap (tileSpans s l top rows) ++
    textSpans .list l.advance l.lineHeight top rows l.listTop (r.notPictured.map (fun t => (l.bodyLeft, t))) ++
    (textItem .footer r.footerLine.x r.footerLine.y r.footerLine.text l.advance l.lineHeight r.footerLine.cut).entry
      (r.footerLine.text.flatMap byte1) top rows

/-- The frame of a band of a job (R140): everything but the start correction and the check. -/
def State.bandFrame (s : State) (j : Job) (b : BandInProduction) : Option BandFrame := do
  let sh ← s.sheet j.sheet
  let l ← sh.layout
  let r ← sh.result
  let spans := bandSpans s l r (bandTop b.band) (l.bandHeight b.band)
  some
    { tag := j.tag, serial := b.serial, copy := b.copy, band := b.band, bandCount := l.bands
      bandHeight := l.bandHeight b.band, sheetWidth := l.sheetWidth, proof := decide (j.kind = .proof)
      startCorrection := 0, spans := spans.map (·.1), payload := spans.flatMap (·.2) }

/-! ### Bytes (R190, R193) -/

/-- The code of a text span kind. -/
def textKindCode : TextKind → Nat
  | .caption => 2 | .list => 3 | .footer => 4

/-- A span entry: 24 bytes (R193). In a text span, bits 15 to 1 of bytes 16 and 17, which R193 does not name, and bit 0 but in a
cut FOOTER, are sent as 0 (assumption 54). -/
def spanBytes (sp : Span) : List Byte :=
  let rect := byte2 sp.x ++ byte2 sp.y ++ byte2 sp.width ++ byte2 sp.height ++ byte2 sp.rowOffset
  match sp.body with
  | .portrait p g x0 y0 w h sc =>
    byte1 0 ++ rect ++ byte2 p ++ byte1 g ++ byte2s x0 ++ byte2s y0 ++ byte2 w ++ byte2 h ++ byte2 sc
  | .placeholder pattern w h =>
    byte1 1 ++ rect ++ byte2 w ++ byte1 pattern ++ byte2 h ++ byte2 0 ++ byte2 0 ++ byte2 0 ++ byte2 0
  | .text k n a lh cut =>
    byte1 (textKindCode k) ++ rect ++ byte2 n ++ byte1 a ++ byte2 lh ++ byte2 (if cut then 1 else 0) ++ byte2 0 ++
      byte2 0 ++ byte2 0

/-- The header of a band frame from the job tag up to the check (R193). Bits 7 to 1 of the flags byte, which R193 does not name,
are sent as 0 (assumption 54). -/
def frameHeader (f : BandFrame) : List Byte :=
  byte2 f.tag ++ byte1 f.serial ++ byte2 f.copy ++ byte1 f.band ++ byte1 f.bandCount ++ byte1 f.bandHeight ++
    byte2 f.sheetWidth ++ byteFlag f.proof ++ byte2s f.startCorrection ++ byte2 f.spans.length ++ byte4 f.payload.length

/-- The span list and payload of a band frame (R193). -/
def frameBody (f : BandFrame) : List Byte := f.spans.flatMap spanBytes ++ f.payload

/-- The check of a band frame: every byte from the job tag to the end of the payload, the check field left out (R190). -/
def BandFrame.check (f : BandFrame) : BitVec 16 := crc16 (frameHeader f ++ frameBody f)

/-- The header of a fill frame up to the check: tag 0, span count 0, payload length 0, and bytes the reference does not state
(R147, R193). -/
def fillHeader : List Byte :=
  byte2 0 ++ (List.range 11).map (fun k => Config.fillHeaderByte (3 + k)) ++ byte2 0 ++ byte4 0

/-- The bytes a press link sends on its outbound lane (R193). -/
def laneBytes : LaneFrame → List Byte
  | .fill => 0xC3#8 :: (fillHeader ++ byte2 (crc16 fillHeader).toNat)
  | .band f c => 0xC3#8 :: (frameHeader f ++ byte2 c.toNat ++ frameBody f)

end Sys2Proof.Machine
end

