-- ==== Sys2Proof/Machine/Links.lean ====
section
/-! DEFINITION. What a press link does by itself with its FIFO, its attempt list and its dead rules (R142, R143, R148, R150,
R151). -/

namespace Sys2Proof.Machine

open Sys2Proof

/-- A dead rule makes an attempt of a tag, copy and serial dead (R148). -/
def DeadRule.kills (r : DeadRule) (tag copy serial : Nat) : Bool :=
  decide (r.tag = tag) && decide (r.copy ≤ copy) &&
    (match r.serial with
      | none => true
      | some v => decide (serial ≠ v))

/-- A frame is dead under the link's rules (R148). -/
def Link.isDead (l : Link) (f : BandFrame) : Bool := l.rules.any (fun r => r.kills f.tag f.copy f.serial)

/-- A frame or record belongs to the attempt in transmission: same tag, copy and serial. -/
def Link.inTransmission (l : Link) (tag copy serial : Nat) : Bool :=
  match l.transmission with
  | some t => decide (t.tag = tag) && decide (t.copy = copy) && decide (t.serial = serial)
  | none => false

/-- Remove the dead frames at the FIFO head (R148). -/
def Link.purge (l : Link) : Link := { l with fifo := l.fifo.dropWhile l.isDead }

/-- Remove what R154 removes at a frame request: dead head frames, and head frames that are not band 0 and belong to no
attempt in transmission. -/
def Link.purgeAtRequest (l : Link) : Link :=
  { l with fifo := l.fifo.dropWhile (fun f =>
      l.isDead f || (decide (f.band ≠ 0) && !l.inTransmission f.tag f.copy f.serial)) }

/-- The record has the tag, copy and serial of the attempt in transmission. The attempt's own record is the last such one: a
void record of an ended job may have them too, when its tag is given again (R118, R143). -/
def Link.namesakes (l : Link) (a : Attempt) : Bool := l.inTransmission a.tag a.copy a.serial

/-- Change the last member of a list that `hit` names. -/
def updateLast {α : Type} (hit : α → Bool) (f : α → α) : List α → List α
  | [] => []
  | a :: l => if hit a && !l.any hit then f a :: l else a :: updateLast hit f l

/-- The records with a report due, and the last of those that `own` names. -/
def keepDue (own : Attempt → Bool) : List Attempt → List Attempt
  | [] => []
  | a :: l => if decide (a.received < a.sent) || (own a && !l.any own) then a :: keepDue own l else keepDue own l

/-- Records whose sent frames are all reported leave the list, the attempt in transmission's own excepted (R143, R149). -/
def Link.dropReported (l : Link) : Link := { l with attempts := keepDue l.namesakes l.attempts }

/-- The attempt in transmission stops when `dead` says so of its tag, copy and serial. -/
def Link.stopIf (l : Link) (dead : Nat → Nat → Nat → Bool) : Link :=
  { l with transmission := l.transmission.filter (fun t => !dead t.tag t.copy t.serial) }

/-- The records that `dead` names take the void mark. -/
def Link.voidIf (l : Link) (dead : Nat → Nat → Nat → Bool) : Link :=
  { l with attempts := l.attempts.map (fun a => if dead a.tag a.copy a.serial then { a with voided := true } else a) }

/-- Void the records and stop the transmission that `dead` names, and tidy the FIFO and the list (R148). -/
def Link.kill (l : Link) (dead : Nat → Nat → Nat → Bool) : Link := ((l.voidIf dead).stopIf dead).purge.dropReported

/-- Set a job's dead rule, with what follows from it (R148). The rules stand in the order in which they were last set
(assumption 46). -/
def Link.setRule (l : Link) (r : DeadRule) : Link :=
  ({ l with rules := l.rules.filter (fun o => decide (o.tag ≠ r.tag)) ++ [r] } : Link).kill r.kills

/-- The job's rule kept when the link spoils an attempt at `copy`: an existing rule is replaced only when the copy is at or
below the rule's (R148). -/
def Link.keepsRule (l : Link) (tag copy : Nat) : Bool := l.rules.any (fun o => decide (o.tag = tag) && decide (o.copy < copy))

/-- The copy of the job's rule after a spoil at `copy`: the existing rule's when that is lower (R148). -/
def Link.ruleCopy (l : Link) (tag copy : Nat) : Nat :=
  (l.rules.filter (fun o => decide (o.tag = tag))).foldl (fun c o => min c o.copy) copy

/-- The link's own part of a spoil (R150, step 1): the rule of the attempt's copy with no serial, and the void of the
attempt's record and every later record of the job. `taken` says whether the job table takes the spoil: then a lower rule that
stands is kept until the new serial comes in the same step, and otherwise it stands with no serial (R148, R150;
assumption 30). -/
def Link.spoilRule (l : Link) (tag copy : Nat) (taken : Bool) : Link :=
  if l.keepsRule tag copy && taken then l.kill ({ tag := tag, copy := copy, serial := none } : DeadRule).kills
  else l.setRule { tag := tag, copy := l.ruleCopy tag copy, serial := none }

/-- The link's part of a job's end (R151). -/
def Link.jobEnd (l : Link) (tag : Nat) : Link :=
  ({ l with
      rules := l.rules.filter (fun o => decide (o.tag ≠ tag))
      fifo := l.fifo.filter (fun f => decide (f.tag ≠ tag)) } : Link).kill (fun t _ _ => decide (t = tag))

/-- A frame joins the FIFO tail; a dead frame that becomes the head is removed (R142, R148). -/
def Link.join (l : Link) (f : BandFrame) : Link := ({ l with fifo := l.fifo ++ [f] } : Link).purge

/-- Put a frame on the outbound lane. -/
def Link.put (l : Link) (f : LaneFrame) : Link := { l with lane := some f }

/-- The press's band FIFO has room (R128, R142). -/
def State.hasRoom (s : State) (q : Press) : Bool := decide ((s.link q).fifo.length < Config.fifoFrames)

end Sys2Proof.Machine
end

