-- ==== Sys2Proof/Machine/Jobs.lean ====
section
/-! DEFINITION. The job table and the renderer (chapter 7): submitting and cancelling, the grant order, band boundaries,
suspension, confirmations, spoils and job end. -/

namespace Sys2Proof.Machine

open Sys2Proof

/-! ### Eligibility and the grant order (R122, R126) -/

/-- A WAITING job is eligible for a grant (R122). -/
def State.eligible (s : State) (j : Job) : Bool :=
  decide (j.state = .waiting) &&
    (j.started ||
      match s.sheet j.sheet with
      | none => false
      | some sh => decide (sh.state = .placed) || (decide (j.kind = .proof) && decide (sh.state = .held)))

/-- The oldest eligible PROOF job of either press whose press's FIFO has room (R126, step 1). -/
def State.proofToGrant (s : State) : Option Job :=
  s.jobs.find? (fun j => decide (j.kind = .proof) && s.eligible j && s.hasRoom j.press)

/-- The SUSPENDED job, when its press's FIFO has room (R126, step 2). -/
def State.resumeToGrant (s : State) : Option Job := s.suspendedJob.filter (fun j => s.hasRoom j.press)

/-- The oldest eligible RUN job of a press (R126, step 3). -/
def State.oldestRun (s : State) (q : Press) : Option Job :=
  s.jobs.find? (fun j => decide (j.kind = .run) && decide (j.press = q) && s.eligible j)

/-- The job the grant order names (R126). -/
def State.grantOrder (s : State) : Option Job :=
  s.proofToGrant.or (s.resumeToGrant.or
    ((s.oldestRun (otherPress s.renderer.lastServed)).or (s.oldestRun s.renderer.lastServed)))

/-! ### The stall timer and the suspensions (R129 to R131) -/

/-- The stall timer stops. -/
def State.stopStall (s : State) : State := { s with renderer := { s.renderer with stallTimer := none } }

/-- The stall timer starts when the ACTIVE job stands at a band boundary with a band to begin and its FIFO is full (R129). -/
def State.startStall (s : State) : State :=
  match s.activeJob, s.renderer.band, s.renderer.stallTimer with
  | some j, none, none =>
    if s.hasRoom j.press then s
    else { s with renderer := { s.renderer with stallTimer := some s.renderer.stallWindow } }
  | _, _, _ => s

/-- The ACTIVE job is set aside: it enters SUSPENDED, and the stall timer stops. -/
def State.suspend (s : State) (j : Job) : State := (s.putJob { j with state := .suspended }).stopStall

/-- The proof suspension, examined at a copy boundary (R128 step 4, R130). -/
def State.examineProof (s : State) : State :=
  match s.activeJob with
  | none => s
  | some j =>
    if j.kind = .run ∧ j.ending = .none ∧ s.renderer.band = none ∧ j.resumeBand = 0 ∧ s.suspendedJob = none ∧
        s.proofToGrant.isSome then s.suspend j
    else s

/-- The proof suspension of a RUN job that stands at a copy boundary with no band begun, examined again after a command that
may bring its conditions about, whether or not the job's own FIFO has room: R128 has step 4 before step 5 (R128, R130;
assumption 10). -/
def State.recheckWait (s : State) : State := s.examineProof

/-- Another job could be granted in place of a stalled RUN job of a press (R131). -/
def State.otherGrantable (s : State) (q : Press) : Bool :=
  s.proofToGrant.isSome || (s.oldestRun (otherPress q)).isSome

/-- The stall timer expires (R129, R131): the ACTIVE RUN job is suspended, or the timer starts again. A job whose FIFO has
gained room waits for its band to begin and not for room, and its timer stops (assumption 12). -/
def State.stallExpiry (s : State) : State :=
  match s.activeJob with
  | none => s.stopStall
  | some j =>
    if s.hasRoom j.press then s.stopStall
    else if j.kind = .run ∧ j.ending = .none ∧ s.suspendedJob = none ∧ s.otherGrantable j.press then s.suspend j
    else { s with renderer := { s.renderer with stallTimer := some s.renderer.stallWindow } }

/-- The stall timer expires. A stopped timer cannot. -/
def execStallTimerExpiry (s : State) : Host.Outcome State Fault Refusal :=
  match s.renderer.stallTimer with
  | some _ => .next s.stallExpiry
  | none => .next s

/-! ### Job end (R138) -/

/-- The sheet of an ended job (R21): it leaves IN_PRESS, its print count rises and saturates, its job field is cleared. -/
def Sheet.leavePress (sh : Sheet) (done : Nat) : Sheet :=
  { sh with
    state := if sh.state = .inPress then (if sh.hold.isSome then .held else .placed) else sh.state
    printCount := min 65535 (sh.printCount + done)
    job := none }

/-- The pins of a started job's sheet released, tile by tile (R62). -/
def State.unpin (s : State) (pins : List Nat) : State :=
  pins.foldl (fun t p => t.mapPortrait p (fun r => { r with pinCount := r.pinCount - 1 })) s

/-- The pins of a job's sheet taken, tile by tile (R62, R127). -/
def State.pin (s : State) (pins : List Nat) : State :=
  pins.foldl (fun t p => t.mapPortrait p (fun r => { r with pinCount := r.pinCount + 1 })) s

/-- The pins a job holds: those of its sheet when it is started. -/
def State.jobPins (s : State) (j : Job) : List Nat :=
  match s.sheet j.sheet with
  | some sh => if j.started then sh.pins else []
  | none => []

/-- The job leaves the job table, and the renderer when it was ACTIVE (R138, steps 1 and 4). -/
def State.removeJob (s : State) (j : Job) : State :=
  { s with
    jobs := s.jobs.filter (fun k => decide (k.tag ≠ j.tag))
    renderer := if j.state = .active then { s.renderer with band := none, stallTimer := none } else s.renderer }

/-- The sheet of an ended job changed as R21 states. -/
def State.releaseSheet (s : State) (j : Job) : State :=
  match s.sheet j.sheet with
  | some sh => s.setSheet j.sheet (some (sh.leavePress j.done))
  | none => s

/-- A job ends with JOB_DONE or JOB_ABORTED (R138). -/
def State.endJob (s : State) (j : Job) (notice : Notice) : State :=
  let pins := s.jobPins j
  let t := ((((s.removeJob j).unpin pins).releaseSheet j).latchAt j.port notice (.job j.tag))
  (t.setLink j.press ((t.link j.press).jobEnd j.tag)).examine (distinct pins)

/-! ### Confirmations and spoils (R134 to R137) -/

/-- The job a report of the press link reaches: one whose ending mark is none (R134, R135). -/
def State.reportJob (s : State) (tag : Nat) : Option Job := (s.jobOf tag).filter (fun j => decide (j.ending = .none))

/-- The job table takes a confirmation (R134). -/
def State.takeConfirmation (s : State) (tag : Nat) : State :=
  match s.reportJob tag with
  | none => s
  | some j =>
    let k := { j with done := j.done + 1, spoils := 0 }
    if k.done = k.copies then (s.putJob k).endJob k .jobDone else s.putJob k

/-- A job moved to the head of its queue or list: it takes the place just before the oldest other job of its collection in
the order of submission (R119). -/
def moveToHead (jobs : List Job) (j : Job) : List Job :=
  let others := jobs.filter (fun k => decide (k.tag ≠ j.tag))
  let same := fun k : Job => decide (k.press = j.press) && decide (k.kind = j.kind)
  if others.any same then others.takeWhile (fun k => !same k) ++ j :: others.dropWhile (fun k => !same k)
  else jobs.map (fun k => if k.tag = j.tag then j else k)

/-- The lower of a pending rewind and a new spoiled copy (R136). -/
def lowerRewind (r : Option Nat) (copy : Nat) : Nat :=
  match r with
  | none => copy
  | some c => min c copy

/-- The rewind of a spoil, by the job's state (R136). -/
def State.rewindJob (s : State) (j : Job) (copy : Nat) : State :=
  match j.state with
  | .active =>
    if s.renderer.band.isSome then s.putJob { j with rewind := some (lowerRewind j.rewind copy) }
    else (s.putJob { j with resumeCopy := copy, resumeBand := 0, rewind := none }).examineProof
  | .draining =>
    { s with jobs := moveToHead s.jobs { j with state := .waiting, resumeCopy := copy, resumeBand := 0, rewind := none } }
  | _ => s.putJob { j with resumeCopy := copy, resumeBand := 0, rewind := none }

/-- The abort of a job at its third consecutive counted spoil (R137). -/
def State.abortJob (s : State) (j : Job) : State :=
  if j.state = .active ∧ s.renderer.band.isSome then s.putJob { j with ending := .aborted }
  else (s.putJob j).endJob j .jobAborted

/-- A job record with a spoil taken: the serial advances, and a counted spoil raises the count (R135). -/
def Job.spoiled (j : Job) (counted : Bool) : Job :=
  { j with serial := (j.serial + 1) % 256, spoils := if counted then j.spoils + 1 else j.spoils }

/-- The job table takes a spoil report (R135 to R137) of a job of press `q`. The new serial goes back to the link as the
job's rule, but for the uncounted spoils of an online fall (R148). The third counted spoil too advances the serial and hands
the rule over: only the rewind is left out (R135, R137; assumption 45). -/
def State.takeSpoil (s : State) (q : Press) (tag copy : Nat) (counted : Bool) : State :=
  match s.reportJob tag with
  | none => s
  | some j =>
    let k := j.spoiled counted
    let t := (s.putJob k).latchAll .copySpoiled (.job tag)
    let u := if counted then t.setLink q ((t.link q).setRule { tag := tag, copy := copy, serial := some k.serial }) else t
    if counted ∧ 3 ≤ k.spoils then u.abortJob k else u.rewindJob k copy

/-- The link spoils an attempt as a counted spoil (R150); a spoil that the job table ignores leaves the rule with no serial. -/
def State.linkSpoil (s : State) (q : Press) (tag copy : Nat) : State :=
  ((s.setLink q ((s.link q).spoilRule tag copy (s.reportJob tag).isSome)).raise (pressUnit q) 3).takeSpoil q tag copy true

/-- The link spoils its attempt in transmission, if there is one (R144, R146, R152). -/
def State.spoilTransmission (s : State) (q : Press) : State :=
  match (s.link q).transmission with
  | none => s
  | some t => s.linkSpoil q t.tag t.copy

/-! ### Submitting and cancelling (R118, R120, R121, R124) -/

/-- The tag after one (R118). -/
def tagAfter (t : Nat) : Nat := if t < Config.maxTag then t + 1 else 1

/-- The first tag from `t` on that no job has (R118); `fuel` bounds the tags passed over. -/
def freeTag (s : State) : Nat → Nat → Nat
  | 0, t => t
  | fuel + 1, t => if (s.jobOf t).isSome then freeTag s fuel (tagAfter t) else t

/-- The tag SUBMIT gives the next job (R118). -/
def State.nextTag (s : State) : Nat := freeTag s Config.maxTag s.tagCounter

/-- Create a job at the tail of its collection (R118 to R121). -/
def State.submit (s : State) (p : Port) (i : Nat) (sh : Sheet) (q : Press) (k : JobKind) (copies : Nat) : State :=
  let tag := s.nextTag
  let j : Job :=
    { tag := tag, sheet := i, press := q, kind := k, copies := copies, done := 0, port := p, state := .waiting
      started := false, resumeCopy := 1, resumeBand := 0, serial := 0, spoils := 0, ending := .none, rewind := none }
  ({ s with jobs := s.jobs ++ [j], tagCounter := tagAfter tag } : State).setSheet i (some { sh with job := some tag })

/-- SUBMIT RUN (R120). -/
def submitRun (p : Port) (i press copies : Nat) : Effect := fun s =>
  match s.sheet i with
  | none => (s, Answer.refuse .badIndex)
  | some sh =>
    match pressOf press with
    | none => (s, Answer.refuse .badForm)
    | some q =>
      if copies = 0 then (s, Answer.refuse .badForm)
      else if sh.job.isSome then (s, Answer.refuse .inUse)
      else if sh.state ≠ .placed then (s, Answer.refuse .notEligible)
      else if ¬(s.collection q .run).length < Config.runQueuePlaces then (s, Answer.refuse .queueFull)
      else (s.submit p i sh q .run (min 999 copies), Answer.done (decide (999 < copies)) (byte2 s.nextTag))

/-- SUBMIT RUN, granted. -/
def execSubmitRun (p : Port) (s : State) : Host.Outcome State Fault Refusal :=
  .next (s.serve p fun
    | some (.submitRun i q copies) => some (submitRun p i q copies)
    | _ => none)

/-- SUBMIT PROOF (R121). -/
def submitProof (p : Port) (i press : Nat) : Effect := fun s =>
  match s.sheet i with
  | none => (s, Answer.refuse .badIndex)
  | some sh =>
    match pressOf press with
    | none => (s, Answer.refuse .badForm)
    | some q =>
      if sh.job.isSome then (s, Answer.refuse .inUse)
      else if sh.state ≠ .placed ∧ sh.state ≠ .held then (s, Answer.refuse .notEligible)
      else if ¬(s.collection q .proof).length < Config.proofListPlaces then (s, Answer.refuse .queueFull)
      else ((s.submit p i sh q .proof 1).recheckWait, Answer.done false (byte2 s.nextTag))

/-- SUBMIT PROOF, granted. -/
def execSubmitProof (p : Port) (s : State) : Host.Outcome State Fault Refusal :=
  .next (s.serve p fun
    | some (.submitProof i q) => some (submitProof p i q)
    | _ => none)

/-- CANCEL JOB (R124). -/
def cancelJob (tag : Nat) : Effect := fun s =>
  if tag = 0 ∨ Config.maxTag < tag then (s, Answer.refuse .badIndex)
  else match s.jobOf tag with
    | none => (s, Answer.refuse .badIndex)
    | some j =>
      if j.ending ≠ .none then (s, Answer.ok)
      else if j.state = .active ∧ s.renderer.band.isSome then
        (s.putJob { j with ending := .cancelled }, Answer.done false (byte2 j.done))
      else ((s.endJob j .jobAborted).recheckWait, Answer.done false (byte2 j.done))

/-- CANCEL JOB, granted. -/
def execCancelJob (p : Port) (s : State) : Host.Outcome State Fault Refusal :=
  .next (s.serve p fun
    | some (.cancelJob tag) => some (cancelJob tag)
    | _ => none)

/-! ### The renderer (R126 to R128, R133) -/

/-- A first activation (R127): the sheet's portraits are pinned and the sheet enters IN_PRESS. -/
def State.activateSheet (s : State) (j : Job) : State :=
  if j.started then s
  else match s.sheet j.sheet with
    | none => s
    | some sh => (s.pin sh.pins).setSheet j.sheet (some { sh with state := .inPress })

/-- The named job becomes ACTIVE (R126, R127); the press of a RUN job is the press served last. -/
def State.grantJob (s : State) (j : Job) : State :=
  let t := (s.activateSheet j).putJob { j with state := .active, started := true }
  { t with renderer := { t.renderer with lastServed := if j.kind = .run then j.press else t.renderer.lastServed } }

/-- The free renderer grants itself to the job the grant order names, and stands at a band boundary (R126 to R129). -/
def execRendererGrant (s : State) : Host.Outcome State Fault Refusal :=
  match s.activeJob, s.grantOrder with
  | none, some j => .next ((s.grantJob j).examineProof.startStall)
  | _, _ => .next s

/-- The ACTIVE job begins the band at its resume point when its FIFO has room (R128). -/
def execBandBegin (s : State) : Host.Outcome State Fault Refusal :=
  match s.activeJob, s.renderer.band with
  | some j, none =>
    if s.hasRoom j.press then
      .next { s with renderer := { s.renderer with
        band := some { copy := j.resumeCopy, band := j.resumeBand, serial := j.serial }, stallTimer := none } }
    else .next s
  | _, _ => .next s

/-- The band count of a job's sheet (R128). -/
def State.bandsOf (s : State) (j : Job) : Nat :=
  match (s.sheet j.sheet).bind (·.layout) with
  | some l => l.bands
  | none => 0

/-- No band is in production. -/
def State.clearBand (s : State) : State := { s with renderer := { s.renderer with band := none } }

/-- The frame of the completed band enters the FIFO of the job's press (R128). -/
def State.frameJoins (s : State) (j : Job) (b : BandInProduction) : State :=
  match s.bandFrame j b with
  | some f => s.setLink j.press ((s.link j.press).join f)
  | none => s

/-- A completed band leads on: to DRAINING after the last band of the last copy, or to the next band, or to band 0 of the next
copy (R128, steps 3 to 5; R133). -/
def State.advance (s : State) (j : Job) (b : BandInProduction) : State :=
  if b.band + 1 < s.bandsOf j then
    (s.putJob { j with resumeCopy := b.copy, resumeBand := b.band + 1 }).startStall
  else if b.copy < j.copies then
    (s.putJob { j with resumeCopy := b.copy + 1, resumeBand := 0 }).examineProof.startStall
  else s.putJob { j with state := .draining }

/-- A rewind takes effect at a band boundary (R128 step 2, R136): the frame is discarded when its copy is at or after the
spoiled copy, and production moves to band 0 of that copy. -/
def State.takeRewind (s : State) (j : Job) (b : BandInProduction) (copy : Nat) : State :=
  let t := if copy ≤ b.copy then s else s.frameJoins j b
  (t.putJob { j with resumeCopy := copy, resumeBand := 0, rewind := none }).examineProof.startStall

/-- The band in production completes, and the renderer takes what reached the job during it (R128). -/
def execBandCompletion (s : State) : Host.Outcome State Fault Refusal :=
  match s.activeJob, s.renderer.band with
  | some j, some b =>
    if j.ending ≠ .none then .next (s.clearBand.endJob j .jobAborted)
    else match j.rewind with
      | some copy => .next (s.clearBand.takeRewind j b copy)
      | none => .next ((s.clearBand.frameJoins j b).advance j b)
  | _, _ => .next s

/-- The placement unit posts its completion and becomes IDLE (R81). -/
def execPlacementCompletion (s : State) : Host.Outcome State Fault Refusal :=
  match s.placing with
  | none => .next s
  | some u => .next (({ s with placing := none } : State).acceptCompletion u).recheckWait

end Sys2Proof.Machine
end

