-- ==== Sys2Proof/Machine/Registration.lean ====
section
/-! DEFINITION. The registration lock of a press link (chapter 9): the judgement of a mark report, the search timeout, a lost
lock, FORCE RESYNC and SET PRESS. -/

namespace Sys2Proof.Machine

open Sys2Proof

/-! ### Mark reports (R155) -/

/-- The offset of a mark report in dots: the signed field, with −2048 taken as −2047 (R155, R194). -/
def markOffset (field : BitVec 12) : Int := if field.toInt = -2048 then -2047 else field.toInt

/-- A report is good for a window: the mark is found, it is no stray, and |offset| is at most the window (R155). -/
def goodFor (window : Nat) (found stray : Bool) (offset : Int) : Bool :=
  found && !stray && decide (offset.natAbs ≤ window)

/-! ### Small operations on the lock -/

/-- Store the registration lock of a press. -/
def State.setReg (s : State) (q : Press) (r : Registration) : State := s.setLink q { s.link q with reg := r }

/-- The lock enters SEARCH with its counts at 0; the correction and the REG_TIMEOUT condition are kept (R160, R163). -/
def Registration.restart (r : Registration) : Registration :=
  { r with state := .search, confirm := 0, bad := 0, search := 0 }

/-- The lock enters LOCKED with the report's offset as correction (R157). -/
def Registration.lockAt (r : Registration) (offset : Int) : Registration :=
  { r with state := .locked, confirm := 0, bad := 0, search := 0, correction := offset, timedOut := false }

/-- The lock enters OFFLINE (R162). -/
def Registration.toOffline (r : Registration) : Registration :=
  { r with state := .offline, confirm := 0, bad := 0, search := 0, correction := 0, timedOut := false }

/-- The lock leaves OFFLINE for SEARCH (R162). -/
def Registration.toSearch (r : Registration) : Registration := { r with state := .search, confirm := 0, bad := 0, search := 0 }

/-- The REG_TIMEOUT condition is set and latched when the search count has reached the search timeout and the condition is
clear (R158, R182). -/
def State.checkTimeout (s : State) (q : Press) : State :=
  let r := (s.link q).reg
  if r.searchTimeout ≤ r.search ∧ r.timedOut = false then
    (s.setReg q { r with timedOut := true }).latchAll (regTimeoutOf q) .none
  else s

/-! ### The judgements (R157, R159, R160) -/

/-- The search count after one more report: it stops at the search timeout (R157, R158). -/
def Registration.searched (r : Registration) : Registration := { r with search := min r.searchTimeout (r.search + 1) }

/-- The capture judgement of a report taken in SEARCH or CONFIRM (R157, R158). -/
def State.judgeCapture (s : State) (q : Press) (found stray : Bool) (offset : Int) : State :=
  let r := (s.link q).reg
  if goodFor r.captureWindow found stray offset then
    if r.confirm < 2 then
      (s.setReg q { r.searched with state := .confirm, confirm := r.confirm + 1 }).checkTimeout q
    else (s.setReg q (r.lockAt offset)).latchAll .lockGained (.press q)
  else (s.setReg q { r.searched with state := .search, confirm := 0 }).checkTimeout q

/-- LOCKED is left for SEARCH by an AUTO loss or FORCE RESYNC (R160, R163): the locks-lost counter rises, LOCK_LOST is latched,
and the attempt in transmission is spoiled (R152). -/
def State.loseLock (s : State) (q : Press) : State :=
  (((s.setReg q (s.link q).reg.restart).raise (pressUnit q) 4).latchAll .lockLost (.press q)).spoilTransmission q

/-- The hold judgement of a report taken in LOCKED (R159, R160). -/
def State.judgeHold (s : State) (q : Press) (found stray : Bool) (offset : Int) : State :=
  let r := (s.link q).reg
  if goodFor r.holdWindow found stray offset then s.setReg q { r with correction := offset, bad := 0 }
  else
    let t := s.raise (pressUnit q) 5
    match r.policy with
    | .manual => t.setReg q { r with bad := min 2 (r.bad + 1) }
    | .auto => if r.bad + 1 < 3 then t.setReg q { r with bad := r.bad + 1 } else t.loseLock q

/-- The registration lock takes a report (R155 to R160). -/
def State.judgeReport (s : State) (q : Press) (found stray : Bool) (offset : Int) : State :=
  match (s.link q).reg.state with
  | .offline => s
  | .search => s.judgeCapture q found stray offset
  | .confirm => s.judgeCapture q found stray offset
  | .locked => s.judgeHold q found stray offset

/-! ### FORCE RESYNC (R163) -/

/-- FORCE RESYNC (R163). -/
def forceResync (press : Nat) : Effect := fun s =>
  match pressOf press with
  | none => (s, Answer.refuse .badForm)
  | some q =>
    match (s.link q).reg.state with
    | .offline => (s, Answer.refuse .notEligible)
    | .locked => ((s.loseLock q).recheckWait, Answer.ok)
    | _ => (s.setReg q { (s.link q).reg with state := .search, confirm := 0, search := 0 }, Answer.ok)

/-- FORCE RESYNC, granted. -/
def execForceResync (p : Port) (s : State) : Host.Outcome State Fault Refusal :=
  .next (s.serve p fun
    | some (.forceResync q) => some (forceResync q)
    | _ => none)

/-! ### SET PRESS (R164, R165) -/

/-- A value brought into a range. -/
def clampTo (lo hi n : Nat) : Nat := max lo (min hi n)

/-- The registration policy of a code (R156, R190). -/
def policyOf : Nat → Option PressPolicy
  | 0 => some .auto | 1 => some .manual | _ => none

/-- The code of a registration policy. -/
def policyCode : PressPolicy → Nat
  | .auto => 0 | .manual => 1

/-- The hold window as SET PRESS takes it: brought into 16–128, and raised to the capture window (R164, step 2). -/
def takenHold (capture hold : Nat) : Nat := max (clampTo 8 64 capture) (clampTo 16 128 hold)

/-- The lock with new settings stored: state, correction, confirm count and bad count are kept (R165). A search count above the
new timeout is brought down to it. -/
def Registration.store (r : Registration) (v : PressSettings) : Registration :=
  { r with
    captureWindow := v.captureWindow, holdWindow := v.holdWindow, searchTimeout := v.searchTimeout, policy := v.policy
    search := min v.searchTimeout r.search }

/-- Store the settings of a press. A timeout stored in SEARCH or CONFIRM is compared with the search count at once (R165). -/
def State.storePress (s : State) (q : Press) (v : PressSettings) : State :=
  let t := s.setReg q ((s.link q).reg.store v)
  match (s.link q).reg.state with
  | .search => t.checkTimeout q
  | .confirm => t.checkTimeout q
  | _ => t

/-- Store the stall window; a running stall timer keeps its expiry (R129). -/
def State.storeStall (s : State) (n : Nat) : State := { s with renderer := { s.renderer with stallWindow := n } }

/-- SET PRESS (R164). -/
def setPress (press capture hold timeout policy stall : Nat) : Effect := fun s =>
  match pressOf press, policyOf policy with
  | some q, some pol =>
    let v : PressSettings :=
      { captureWindow := clampTo 8 64 capture, holdWindow := takenHold capture hold, searchTimeout := clampTo 4 60 timeout
        policy := pol }
    let w := clampTo 10 2550 stall
    ((s.storePress q v).storeStall w,
      Answer.done
        (decide (¬(v.captureWindow = capture ∧ v.holdWindow = hold ∧ v.searchTimeout = timeout ∧ w = stall)))
        (byte2 v.captureWindow ++ byte2 v.holdWindow ++ byte2 v.searchTimeout ++ byte1 policy ++ byte2 w))
  | _, _ => (s, Answer.refuse .badForm)

/-- SET PRESS, granted. -/
def execSetPress (p : Port) (s : State) : Host.Outcome State Fault Refusal :=
  .next (s.serve p fun
    | some (.setPress q capture hold timeout policy stall) => some (setPress q capture hold timeout policy stall)
    | _ => none)

end Sys2Proof.Machine
end

