-- ==== Sys2Proof/Machine/Press.lean ====
section
/-! DEFINITION. What a press sends and what its link does with it: mark reports, frame requests, status reports, the online
line, and return-lane words (R144 to R154, R193, R194). -/

namespace Sys2Proof.Machine

open Sys2Proof

/-! ### Mark reports (R144) -/

/-- The link takes mark reports and frame requests whole: it is ONLINE and the settings load is complete (R144, R196). -/
def State.takesReports (s : State) (q : Press) : Bool := (s.link q).online && decide (s.settings.state ≠ .loading)

/-- A new sheet period opens, its first frame request not yet answered (R144). -/
def Link.openPeriod (l : Link) : Link := { l with period := .opened false }

/-- The link takes a mark report (R144): the lock first, then the underrun of an attempt still in transmission, then the new
period. -/
def State.takeMarkReport (s : State) (q : Press) (found stray : Bool) (offset : BitVec 12) : State :=
  if s.takesReports q then
    let t := (s.judgeReport q found stray (markOffset offset)).spoilTransmission q
    (t.setLink q (t.link q).openPeriod).recheckWait
  else s

/-- A mark report arrives. -/
def execMarkReport (q : Press) (found stray : Bool) (offset : BitVec 12) (s : State) : Host.Outcome State Fault Refusal :=
  .next (s.takeMarkReport q found stray offset)

/-! ### Frame requests (R145 to R147) -/

/-- The first frame request of the period is answered. -/
def Link.answerFirst (l : Link) : Link := { l with period := .opened true }

/-- The frame a first request of a period may send: a band 0 at the head, under a lock, with fewer than 4 records (R145). -/
def Link.startFrame (l : Link) : Option BandFrame :=
  l.fifo.head?.filter (fun f =>
    decide (f.band = 0) && decide (l.reg.state = .locked) && decide (l.attempts.length < Config.attemptRecords))

/-- The link sends the head frame with a start correction: the check is computed over the whole frame, the frame leaves the
FIFO, and dead frames that then stand at the head are removed (R142, R145, R146, R148). -/
def Link.send (l : Link) (f : BandFrame) (correction : Int) : Link :=
  (({ l with fifo := l.fifo.tail } : Link).put
    (.band { f with startCorrection := correction } ({ f with startCorrection := correction } : BandFrame).check)).purge

/-- The link begins an attempt with a band 0 frame (R145). -/
def Link.begin (l : Link) (f : BandFrame) : Link :=
  { l with
    attempts := l.attempts ++
      [{ tag := f.tag, copy := f.copy, serial := f.serial, bandCount := f.bandCount, sent := 1, received := 0
         error := false, voided := false }]
    transmission := some { tag := f.tag, copy := f.copy, serial := f.serial, bandCount := f.bandCount, next := 1 } }

/-- The head frame is the next band of the attempt in transmission (R146). -/
def Link.nextFrame (l : Link) (t : Transmission) : Option BandFrame :=
  l.fifo.head?.filter (fun f =>
    decide (f.tag = t.tag) && decide (f.copy = t.copy) && decide (f.serial = t.serial) && decide (f.band = t.next))

/-- One more frame of the attempt in transmission is sent: its own record's sent count rises, and the next band advances, or
the attempt is no longer in transmission after band B − 1 (R146). -/
def Link.advance (l : Link) (t : Transmission) : Link :=
  { l with
    attempts := updateLast (fun a => decide (a.tag = t.tag) && decide (a.copy = t.copy) && decide (a.serial = t.serial))
      (fun a => { a with sent := a.sent + 1 }) l.attempts
    transmission := if t.next + 1 < t.bandCount then some { t with next := t.next + 1 } else none }

/-- The first request of a period (R145). -/
def State.answerFirst (s : State) (q : Press) : State :=
  let l := (s.link q).answerFirst
  match l.startFrame with
  | some f => (s.setLink q ((l.begin f).send f l.reg.correction)).raise (pressUnit q) 1
  | none => s.setLink q (l.put .fill)

/-- A later request of a period (R146); a request with no period open has no attempt in transmission and draws fill. -/
def State.answerLater (s : State) (q : Press) : State :=
  let l := s.link q
  match l.transmission with
  | none => s.setLink q (l.put .fill)
  | some t =>
    match l.nextFrame t with
    | some f => (s.setLink q ((l.advance t).send f 0)).raise (pressUnit q) 1
    | none => (s.setLink q (l.put .fill)).linkSpoil q t.tag t.copy

/-- The link answers a frame request (R145 to R147, R154). -/
def State.answerRequest (s : State) (q : Press) : State :=
  let t := s.setLink q (s.link q).purgeAtRequest
  match (s.link q).period with
  | .opened false => t.answerFirst q
  | _ => t.answerLater q

/-- The link takes a frame request: OFFLINE discards it; during the settings load the answer is fill (R144, R196). -/
def State.takeFrameRequest (s : State) (q : Press) : State :=
  if (s.link q).online then
    if s.settings.state = .loading then s.setLink q ((s.link q).put .fill) else (s.answerRequest q).recheckWait
  else s

/-- A frame request arrives. -/
def execFrameRequest (q : Press) (s : State) : Host.Outcome State Fault Refusal := .next (s.takeFrameRequest q)

/-! ### Status reports (R149) -/

/-- A record with one more report: the received count rises, and a CHECK_ERROR marks a record that is not void (R149). -/
def Attempt.reported (a : Attempt) (checkError : Bool) : Attempt :=
  { a with received := a.received + 1, error := a.error || (checkError && !a.voided) }

/-- The oldest record with a report due takes the report: the list after it, and the record after it (R149). -/
def reportDue (checkError : Bool) : List Attempt → Option (List Attempt × Attempt)
  | [] => none
  | a :: l =>
    if a.received < a.sent then some (a.reported checkError :: l, a.reported checkError)
    else (reportDue checkError l).map (fun r => (a :: r.1, r.2))

/-- What a report does by the record it belongs to, `a` being the record with the report taken (R149). The check errors counter
is raised before the spoil raises attempts spoiled: R149 and R150 give no order of the two (assumption 56). -/
def State.judgeStatus (s : State) (q : Press) (a : Attempt) (checkError : Bool) : State :=
  if checkError then
    let t := s.raise (pressUnit q) 2
    if a.voided then t else t.linkSpoil q a.tag a.copy
  else if a.voided = false ∧ a.error = false ∧ a.received = a.bandCount then
    (s.raise (pressUnit q) 0).takeConfirmation a.tag
  else s

/-- Records fully reported leave the list of a press (R149). -/
def State.dropReported (s : State) (q : Press) : State := s.setLink q (s.link q).dropReported

/-- The link takes a status report (R149): with no frame due, or OFFLINE, it is discarded. -/
def State.takeStatusReport (s : State) (q : Press) (checkError : Bool) : State :=
  if (s.link q).online then
    match reportDue checkError (s.link q).attempts with
    | none => s
    | some (l, a) => (((s.setLink q { s.link q with attempts := l }).judgeStatus q a checkError).dropReported q).recheckWait
  else s

/-- A status report arrives. -/
def execStatusReport (q : Press) (checkError : Bool) (s : State) : Host.Outcome State Fault Refusal :=
  .next (s.takeStatusReport q checkError)

/-! ### The online line (R153, R154, R162) -/

/-- The unconfirmed attempts of a link as (tag, copy, serial), each once: the records that are not void, then the attempts of
the frames that are not dead (R153). -/
def Link.unconfirmed (l : Link) : List (Nat × Nat × Nat) :=
  (((l.attempts.filter (fun a => !a.voided)).map (fun a => (a.tag, a.copy, a.serial)) ++
    (l.fifo.filter (fun f => !l.isDead f)).map (fun f => (f.tag, f.copy, f.serial)))).eraseDups

/-- The lowest copy among a job's attempts of a list. -/
def lowestCopy (as : List (Nat × Nat × Nat)) (tag : Nat) : Nat :=
  match (as.filter (fun a => decide (a.1 = tag))).map (·.2.1) with
  | [] => 0
  | c :: cs => cs.foldl min c

/-- The link's own part of a fall (R153, R162). -/
def Link.fall (l : Link) : Link :=
  { l with
    onlineLine := false, online := false, reg := l.reg.toOffline, period := .closed, transmission := none, attempts := []
    rules := [], fifo := [] }

/-- A press link enters OFFLINE (R153): one uncounted spoil for each job concerned, the attempts counted, everything flushed. -/
def State.goOffline (s : State) (q : Press) : State :=
  let as := (s.link q).unconfirmed
  let t := (distinct (as.map (·.1))).foldl (fun t tag => t.takeSpoil q tag (lowestCopy as tag) false) s
  let u := t.raiseTimes (pressUnit q) 3 as.length
  (u.setLink q (u.link q).fall).recheckWait

/-- The online line falls. -/
def execOnlineFall (q : Press) (s : State) : Host.Outcome State Fault Refusal :=
  if (s.link q).online then .next (s.goOffline q)
  else .next (s.setLink q { s.link q with onlineLine := false })

/-- The link enters ONLINE (R154, R162). -/
def Link.rise (l : Link) : Link :=
  { l with
    onlineLine := true, online := true, reg := l.reg.toSearch, period := .closed, transmission := none, attempts := [] }

/-- The online line rises. -/
def execOnlineRise (q : Press) (s : State) : Host.Outcome State Fault Refusal :=
  if (s.link q).online then .next (s.setLink q { s.link q with onlineLine := true })
  else .next (s.setLink q (s.link q).rise)

/-! ### Return-lane words (R193, R194) -/

/-- A unit of the return lane. -/
inductive ReturnUnit where
  | frameRequest
  | markReport (found stray : Bool) (offset : BitVec 12)
  | statusReport (checkError : Bool)
  deriving DecidableEq, Repr

/-- The unit a return-lane word spells; none for an unknown kind, or for nonzero bits where the layout marks zero or uses
none (R193, R194). -/
def returnUnitOf (w : Word32) : Option ReturnUnit :=
  match (w.extractLsb' 28 4).toNat with
  | 1 => if w.extractLsb' 0 28 = 0 then some .frameRequest else none
  | 2 =>
    if w.extractLsb' 14 14 = 0 then some (.markReport (w.getLsbD 13) (w.getLsbD 12) (w.extractLsb' 0 12)) else none
  | 3 => if w.extractLsb' 1 27 = 0 then some (.statusReport (w.getLsbD 0)) else none
  | _ => none

/-- What a link does with a return-lane word: a bad word is discarded, any other is the unit it spells (R194). -/
def State.takeReturnWord (s : State) (q : Press) (w : Word32) : State :=
  match returnUnitOf w with
  | none => s
  | some .frameRequest => s.takeFrameRequest q
  | some (.markReport found stray offset) => s.takeMarkReport q found stray offset
  | some (.statusReport e) => s.takeStatusReport q e

/-- A return-lane word arrives that the link cannot take. -/
def execBadReturnWord (q : Press) (word : Word32) (s : State) : Host.Outcome State Fault Refusal :=
  .next (s.takeReturnWord q word)

end Sys2Proof.Machine
end

