-- ==== Sys2Proof/Machine/Settings.lean ====
section
/-! DEFINITION. The settings image, the start-up load, SAVE SETTINGS, and reset (R195 to R197). -/

namespace Sys2Proof.Machine

open Sys2Proof

/-! ### The settings image (R195) -/

/-- A press's four bytes of the image. -/
def pressSettingsBytes (v : PressSettings) : List Byte :=
  byte1 v.captureWindow ++ byte1 v.holdWindow ++ byte1 v.searchTimeout ++ byte1 (policyCode v.policy)

/-- Bytes 0 to 29 of the image. -/
def settingsBody (v : Settings) : List Byte :=
  byte2 0x5646 ++ byte1 v.weights.dp0 ++ byte1 v.weights.dp1 ++ byte1 v.weights.dp2 ++ byte1 v.weights.dp3 ++
    byte1 v.imageWeight ++ pressSettingsBytes v.presses.a ++ pressSettingsBytes v.presses.b ++ byte2 v.stallWindow ++
    byte2 v.masks.dp0.toNat ++ byte2 v.masks.dp1.toNat ++ byte2 v.masks.dp2.toNat ++ byte2 v.masks.dp3.toNat ++
    List.replicate 5 0#8

/-- The 32 bytes of the image, with the check over bytes 0 to 29 (R190, R195). -/
def settingsBytes (v : Settings) : List Byte := settingsBody v ++ byte2 (crc16 (settingsBody v)).toNat

/-- A press's settings are in the ranges of R164, with the hold window not below the capture window. -/
def PressSettings.valid (v : PressSettings) : Bool :=
  decide (8 ≤ v.captureWindow ∧ v.captureWindow ≤ 64 ∧ 16 ≤ v.holdWindow ∧ v.holdWindow ≤ 128 ∧
    v.captureWindow ≤ v.holdWindow ∧ 4 ≤ v.searchTimeout ∧ v.searchTimeout ≤ 60)

/-- The values of an image are in the ranges their rules give (R196). -/
def Settings.valid (v : Settings) : Bool :=
  decide (v.weights.dp0 ≤ 8 ∧ v.weights.dp1 ≤ 8 ∧ v.weights.dp2 ≤ 8 ∧ v.weights.dp3 ≤ 8) &&
    decide (1 ≤ v.imageWeight ∧ v.imageWeight ≤ 8) &&
    decide (¬(v.weights.dp0 = 0 ∧ v.weights.dp1 = 0 ∧ v.weights.dp2 = 0 ∧ v.weights.dp3 = 0)) &&
    v.presses.a.valid && v.presses.b.valid && decide (10 ≤ v.stallWindow ∧ v.stallWindow ≤ 2550) &&
    !v.masks.dp0.getLsbD 15 && !v.masks.dp1.getLsbD 15 && !v.masks.dp2.getLsbD 15 && !v.masks.dp3.getLsbD 15

/-- The mask two bytes make. -/
def maskOf (hi lo : Byte) : BitVec 16 := BitVec.ofNat 16 (number2 hi lo)

/-- A press's settings from its four bytes; none for a policy code outside its set. -/
def pressSettingsOf (capture hold timeout policy : Byte) : Option PressSettings :=
  (policyOf policy.toNat).map (fun pol =>
    { captureWindow := capture.toNat, holdWindow := hold.toNat, searchTimeout := timeout.toNat, policy := pol })

/-- The values of a good image (R196); none for a bad one. -/
def settingsOf (bytes : List Byte) : Option Settings :=
  match bytes with
  | [g1, g0, w0, w1, w2, w3, wi, a0, a1, a2, a3, b0, b1, b2, b3, s1, s0, m0, n0, m1, n1, m2, n2, m3, n3, _, _, _, _, _,
      c1, c0] => do
    let pa ← pressSettingsOf a0 a1 a2 a3
    let pb ← pressSettingsOf b0 b1 b2 b3
    let v : Settings :=
      { weights := ⟨w0.toNat, w1.toNat, w2.toNat, w3.toNat⟩, imageWeight := wi.toNat, presses := ⟨pa, pb⟩
        stallWindow := number2 s1 s0, masks := ⟨maskOf m0 n0, maskOf m1 n1, maskOf m2 n2, maskOf m3 n3⟩ }
    if number2 g1 g0 = 0x5646 ∧ crc16 (bytes.take 30) = maskOf c1 c0 ∧ v.valid then some v else none
  | _ => none

/-! ### Load completion (R196) -/

/-- Store the settings of a press at the load: its windows, timeout and policy. -/
def State.loadPress (s : State) (q : Press) (v : PressSettings) : State := s.setReg q ((s.link q).reg.store v)

/-- A port takes a default mask as its default and as its mask, and its attention line is brought up to date. -/
def DeskPort.takeDefault (d : DeskPort) (m : BitVec 16) : DeskPort :=
  ({ d with defaultMask := m, mask := m } : DeskPort).updateAttention

/-- Every port takes its default mask. -/
def State.loadMasks (s : State) (m : PerPort (BitVec 16)) : State :=
  allPorts.foldl (fun t p => t.setPort p ((t.port p).takeDefault (m.get p))) s

/-- The values of an image are taken by the blocks they belong to, and the settings port is idle (R196). -/
def State.applySettings (s : State) (v : Settings) : State :=
  let t := (((s.storeWeights v.weights v.imageWeight).loadPress .a v.presses.a).loadPress .b v.presses.b).storeStall
    v.stallWindow
  { t.loadMasks v.masks with settings := { state := .idle, lastSave := .none, image := v } }

/-- Load completion (R196): a good image is applied; otherwise the defaults are, and SETTINGS_DEFAULT is latched at every
port. -/
def State.completeLoad (s : State) (image : Option (List Byte)) : State :=
  match image.bind settingsOf with
  | some v => s.applySettings v
  | none => (s.latchAll .settingsDefault .none).applySettings Settings.default

/-- The start-up settings read ends. Only a load in progress can. -/
def execSettingsLoadComplete (image : Option (List Byte)) (s : State) : Host.Outcome State Fault Refusal :=
  match s.settings.state with
  | .loading => .next (s.completeLoad image)
  | _ => .next s

/-! ### SAVE SETTINGS (R197) -/

/-- The settings of a press as they stand. -/
def Registration.settings (r : Registration) : PressSettings :=
  { captureWindow := r.captureWindow, holdWindow := r.holdWindow, searchTimeout := r.searchTimeout, policy := r.policy }

/-- The values the image holds, as they stand; each port's current mask stands as its default mask (R197). -/
def State.currentSettings (s : State) : Settings :=
  { weights := s.arbiter.weights, imageWeight := s.arbiter.imageWeight
    presses := ⟨(s.link .a).reg.settings, (s.link .b).reg.settings⟩
    stallWindow := s.renderer.stallWindow, masks := s.ports.map (·.mask) }

/-- SAVE SETTINGS (R197). -/
def saveSettings : Effect := fun s =>
  match s.settings.state with
  | .saving => (s, Answer.busy)
  | _ =>
    ({ s.mapPorts (fun d => { d with defaultMask := d.mask }) with
        settings := { s.settings with state := .saving, image := s.currentSettings } },
      Answer.ok)

/-- SAVE SETTINGS, granted. -/
def execSaveSettings (p : Port) (s : State) : Host.Outcome State Fault Refusal :=
  .next (s.serve p fun
    | some .saveSettings => some saveSettings
    | _ => none)

/-- The settings write ends with what the read-back returned (R197). Only a save in progress can. -/
def execSettingsSaveComplete (readBack : List Byte) (s : State) : Host.Outcome State Fault Refusal :=
  match s.settings.state with
  | .saving =>
    .next { s with settings := { s.settings with
      state := .idle, lastSave := if readBack = settingsBytes s.settings.image then .ok else .failed } }
  | _ => .next s

/-- The code of a settings port state. -/
def settingsStateCode : SettingsState → Nat
  | .loading => 0 | .idle => 1 | .saving => 2

/-- The code of a last save result. -/
def saveResultCode : SaveResult → Nat
  | .none => 0 | .ok => 1 | .failed => 2

/-- A press's settings in the widths of R191. -/
def pressSettingsData (v : PressSettings) : List Byte :=
  byte2 v.captureWindow ++ byte2 v.holdWindow ++ byte2 v.searchTimeout ++ byte1 (policyCode v.policy)

/-- The values of an image in the widths of R191. -/
def settingsData (v : Settings) : List Byte :=
  byte1 v.weights.dp0 ++ byte1 v.weights.dp1 ++ byte1 v.weights.dp2 ++ byte1 v.weights.dp3 ++ byte1 v.imageWeight ++
    pressSettingsData v.presses.a ++ pressSettingsData v.presses.b ++ byte2 v.stallWindow ++
    byte2 v.masks.dp0.toNat ++ byte2 v.masks.dp1.toNat ++ byte2 v.masks.dp2.toNat ++ byte2 v.masks.dp3.toNat

/-- READ of the settings port (R197). -/
def readSettingsPort (s : State) : Answer :=
  Answer.done false
    (byte1 (settingsStateCode s.settings.state) ++ byte1 (saveResultCode s.settings.lastSave) ++ settingsData s.settings.image)

/-- READ SETTINGS PORT, granted. -/
def execReadSettingsPort (p : Port) (s : State) : Host.Outcome State Fault Refusal :=
  .next (s.serve p fun
    | some .readSettingsPort => some (reading readSettingsPort)
    | _ => none)

/-! ### Reset -/

/-- Power-on or the RESET input (R139 and the reset value of every table): every block takes its reset value, with the input
pins as they stand. -/
def execReset (s : State) : Host.Outcome State Fault Refusal :=
  .next { State.resetWith (s.ports.map (·.breakLevel)) ⟨(s.link .a).onlineLine, (s.link .b).onlineLine⟩ with
    pending := s.pending }

end Sys2Proof.Machine
end

