-- ==== Sys2Proof/Machine/Reads.lean ====
section
/-! DEFINITION. The READ requests of the tables, the job side and the press links (R23, R45, R66, R78, R95, R125, R143), with
their data laid out by R191. -/

namespace Sys2Proof.Machine

open Sys2Proof

/-! ### Codes (R190) -/

/-- The code of an absent policy (R2). -/
def absentPolicyCode : AbsentPolicy → Nat
  | .silhouette => 0 | .list => 1 | .omit => 2

/-- The code of a withheld policy (R2). -/
def withheldPolicyCode : WithheldPolicy → Nat
  | .silhouette => 0 | .omit => 1

/-- The code of a sheet state (R10). -/
def sheetStateCode : SheetState → Nat
  | .unlaid => 0 | .stale => 1 | .placing => 2 | .placed => 3 | .held => 4 | .inPress => 5

/-- The code of a hold reason (R10). -/
def holdCode : Hold → Nat
  | .overflow => 0 | .portraitMissing => 1 | .drift => 2

/-- The code of a role (R24). -/
def roleCode : Role → Nat
  | .teacher => 0 | .staff => 1 | .student => 2

/-- The code of an entry status (R24). -/
def entryStatusCode : EntryStatus → Nat
  | .present => 0 | .absent => 1 | .withheld => 2

/-- The code of a membership (R29). -/
def membershipCode : Membership → Nat
  | .tile => 0 | .listed => 1 | .omitted => 2

/-- The code of a portrait state (R58). -/
def portraitStateCode : PortraitState → Nat
  | .free => 0 | .empty => 1 | .ready => 2

/-- The code of an image port state (R68). -/
def imagePortStateCode : ImagePortState → Nat
  | .idle => 0 | .headerWait => 1 | .receiving => 2 | .endWait => 3

/-- The code of a job kind (R118). -/
def jobKindCode : JobKind → Nat
  | .run => 0 | .proof => 1

/-- The code of a job state (R118). -/
def jobStateCode : JobState → Nat
  | .waiting => 0 | .active => 1 | .suspended => 2 | .draining => 3

/-- The code of an ending mark (R118). -/
def endMarkCode : EndMark → Nat
  | .none => 0 | .cancelled => 1 | .aborted => 2

/-- The code of a registration state (R143). -/
def regStateCode : RegState → Nat
  | .offline => 0 | .search => 1 | .confirm => 2 | .locked => 3

/-! ### Books, sections and sheets (R23) -/

/-- The settings of a book (R2). -/
def bookBytes (b : Book) : List Byte :=
  byteStr b.label ++ byte2 b.firstFolio ++ byte1 (absentPolicyCode b.absent) ++ byte1 (withheldPolicyCode b.withheld) ++
    byte2 b.tolerance ++ byteFlag b.holdOnDrift

/-- READ of a book (R23): a CLOSED book shows its state, no settings and no sections. -/
def readBook (i : Nat) (s : State) : Answer :=
  if i < Config.bookSlots then
    match s.book i with
    | none => Answer.done false (byte1 0 ++ bytePresent bookBytes none ++ byteList byte2 [])
    | some b => Answer.done false (byte1 1 ++ bytePresent bookBytes (some b) ++ byteList byte2 b.sections)
  else Answer.refuse .badIndex

/-- READ BOOK, granted. -/
def execReadBook (p : Port) (s : State) : Host.Outcome State Fault Refusal :=
  .next (s.serve p fun
    | some (.readBook i) => some (reading (readBook i))
    | _ => none)

/-- A section as READ returns it (R23). -/
def sectionBytes (c : Section) : List Byte :=
  byte2 c.book ++ byte2 c.key ++ byteStr c.label ++ byte2 c.roster.length ++ byteList byte2 c.sheets

/-- READ of a section (R23). -/
def readSection (k : Nat) (s : State) : Answer :=
  if k < Config.sectionSlots then Answer.done false (bytePresent sectionBytes (s.sec k)) else Answer.refuse .badIndex

/-- READ SECTION, granted. -/
def execReadSection (p : Port) (s : State) : Host.Outcome State Fault Refusal :=
  .next (s.serve p fun
    | some (.readSection k) => some (reading (readSection k))
    | _ => none)

/-- The folio and the footer of a sheet (R16, R17). -/
def folioBytes (s : State) (i : Nat) (sh : Sheet) : List Byte :=
  match s.home sh with
  | some (b, c) => byte2 (s.folioOf b i) ++ byteStr (footerOf b c (s.folioOf b i))
  | none => byte2 0 ++ byteStr []

/-- The position of sheet `i` within its section (R10). -/
def State.positionOf (s : State) (i : Nat) (sh : Sheet) : Option Nat :=
  (s.sec sh.section_).bind fun c => indexIn c.sheets i

/-- A sheet as READ returns it: the section and the position of R10, which R47 has a station read here, and then what the list
of R23 names, in its order (assumption 48). -/
def sheetBytes (s : State) (i : Nat) (sh : Sheet) : List Byte :=
  byte2 sh.section_ ++ byteSlot (s.positionOf i sh) ++ byte1 (sheetStateCode sh.state) ++ byteFlag sh.lock ++ bytePresent layoutBytes sh.layout ++
    bytePresent (fun h => byte1 (holdCode h)) sh.hold ++ byte2 sh.printCount ++ byteSlot sh.job ++ byte2 (s.epoch i).toNat ++
    folioBytes s i sh

/-- READ of a sheet (R23). -/
def readSheet (i : Nat) (s : State) : Answer :=
  if i < Config.sheetSlots then Answer.done false (bytePresent (sheetBytes s i) (s.sheet i)) else Answer.refuse .badIndex

/-- READ SHEET, granted. -/
def execReadSheet (p : Port) (s : State) : Host.Outcome State Fault Refusal :=
  .next (s.serve p fun
    | some (.readSheet i) => some (reading (readSheet i))
    | _ => none)

/-! ### Entries (R45) -/

/-- The tile kind of a TILE entry as a code: PORTRAIT 0, PLACEHOLDER 1 (R29). -/
def tileKindCode (s : State) (e : Entry) : Nat :=
  match e.status, e.portrait with
  | .present, some i => if (s.portrait i).current.isSome then 0 else 1
  | _, _ => 1

/-- The membership, tile kind and tile-sequence position of an entry (R45). -/
def memberBytes (s : State) (b : Book) (c : Section) (i : Nat) (e : Entry) : List Byte :=
  let m := membershipOf b.absent b.withheld e.status
  byte1 (membershipCode m) ++ bytePresent byte1 (if m = .tile then some (tileKindCode s e) else none) ++
    byteSlot (if m = .tile then indexIn (s.tileSequence b c) i else none)

/-- The place of an entry in its section's roster, with what derives from it (R45). -/
def placeBytes (s : State) (i : Nat) (e : Entry) : List Byte :=
  match s.sec e.section_ with
  | some c =>
    byteSlot (indexIn c.roster i) ++
      (match s.book c.book with
        | some b => memberBytes s b c i e
        | none => [])
  | none => []

/-- An entry as READ returns it (R45). -/
def entryBytes (s : State) (i : Nat) (e : Entry) : List Byte :=
  byte2 e.section_ ++ byteStr e.surname ++ byteStr e.given ++ byte1 (roleCode e.role) ++ byte1 (entryStatusCode e.status) ++
    byteSlot e.portrait ++ placeBytes s i e

/-- READ of an entry (R45). -/
def readEntry (i : Nat) (s : State) : Answer :=
  if i < Config.entrySlots then Answer.done false (bytePresent (entryBytes s i) (s.entry i)) else Answer.refuse .badIndex

/-- READ ENTRY, granted. -/
def execReadEntry (p : Port) (s : State) : Host.Outcome State Fault Refusal :=
  .next (s.serve p fun
    | some (.readEntry i) => some (reading (readEntry i))
    | _ => none)

/-- READ of a roster index (R45). -/
def readRosterIndex (k index : Nat) (s : State) : Answer :=
  match (s.sec k).bind (fun c => c.roster[index]?) with
  | some i => Answer.done false (byte2 i)
  | none => Answer.refuse .badIndex

/-- READ ROSTER INDEX, granted. -/
def execReadRosterIndex (p : Port) (s : State) : Host.Outcome State Fault Refusal :=
  .next (s.serve p fun
    | some (.readRosterIndex k index) => some (reading (readRosterIndex k index))
    | _ => none)

/-! ### Portraits and the image port (R66) -/

/-- An image descriptor (R59). -/
def imageBytes (m : Image) : List Byte :=
  byte2 m.width ++ byte2 m.height ++ faceBytes m.face ++ byte2 m.blocks ++ byte1 m.generation

/-- READ of a portrait (R66). -/
def readPortrait (i : Nat) (s : State) : Answer :=
  if i < Config.portraitSlots then
    Answer.done false
      (byte1 (portraitStateCode (s.portrait i).state) ++ byte1 (s.portrait i).generation ++ byte2 (s.portrait i).useCount ++
        byte2 (s.portrait i).pinCount ++ byte2 (s.portrait i).lockCount ++ bytePresent imageBytes (s.portrait i).current ++
        bytePresent imageBytes (s.portrait i).pendingImage ++ byteFlag (s.isLoadTarget i))
  else Answer.refuse .badIndex

/-- READ PORTRAIT, granted. -/
def execReadPortrait (p : Port) (s : State) : Host.Outcome State Fault Refusal :=
  .next (s.serve p fun
    | some (.readPortrait i) => some (reading (readPortrait i))
    | _ => none)

/-- The load record as READ returns it (R66). -/
def loadBytes (r : LoadRecord) : List Byte :=
  byte2 r.header.slot ++ byte2 r.header.width ++ byte2 r.header.height ++ byte4 r.received

/-- READ of the image port (R66). -/
def readImagePort (s : State) : Answer :=
  Answer.done false
    (byte1 (imagePortStateCode s.image.state) ++ bytePresent loadBytes s.image.load ++ byte4 s.pool.freeCount)

/-- READ IMAGE PORT, granted. -/
def execReadImagePort (p : Port) (s : State) : Host.Outcome State Fault Refusal :=
  .next (s.serve p fun
    | some .readImagePort => some (reading readImagePort)
    | _ => none)

/-! ### Placement (R78, R95) -/

/-- READ of the placement unit (R78). -/
def readPlacementUnit (s : State) : Answer :=
  Answer.done false
    (byte2 s.queue.length ++ byteList byte2 s.queue ++
      bytePresent (fun (u : InProgress) => byte2 u.sheet ++ byte2 u.epoch.toNat) s.placing)

/-- READ PLACEMENT UNIT, granted. -/
def execReadPlacementUnit (p : Port) (s : State) : Host.Outcome State Fault Refusal :=
  .next (s.serve p fun
    | some .readPlacementUnit => some (reading readPlacementUnit)
    | _ => none)

/-- A placement result without its tile list, in the order of R95, with the hold reason of its sheet. -/
def resultBytes (r : PlacementResult) (hold : Option Hold) : List Byte :=
  byte2 r.tiles.length ++ byteFlag r.featureActive ++ byte2 r.rows ++ byte2 r.shift ++ byteSlot r.firstTile ++
    byteStr r.footer ++ byteStr r.footerLine.text ++ byte2 r.footerLine.x ++ byte2 r.footerLine.y ++
    byteFlag r.footerLine.cut ++ byteList byteStr r.notPictured ++ byte2 r.overflow ++ byte2 r.driftCount ++
    byte2 r.paddedCount ++ byte2 r.clampedCount ++ byte2 r.inexactCount ++ byte2 r.cutCount ++
    bytePresent (fun h => byte1 (holdCode h)) hold

/-- READ of a placement result (R95). -/
def readPlacementResult (i : Nat) (s : State) : Answer :=
  match s.sheet i with
  | none => Answer.refuse .badIndex
  | some sh =>
    match sh.result with
    | none => Answer.refuse .notEligible
    | some r => Answer.done false (resultBytes r sh.hold)

/-- READ PLACEMENT RESULT, granted. -/
def execReadPlacementResult (p : Port) (s : State) : Host.Outcome State Fault Refusal :=
  .next (s.serve p fun
    | some (.readPlacementResult i) => some (reading (readPlacementResult i))
    | _ => none)

/-- The fit of a tile (R94). -/
def fitBytes (f : Fit) : List Byte :=
  byte2 f.scale ++ byte2s f.x0 ++ byte2s f.y0 ++ byte2 f.w ++ byte2 f.h ++ byte2s f.drift

/-- The flags of a tile in the order of R94. -/
def tileFlagBytes (f : TileFlags) : List Byte :=
  byteFlag f.raised ++ byteFlag f.clamped ++ byteFlag f.padded ++ byteFlag f.inexact ++ byteFlag f.drift

/-- The kind of a tile with what depends on it: portrait, generation, pattern and fit, each absent for the other kind (R94). -/
def tileKindBytes : TileKind → List Byte
  | .portrait i g f _ =>
    byte1 0 ++ byteSlot (some i) ++ bytePresent byte1 (some g) ++ bytePresent byte1 none ++ bytePresent fitBytes (some f)
  | .placeholder pattern =>
    byte1 1 ++ byteSlot none ++ bytePresent byte1 none ++ bytePresent byte1 (some pattern) ++ bytePresent fitBytes none

/-- A tile record in the order of R94. -/
def tileBytes (t : Tile) : List Byte :=
  byte2 t.entry ++ byte2 t.row ++ byte2 t.col ++ byteFlag t.feature ++ byte2 t.x ++ byte2 t.y ++ byte2 t.width ++
    byte2 t.height ++ tileKindBytes t.kind ++ tileFlagBytes t.flags ++
    byteList (fun (c : CaptionLine) => byteStr c.text ++ byte2 c.x) t.caption ++ byteFlag t.cut

/-- READ of a tile (R95). -/
def readTile (i index : Nat) (s : State) : Answer :=
  match s.sheet i with
  | none => Answer.refuse .badIndex
  | some sh =>
    match sh.result with
    | none => Answer.refuse .notEligible
    | some r =>
      match r.tiles[index]? with
      | none => Answer.refuse .badIndex
      | some t => Answer.done false (tileBytes t)

/-- READ TILE, granted. -/
def execReadTile (p : Port) (s : State) : Host.Outcome State Fault Refusal :=
  .next (s.serve p fun
    | some (.readTile i index) => some (reading (readTile i index))
    | _ => none)

/-! ### Jobs and the renderer (R125) -/

/-- The place of a job in its queue or list, counted from 0 at the head (R125). -/
def State.placeOf (s : State) (j : Job) : Option Nat := indexIn ((s.collection j.press j.kind).map (·.tag)) j.tag

/-- A job's fields in the order of R118, its place, and whether it is eligible (R125). -/
def jobBytes (s : State) (j : Job) : List Byte :=
  byte2 j.tag ++ byte2 j.sheet ++ byte1 (pressCode j.press) ++ byte1 (jobKindCode j.kind) ++ byte2 j.copies ++ byte2 j.done ++
    byte1 (portNumber j.port) ++ byte1 (jobStateCode j.state) ++ byteFlag j.started ++ byte2 j.resumeCopy ++
    byte2 j.resumeBand ++ byte2 j.serial ++ byte2 j.spoils ++ byte1 (endMarkCode j.ending) ++ byteSlot (s.placeOf j) ++
    byteFlag (s.eligible j)

/-- READ of a job (R125). -/
def readJob (tag : Nat) (s : State) : Answer :=
  match s.jobOf tag with
  | some j => Answer.done false (jobBytes s j)
  | none => Answer.refuse .badIndex

/-- READ JOB, granted. -/
def execReadJob (p : Port) (s : State) : Host.Outcome State Fault Refusal :=
  .next (s.serve p fun
    | some (.readJob tag) => some (reading (readJob tag))
    | _ => none)

/-- READ of a press's job collections (R125). -/
def readPressJobCollections (press : Nat) (s : State) : Answer :=
  match pressOf press with
  | none => Answer.refuse .badForm
  | some q =>
    Answer.done false
      (byteList byte2 ((s.collection q .run).map (·.tag)) ++ byteList byte2 ((s.collection q .proof).map (·.tag)))

/-- READ PRESS JOB COLLECTIONS, granted. -/
def execReadPressJobCollections (p : Port) (s : State) : Host.Outcome State Fault Refusal :=
  .next (s.serve p fun
    | some (.readPressJobCollections q) => some (reading (readPressJobCollections q))
    | _ => none)

/-- READ of the renderer (R125). -/
def readRenderer (s : State) : Answer :=
  Answer.done false
    (byteSlot (s.activeJob.map (·.tag)) ++ byteSlot (s.suspendedJob.map (·.tag)) ++
      bytePresent (fun (b : BandInProduction) => byte2 b.band ++ byte2 b.copy) s.renderer.band ++
      bytePresent byte2 s.renderer.stallTimer ++ byte2 s.renderer.stallWindow ++ byte1 (pressCode s.renderer.lastServed))

/-- READ RENDERER, granted. -/
def execReadRenderer (p : Port) (s : State) : Host.Outcome State Fault Refusal :=
  .next (s.serve p fun
    | some .readRenderer => some (reading readRenderer)
    | _ => none)

/-! ### Press links (R143, R156) -/

/-- Every field of the registration lock (R156). -/
def regBytes (r : Registration) : List Byte :=
  byte1 (regStateCode r.state) ++ byte2 r.confirm ++ byte2 r.bad ++ byte2 r.search ++ byte2s r.correction ++
    byteFlag r.timedOut ++ byte2 r.captureWindow ++ byte2 r.holdWindow ++ byte2 r.searchTimeout ++ byte1 (policyCode r.policy)

/-- The job tag, copy, serial and band of a frame in the FIFO (R143). -/
def fifoBytes (f : BandFrame) : List Byte := byte2 f.tag ++ byte2 f.copy ++ byte2 f.serial ++ byte2 f.band

/-- The attempt in transmission (R143). -/
def transmissionBytes (t : Transmission) : List Byte :=
  byte2 t.tag ++ byte2 t.copy ++ byte2 t.serial ++ byte2 t.bandCount ++ byte2 t.next

/-- An attempt record (R143). -/
def attemptBytes (a : Attempt) : List Byte :=
  byte2 a.tag ++ byte2 a.copy ++ byte2 a.serial ++ byte2 a.bandCount ++ byte2 a.sent ++ byte2 a.received ++
    byteFlag a.error ++ byteFlag a.voided

/-- A dead rule (R143). -/
def ruleBytes (r : DeadRule) : List Byte := byte2 r.tag ++ byte2 r.copy ++ bytePresent byte2 r.serial

/-- READ of a press link (R143, R156): every field of the lock stands between the link state and the FIFO, in the order of the
table of R156, and the dead rules stand in the order in which they were last set (assumptions 46, 50). -/
def readPressLink (press : Nat) (s : State) : Answer :=
  match pressOf press with
  | none => Answer.refuse .badForm
  | some q =>
    Answer.done false
      (byteFlag (s.link q).online ++ regBytes (s.link q).reg ++ byteList fifoBytes (s.link q).fifo ++
        bytePresent transmissionBytes (s.link q).transmission ++ byteList attemptBytes (s.link q).attempts ++
        byteList ruleBytes (s.link q).rules)

/-- READ PRESS LINK, granted. -/
def execReadPressLink (p : Port) (s : State) : Host.Outcome State Fault Refusal :=
  .next (s.serve p fun
    | some (.readPressLink q) => some (reading (readPressLink q))
    | _ => none)

end Sys2Proof.Machine
end

