-- ==== Sys2Proof/Machine/Rosters.lean ====
section
/-! DEFINITION. The requests on roster entries (chapter 2). -/

namespace Sys2Proof.Machine

open Sys2Proof

/-- The role of a code (R190). -/
def roleOf : Nat → Option Role
  | 0 => some .teacher | 1 => some .staff | 2 => some .student | _ => none

/-- The entry status of a code (R190). -/
def entryStatusOf : Nat → Option EntryStatus
  | 0 => some .present | 1 => some .absent | 2 => some .withheld | _ => none

/-- The checks of a name (R26). -/
def nameFits (surname given : Str) : Bool := sendable surname && sendable given && decide (surname ≠ [])

/-- A name string as stored: its first 24 characters (R26). -/
def storedName (n : Str) : Str := n.take 24

/-- A name was cut, so that a DONE reply carries ADJUSTED (R26). -/
def nameCut (surname given : Str) : Bool := decide (24 < surname.length) || decide (24 < given.length)

/-- A portrait number that a request may refer to: none, or a slot that is not FREE (R43). -/
def State.portraitUsable (s : State) : Option Nat → Bool
  | none => true
  | some i => decide (i < Config.portraitSlots) && decide ((s.portrait i).state ≠ .free)

/-- An entry put into its section's roster by collation; `s` holds the entry's record already (R28). -/
def State.joinRoster (s : State) (k i : Nat) (e : Entry) : State :=
  match s.sec k with
  | none => s
  | some sec => s.setSec k (some { sec with roster := rosterInsert s.entry i e sec.roster })

/-- An entry taken out of a section's roster (R28). -/
def State.leaveRoster (s : State) (k i : Nat) : State :=
  match s.sec k with
  | none => s
  | some sec => s.setSec k (some { sec with roster := rosterRemove sec.roster i })

/-- An entry's record replaced and the entry re-placed by collation in its section's roster (R28). -/
def State.rewriteEntry (s : State) (i : Nat) (e : Entry) : State :=
  ((s.leaveRoster e.section_ i).setEntry i (some e)).joinRoster e.section_ i e

/-! ### Adding and dropping (R34, R35) -/

/-- ADD ENTRY (R34). -/
def addEntry (k : Nat) (surname given : Str) (role status : Nat) (portrait : Option Nat) : Effect := fun s =>
  match s.sec k with
  | none => (s, Answer.refuse .badIndex)
  | some sec =>
    match roleOf role, entryStatusOf status with
    | some r, some st =>
      if ¬nameFits surname given then (s, Answer.refuse .badForm)
      else if ¬s.portraitUsable portrait then (s, Answer.refuse .badIndex)
      else if ¬sec.roster.length < Config.entriesPerRoster then (s, Answer.refuse .listFull)
      else match tabFree Config.entrySlots s.entries with
        | none => (s, Answer.refuse .tableFull)
        | some i =>
          let e : Entry :=
            { section_ := k, surname := storedName surname, given := storedName given, role := r, status := st
              portrait := portrait }
          applyChange s (((s.setEntry i (some e)).joinRoster k i e).useUp portrait)
            (Answer.done (nameCut surname given) (byte2 i))
    | _, _ => (s, Answer.refuse .badForm)

/-- ADD ENTRY, granted. -/
def execAddEntry (p : Port) (s : State) : Host.Outcome State Fault Refusal :=
  .next (s.serve p fun
    | some (.addEntry k surname given role status portrait) => some (addEntry k surname given role status portrait)
    | _ => none)

/-- DROP ENTRY (R35). -/
def dropEntry (i : Nat) : Effect := fun s =>
  match s.entry i with
  | none => (s, Answer.refuse .badIndex)
  | some e => applyChange s ((s.leaveRoster e.section_ i).freeEntry i) Answer.ok

/-- DROP ENTRY, granted. -/
def execDropEntry (p : Port) (s : State) : Host.Outcome State Fault Refusal :=
  .next (s.serve p fun
    | some (.dropEntry i) => some (dropEntry i)
    | _ => none)

/-! ### Edits (R36 to R40) -/

/-- EDIT ENTRY (NAME) (R37). -/
def editName (i : Nat) (surname given : Str) : Effect := fun s =>
  match s.entry i with
  | none => (s, Answer.refuse .badIndex)
  | some e =>
    if ¬nameFits surname given then (s, Answer.refuse .badForm)
    else if e.surname = storedName surname ∧ e.given = storedName given then (s, Answer.done (nameCut surname given) [])
    else
      applyChange s (s.rewriteEntry i { e with surname := storedName surname, given := storedName given })
        (Answer.done (nameCut surname given) [])

/-- EDIT ENTRY (NAME), granted. -/
def execEditEntryName (p : Port) (s : State) : Host.Outcome State Fault Refusal :=
  .next (s.serve p fun
    | some (.editName i surname given) => some (editName i surname given)
    | _ => none)

/-- EDIT ENTRY (ROLE) (R38). -/
def editRole (i role : Nat) : Effect := fun s =>
  match s.entry i with
  | none => (s, Answer.refuse .badIndex)
  | some e =>
    match roleOf role with
    | none => (s, Answer.refuse .badForm)
    | some r => if e.role = r then (s, Answer.ok) else applyChange s (s.rewriteEntry i { e with role := r }) Answer.ok

/-- EDIT ENTRY (ROLE), granted. -/
def execEditEntryRole (p : Port) (s : State) : Host.Outcome State Fault Refusal :=
  .next (s.serve p fun
    | some (.editRole i role) => some (editRole i role)
    | _ => none)

/-- EDIT ENTRY (STATUS) (R39). -/
def editStatus (i status : Nat) : Effect := fun s =>
  match s.entry i with
  | none => (s, Answer.refuse .badIndex)
  | some e =>
    match entryStatusOf status with
    | none => (s, Answer.refuse .badForm)
    | some st =>
      if e.status = st then (s, Answer.ok) else applyChange s (s.setEntry i (some { e with status := st })) Answer.ok

/-- EDIT ENTRY (STATUS), granted. -/
def execEditEntryStatus (p : Port) (s : State) : Host.Outcome State Fault Refusal :=
  .next (s.serve p fun
    | some (.editStatus i status) => some (editStatus i status)
    | _ => none)

/-- EDIT ENTRY (PORTRAIT) (R40). -/
def editPortrait (i : Nat) (portrait : Option Nat) : Effect := fun s =>
  match s.entry i with
  | none => (s, Answer.refuse .badIndex)
  | some e =>
    if ¬s.portraitUsable portrait then (s, Answer.refuse .badIndex)
    else if e.portrait = portrait then (s, Answer.ok)
    else
      applyChange s (((s.useDown e.portrait).useUp portrait).setEntry i (some { e with portrait := portrait })) Answer.ok

/-- EDIT ENTRY (PORTRAIT), granted. -/
def execEditEntryPortrait (p : Port) (s : State) : Host.Outcome State Fault Refusal :=
  .next (s.serve p fun
    | some (.editPortrait i portrait) => some (editPortrait i portrait)
    | _ => none)

/-! ### Moving and swapping (R41, R42) -/

/-- MOVE ENTRY (R41). -/
def moveEntry (i k : Nat) : Effect := fun s =>
  match s.entry i, s.sec k with
  | some e, some target =>
    match s.sec e.section_ with
    | none => (s, Answer.refuse .badIndex)
    | some own =>
      if target.book ≠ own.book then (s, Answer.refuse .badIndex)
      else if k = e.section_ then (s, Answer.ok)
      else if ¬target.roster.length < Config.entriesPerRoster then (s, Answer.refuse .listFull)
      else
        applyChange s
          (((s.leaveRoster e.section_ i).setEntry i (some { e with section_ := k })).joinRoster k i { e with section_ := k })
          Answer.ok
  | _, _ => (s, Answer.refuse .badIndex)

/-- MOVE ENTRY, granted. -/
def execMoveEntry (p : Port) (s : State) : Host.Outcome State Fault Refusal :=
  .next (s.serve p fun
    | some (.moveEntry i k) => some (moveEntry i k)
    | _ => none)

/-- SWAP PORTRAITS (R42). -/
def swapPortraits (i j : Nat) : Effect := fun s =>
  match s.entry i, s.entry j with
  | some e, some f =>
    if i = j then (s, Answer.refuse .badForm)
    else if e.portrait = f.portrait then (s, Answer.ok)
    else
      applyChange s
        ((s.setEntry i (some { e with portrait := f.portrait })).setEntry j (some { f with portrait := e.portrait }))
        Answer.ok
  | _, _ => (s, Answer.refuse .badIndex)

/-- SWAP PORTRAITS, granted. -/
def execSwapPortraits (p : Port) (s : State) : Host.Outcome State Fault Refusal :=
  .next (s.serve p fun
    | some (.swapPortraits i j) => some (swapPortraits i j)
    | _ => none)

end Sys2Proof.Machine
end

