-- ==== Sys2Proof/Machine/Dispatch.lean ====
section
/-! DEFINITION. The one match from a command to its meaning: one direct call per constructor. -/

namespace Sys2Proof.Machine

open Sys2Proof

def exec (i : Instr) (s : State) : Host.Outcome State Fault Refusal :=
  match i with
  | .requestFrame p bytes => Sys2Proof.Machine.execRequestFrame p bytes s
  | .replyFrameSent p => Sys2Proof.Machine.execReplyFrameSent p s
  | .lineBreak p => Sys2Proof.Machine.execLineBreak p s
  | .breakEnd p => Sys2Proof.Machine.execBreakEnd p s
  | .unknownRequestCode p => Sys2Proof.Machine.execUnknownRequestCode p s
  | .openBook p => Sys2Proof.Machine.execOpenBook p s
  | .setBook p => Sys2Proof.Machine.execSetBook p s
  | .closeBook p => Sys2Proof.Machine.execCloseBook p s
  | .addSection p => Sys2Proof.Machine.execAddSection p s
  | .setSection p => Sys2Proof.Machine.execSetSection p s
  | .dropSection p => Sys2Proof.Machine.execDropSection p s
  | .addSheet p => Sys2Proof.Machine.execAddSheet p s
  | .dropSheet p => Sys2Proof.Machine.execDropSheet p s
  | .setLayout p => Sys2Proof.Machine.execSetLayout p s
  | .approveSheet p => Sys2Proof.Machine.execApproveSheet p s
  | .unlockSheet p => Sys2Proof.Machine.execUnlockSheet p s
  | .addEntry p => Sys2Proof.Machine.execAddEntry p s
  | .dropEntry p => Sys2Proof.Machine.execDropEntry p s
  | .editEntryName p => Sys2Proof.Machine.execEditEntryName p s
  | .editEntryRole p => Sys2Proof.Machine.execEditEntryRole p s
  | .editEntryStatus p => Sys2Proof.Machine.execEditEntryStatus p s
  | .editEntryPortrait p => Sys2Proof.Machine.execEditEntryPortrait p s
  | .moveEntry p => Sys2Proof.Machine.execMoveEntry p s
  | .swapPortraits p => Sys2Proof.Machine.execSwapPortraits p s
  | .reservePortrait p => Sys2Proof.Machine.execReservePortrait p s
  | .releasePortrait p => Sys2Proof.Machine.execReleasePortrait p s
  | .setFaceBox p => Sys2Proof.Machine.execSetFaceBox p s
  | .submitRun p => Sys2Proof.Machine.execSubmitRun p s
  | .submitProof p => Sys2Proof.Machine.execSubmitProof p s
  | .cancelJob p => Sys2Proof.Machine.execCancelJob p s
  | .forceResync p => Sys2Proof.Machine.execForceResync p s
  | .setPress p => Sys2Proof.Machine.execSetPress p s
  | .setArbiter p => Sys2Proof.Machine.execSetArbiter p s
  | .readBook p => Sys2Proof.Machine.execReadBook p s
  | .readSection p => Sys2Proof.Machine.execReadSection p s
  | .readSheet p => Sys2Proof.Machine.execReadSheet p s
  | .readEntry p => Sys2Proof.Machine.execReadEntry p s
  | .readRosterIndex p => Sys2Proof.Machine.execReadRosterIndex p s
  | .readPortrait p => Sys2Proof.Machine.execReadPortrait p s
  | .readImagePort p => Sys2Proof.Machine.execReadImagePort p s
  | .readPlacementUnit p => Sys2Proof.Machine.execReadPlacementUnit p s
  | .readPlacementResult p => Sys2Proof.Machine.execReadPlacementResult p s
  | .readTile p => Sys2Proof.Machine.execReadTile p s
  | .readJob p => Sys2Proof.Machine.execReadJob p s
  | .readPressJobCollections p => Sys2Proof.Machine.execReadPressJobCollections p s
  | .readRenderer p => Sys2Proof.Machine.execReadRenderer p s
  | .readPressLink p => Sys2Proof.Machine.execReadPressLink p s
  | .readDeskPort p => Sys2Proof.Machine.execReadDeskPort p s
  | .readArbiter p => Sys2Proof.Machine.execReadArbiter p s
  | .readCounters p => Sys2Proof.Machine.execReadCounters p s
  | .readSettingsPort p => Sys2Proof.Machine.execReadSettingsPort p s
  | .readNotices p => Sys2Proof.Machine.execReadNotices p s
  | .setNoticeMask p => Sys2Proof.Machine.execSetNoticeMask p s
  | .clearCounters p => Sys2Proof.Machine.execClearCounters p s
  | .saveSettings p => Sys2Proof.Machine.execSaveSettings p s
  | .settingsSaveComplete readBack => Sys2Proof.Machine.execSettingsSaveComplete readBack s
  | .imageHeader words => Sys2Proof.Machine.execImageHeader words s
  | .imageHeaderGrant => Sys2Proof.Machine.execImageHeaderGrant s
  | .imagePayload count words => Sys2Proof.Machine.execImagePayload count words s
  | .imageEndMark check => Sys2Proof.Machine.execImageEndMark check s
  | .imageEndMarkGrant => Sys2Proof.Machine.execImageEndMarkGrant s
  | .imageAbort => Sys2Proof.Machine.execImageAbort s
  | .loadTimerExpiry => Sys2Proof.Machine.execLoadTimerExpiry s
  | .placementTake => Sys2Proof.Machine.execPlacementTake s
  | .placementCompletion => Sys2Proof.Machine.execPlacementCompletion s
  | .rendererGrant => Sys2Proof.Machine.execRendererGrant s
  | .bandBegin => Sys2Proof.Machine.execBandBegin s
  | .bandCompletion => Sys2Proof.Machine.execBandCompletion s
  | .stallTimerExpiry => Sys2Proof.Machine.execStallTimerExpiry s
  | .markReport q found stray offset => Sys2Proof.Machine.execMarkReport q found stray offset s
  | .frameRequest q => Sys2Proof.Machine.execFrameRequest q s
  | .statusReport q checkError => Sys2Proof.Machine.execStatusReport q checkError s
  | .onlineFall q => Sys2Proof.Machine.execOnlineFall q s
  | .onlineRise q => Sys2Proof.Machine.execOnlineRise q s
  | .badReturnWord q word => Sys2Proof.Machine.execBadReturnWord q word s
  | .reset => Sys2Proof.Machine.execReset s
  | .settingsLoadComplete image => Sys2Proof.Machine.execSettingsLoadComplete image s
  | .requestFrameStart p => Sys2Proof.Machine.execRequestFrameStart p s

end Sys2Proof.Machine
end

