-- ==== Sys2Proof/Machine/Tick.lean ====
section
/-! DEFINITION. What passes when no command waits: a millisecond of the two timers, and the arbiter's own decision. The table
has no row for either, so they are what a step does on an empty queue (assumption 11). -/

namespace Sys2Proof.Machine

open Sys2Proof

/-- A millisecond of the load timer; at its end it expires (R76). -/
def State.tickLoad (s : State) : State :=
  match s.image.timer with
  | none => s
  | some n => if n ≤ 1 then s.loadTimeout else { s with image := { s.image with timer := some (n - 1) } }

/-- A millisecond of the stall timer; at its end it expires (R129). -/
def State.tickStall (s : State) : State :=
  match s.renderer.stallTimer with
  | none => s
  | some n => if n ≤ 1 then s.stallExpiry else { s with renderer := { s.renderer with stallTimer := some (n - 1) } }

/-- The arbiter's decision when it names a desk port: the slot becomes GRANTED and the engine HELD (R174). -/
def State.tickArbiter (s : State) : State :=
  if s.decides then
    match s.decision with
    | some (.desk p, _) =>
      match s.grantDesk p with
      | some (g, _) => g
      | none => s
    | _ => s
  else s

/-- What passes in a step with no command waiting. -/
def State.tick (s : State) : State := s.tickLoad.tickStall.tickArbiter

end Sys2Proof.Machine
end

