-- ==== Sys2Proof/WellFormed.lean ====
section
/-! DEFINITION. Which terms of `Instr` are commands the part can meet: the operands have the sizes that the transfer or event
brings. `exec` gives every term a meaning, well-formed or not. -/

namespace Sys2Proof

/-- The kind of a return-lane word, its bits 31 to 28 (R193). -/
def returnKind (w : Word32) : Nat := (w.extractLsb' 28 4).toNat

/-- A return-lane word the link takes (R193, R194): a known kind, and zero bits where the layout has none. -/
def returnWordGood (w : Word32) : Bool :=
  (decide (returnKind w = 1) && decide (w.extractLsb' 0 28 = 0)) ||
    (decide (returnKind w = 2) && decide (w.extractLsb' 14 14 = 0)) ||
    (decide (returnKind w = 3) && decide (w.extractLsb' 1 27 = 0))

/-- The last word of a payload transfer is padded with zeros (R192): the bytes after the first `count` are zero. -/
def payloadPadded (count : Nat) (words : List Word32) : Bool :=
  match words.getLast?, count % 4 with
  | some w, 1 => decide (w.extractLsb' 0 24 = 0)
  | some w, 2 => decide (w.extractLsb' 0 16 = 0)
  | some w, 3 => decide (w.extractLsb' 0 8 = 0)
  | _, _ => true

/-- The operands of a command fit what brings it about. -/
def Instr.wellFormed : Instr → Bool
  | .requestFrame _ bytes => decide (bytes ≠ [])
  | .replyFrameSent _ => true
  | .lineBreak _ => true
  | .breakEnd _ => true
  | .unknownRequestCode _ => true
  | .openBook _ => true
  | .setBook _ => true
  | .closeBook _ => true
  | .addSection _ => true
  | .setSection _ => true
  | .dropSection _ => true
  | .addSheet _ => true
  | .dropSheet _ => true
  | .setLayout _ => true
  | .approveSheet _ => true
  | .unlockSheet _ => true
  | .addEntry _ => true
  | .dropEntry _ => true
  | .editEntryName _ => true
  | .editEntryRole _ => true
  | .editEntryStatus _ => true
  | .editEntryPortrait _ => true
  | .moveEntry _ => true
  | .swapPortraits _ => true
  | .reservePortrait _ => true
  | .releasePortrait _ => true
  | .setFaceBox _ => true
  | .submitRun _ => true
  | .submitProof _ => true
  | .cancelJob _ => true
  | .forceResync _ => true
  | .setPress _ => true
  | .setArbiter _ => true
  | .readBook _ => true
  | .readSection _ => true
  | .readSheet _ => true
  | .readEntry _ => true
  | .readRosterIndex _ => true
  | .readPortrait _ => true
  | .readImagePort _ => true
  | .readPlacementUnit _ => true
  | .readPlacementResult _ => true
  | .readTile _ => true
  | .readJob _ => true
  | .readPressJobCollections _ => true
  | .readRenderer _ => true
  | .readPressLink _ => true
  | .readDeskPort _ => true
  | .readArbiter _ => true
  | .readCounters _ => true
  | .readSettingsPort _ => true
  | .readNotices _ => true
  | .setNoticeMask _ => true
  | .clearCounters _ => true
  | .saveSettings _ => true
  | .settingsSaveComplete readBack => decide (readBack.length = 32)
  | .imageHeader words => decide (words ≠ [])
  | .imageHeaderGrant => true
  | .imagePayload count words =>
    decide (count < 268435456) && decide (words.length = (count + 3) / 4) && payloadPadded count words
  | .imageEndMark _ => true
  | .imageEndMarkGrant => true
  | .imageAbort => true
  | .loadTimerExpiry => true
  | .placementTake => true
  | .placementCompletion => true
  | .rendererGrant => true
  | .bandBegin => true
  | .bandCompletion => true
  | .stallTimerExpiry => true
  | .markReport _ _ _ _ => true
  | .frameRequest _ => true
  | .statusReport _ _ => true
  | .onlineFall _ => true
  | .onlineRise _ => true
  | .badReturnWord _ word => !returnWordGood word
  | .reset => true
  | .settingsLoadComplete image =>
    match image with
    | some bytes => decide (bytes.length = 32)
    | none => true
  | .requestFrameStart _ => true

end Sys2Proof
end

