-- ==== Sys2Proof/Safety.lean ====
section
/-! DEFINITION. The terms the claims are made in: a request that is served, a run that goes on, and what the reference says
stands in every state that a run reaches. -/

namespace Sys2Proof.Machine

open Sys2Proof

/-! ### Serving -/

/-- The state at the grant when the table engine is, or now becomes, port `p`'s and the request the port holds is `r` under
`tag`; none when that is not so (R170, R174). -/
def State.served (s : State) (p : Port) (r : Request) (tag : Nat) : Option State :=
  match s.grantDesk p with
  | some (g, h) => if h.tag = tag ∧ requestOf h = some r then some g else none
  | none => none

/-- The row of a request at a port (R172): the command that is its grant and execution. An EDIT ENTRY whose group code is outside
the four is the row of unknown requests (assumption 23). -/
def Request.row (p : Port) : Request → Instr
  | .openBook .. => .openBook p
  | .setBook .. => .setBook p
  | .closeBook .. => .closeBook p
  | .addSection .. => .addSection p
  | .setSection .. => .setSection p
  | .dropSection .. => .dropSection p
  | .addSheet .. => .addSheet p
  | .dropSheet .. => .dropSheet p
  | .setLayout .. => .setLayout p
  | .approveSheet .. => .approveSheet p
  | .unlockSheet .. => .unlockSheet p
  | .addEntry .. => .addEntry p
  | .dropEntry .. => .dropEntry p
  | .editName .. => .editEntryName p
  | .editRole .. => .editEntryRole p
  | .editStatus .. => .editEntryStatus p
  | .editPortrait .. => .editEntryPortrait p
  | .editOther .. => .unknownRequestCode p
  | .moveEntry .. => .moveEntry p
  | .swapPortraits .. => .swapPortraits p
  | .reservePortrait .. => .reservePortrait p
  | .releasePortrait .. => .releasePortrait p
  | .setFaceBox .. => .setFaceBox p
  | .submitRun .. => .submitRun p
  | .submitProof .. => .submitProof p
  | .cancelJob .. => .cancelJob p
  | .forceResync .. => .forceResync p
  | .setPress .. => .setPress p
  | .setArbiter .. => .setArbiter p
  | .readBook .. => .readBook p
  | .readSection .. => .readSection p
  | .readSheet .. => .readSheet p
  | .readEntry .. => .readEntry p
  | .readRosterIndex .. => .readRosterIndex p
  | .readPortrait .. => .readPortrait p
  | .readImagePort => .readImagePort p
  | .readPlacementUnit => .readPlacementUnit p
  | .readPlacementResult .. => .readPlacementResult p
  | .readTile .. => .readTile p
  | .readJob .. => .readJob p
  | .readPressJobCollections .. => .readPressJobCollections p
  | .readRenderer => .readRenderer p
  | .readPressLink .. => .readPressLink p
  | .readDeskPort .. => .readDeskPort p
  | .readArbiter => .readArbiter p
  | .readCounters .. => .readCounters p
  | .readSettingsPort => .readSettingsPort p
  | .readNotices => .readNotices p
  | .setNoticeMask .. => .setNoticeMask p
  | .clearCounters .. => .clearCounters p
  | .saveSettings => .saveSettings p

/-- The row of what a port's slot holds: a request's own row, or the row of unknown requests (R172). -/
def rowOf (p : Port) : Option Request → Instr
  | some r => r.row p
  | none => .unknownRequestCode p

/-- Command `c`, met in `s` and served at `g`, would remove the sheets of a list: all of a book's, all of a section's, or one
(R5, R9, R12). -/
def removes (c : Instr) (s g : State) (p : Port) (tag : Nat) (sheets : List Nat) : Prop :=
  (∃ i b, c = .closeBook p ∧ s.served p (.closeBook i) tag = some g ∧ i < Config.bookSlots ∧ g.book i = some b ∧
      sheets = g.bookSheets b) ∨
    (∃ k x b, c = .dropSection p ∧ s.served p (.dropSection k) tag = some g ∧ g.sec k = some x ∧ g.book x.book = some b ∧
      sheets = x.sheets) ∨
    (∃ i sh x, c = .dropSheet p ∧ s.served p (.dropSheet i) tag = some g ∧ g.sheet i = some sh ∧ g.sec sh.section_ = some x ∧
      sheets = [i])

/-- A run goes on from a state: its step is neither a fault nor a refusal. -/
def goesOn (s : State) : Prop := ∃ t, step s = .next t

/-! ### Requests as a station can send them (R191) -/

/-- The numbers of a layout record fit their fields. -/
def layoutFits (l : Layout) : Bool :=
  decide (l.sheetWidth < 65536 ∧ l.sheetHeight < 65536 ∧ l.bodyLeft < 65536 ∧ l.bodyTop < 65536 ∧ l.bodyWidth < 65536 ∧
    l.bodyHeight < 65536 ∧ l.columns < 65536 ∧ l.cellWidth < 65536 ∧ l.cellHeight < 65536 ∧ l.captionHeight < 65536) &&
  decide (l.lineHeight < 65536 ∧ l.advance < 65536 ∧ l.gutterAcross < 65536 ∧ l.gutterDown < 65536 ∧ l.headHeight < 65536 ∧
    l.eyeRow < 65536 ∧ l.listLines < 65536 ∧ l.pattern < 256)

/-- The numbers of a face box fit their fields. -/
def faceBoxFits (f : FaceBox) : Bool := decide (f.crown < 65536 ∧ f.eye < 65536 ∧ f.chin < 65536 ∧ f.centre < 65536)

/-- A string fits its field: its length and every code in a byte. -/
def strFits (x : Str) : Bool := decide (x.length < 256) && x.all (fun c => decide (c < 256))

/-- A slot that may be absent fits its field: FFFFh stands for none. -/
def slotFits : Option Nat → Bool
  | none => true
  | some n => decide (n < 65535)

/-- Every operand of a request fits the field that carries it. -/
def Request.fits : Request → Bool
  | .openBook b label folio => decide (b < 65536) && strFits label && decide (folio < 65536)
  | .setBook b label folio absent withheld tolerance hold =>
    decide (b < 65536) && strFits label && decide (folio < 65536) && decide (absent < 256) && decide (withheld < 256) &&
      decide (tolerance < 65536) && decide (hold < 256)
  | .closeBook b => decide (b < 65536)
  | .addSection b key label => decide (b < 65536) && decide (key < 65536) && strFits label
  | .setSection k label key => decide (k < 65536) && strFits label && decide (key < 65536)
  | .dropSection k => decide (k < 65536)
  | .addSheet k position => decide (k < 65536) && decide (position < 65536)
  | .dropSheet i => decide (i < 65536)
  | .setLayout i l flagsFit => decide (i < 65536) && layoutFits l && flagsFit
  | .approveSheet i epoch => decide (i < 65536) && decide (epoch < 65536)
  | .unlockSheet i => decide (i < 65536)
  | .addEntry k surname given role status portrait =>
    decide (k < 65536) && strFits surname && strFits given && decide (role < 256) && decide (status < 256) && slotFits portrait
  | .dropEntry e => decide (e < 65536)
  | .editName e surname given => decide (e < 65536) && strFits surname && strFits given
  | .editRole e role => decide (e < 65536) && decide (role < 256)
  | .editStatus e status => decide (e < 65536) && decide (status < 256)
  | .editPortrait e portrait => decide (e < 65536) && slotFits portrait
  | .editOther e => decide (e < 65536)
  | .moveEntry e k => decide (e < 65536) && decide (k < 65536)
  | .swapPortraits e f => decide (e < 65536) && decide (f < 65536)
  | .reservePortrait i => decide (i < 65536)
  | .releasePortrait i => decide (i < 65536)
  | .setFaceBox i face => decide (i < 65536) && faceBoxFits face
  | .submitRun i q copies => decide (i < 65536) && decide (q < 256) && decide (copies < 65536)
  | .submitProof i q => decide (i < 65536) && decide (q < 256)
  | .cancelJob tag => decide (tag < 65536)
  | .forceResync q => decide (q < 256)
  | .setPress q capture hold timeout policy stall =>
    decide (q < 256) && decide (capture < 65536) && decide (hold < 65536) && decide (timeout < 65536) &&
      decide (policy < 256) && decide (stall < 65536)
  | .setArbiter w0 w1 w2 w3 wi =>
    decide (w0 < 256) && decide (w1 < 256) && decide (w2 < 256) && decide (w3 < 256) && decide (wi < 256)
  | .readBook b => decide (b < 65536)
  | .readSection k => decide (k < 65536)
  | .readSheet i => decide (i < 65536)
  | .readEntry e => decide (e < 65536)
  | .readRosterIndex k index => decide (k < 65536) && decide (index < 65536)
  | .readPortrait i => decide (i < 65536)
  | .readImagePort => true
  | .readPlacementUnit => true
  | .readPlacementResult i => decide (i < 65536)
  | .readTile i index => decide (i < 65536) && decide (index < 65536)
  | .readJob tag => decide (tag < 65536)
  | .readPressJobCollections q => decide (q < 256)
  | .readRenderer => true
  | .readPressLink q => decide (q < 256)
  | .readDeskPort n => decide (n < 65536)
  | .readArbiter => true
  | .readCounters u => decide (u < 65536)
  | .readSettingsPort => true
  | .readNotices => true
  | .setNoticeMask m => decide (m < 65536)
  | .clearCounters u index => decide (u < 65536) && slotFits index
  | .saveSettings => true

/-! ### Changes that pass the change guard (R33, R46) -/

/-- The guard accepts a change: no sheet of its change set is locked, and none is IN_PRESS (R46). -/
def State.accepts (g after : State) : Prop :=
  ∀ i ∈ changeSet g after, g.isLocked i = false ∧ g.isInPress i = false

/-- An accepted change stands, its change set is staled, and the request ends with `ok` (R33). -/
def State.applied (g after : State) (p : Port) (tag : Nat) (ok : Answer) : State :=
  (after.staleAll (changeSet g after)).finish p tag ok

/-- Command `c`, met in `s` and served at `g`, makes the change to `after` under the change guard: accepted, it is applied
whole; refused, the request ends with the guard's reason and sheet, and nothing else moves (R33, R47). -/
def guarded (c : Instr) (s g after : State) (p : Port) (tag : Nat) (ok : Answer) : Prop :=
  (g.accepts after → exec c s = .next (g.applied after p tag ok)) ∧
    ∀ r i, guard g (changeSet g after) = some (r, i) → exec c s = .next (g.finish p tag (Answer.refuseAt r i))

/-- A slot is the lowest-numbered free one of a table of `n` slots (R1). -/
def isLowestFree {α : Type} (n : Nat) (t : List (Nat × α)) (i : Nat) : Prop :=
  i < n ∧ tabFind t i = none ∧ ∀ j < i, (tabFind t j).isSome

/-! ### The job table at a boundary (R119, R128 to R130) -/

/-- In `t` the job table is that of `s` with the record `k` in place of its job's: the job is there, every other job is as it
was, and all keep their places. -/
def State.onlyJobMoves (s t : State) (k : Job) : Prop :=
  k ∈ t.jobs ∧ t.jobs = s.jobs.map (fun x => if x.tag = k.tag then k else x)

/-- `t` is `u`, or it is `u` with its ACTIVE RUN job, which has no ending mark, set aside for a proof at a copy boundary (R130):
no band is in production and no job SUSPENDED in `u`; the job is SUSPENDED in `t`, and the stall timer is stopped. -/
def State.mayYield (u t : State) : Prop :=
  t = u ∨ ∃ j, u.activeJob = some j ∧ j.kind = .run ∧ j.ending = .none ∧ j.resumeBand = 0 ∧ u.renderer.band = none ∧
    u.suspendedJob = none ∧ u.proofToGrant.isSome ∧
    t = { u.putJob { j with state := .suspended } with renderer := { u.renderer with stallTimer := none } }

/-- The boundary after a band takes the ACTIVE job from `s` to the record `k` in `t`, or, at a copy boundary, sets it aside for a
proof (R130): the band is over, no other job moves, and outside the jobs, the renderer and the press links nothing does. A job
still ACTIVE with its FIFO full has the stall timer running, from the stall window if it starts here (R129). -/
def State.reachesBoundary (s t : State) (k : Job) (copyBoundary : Bool) : Prop :=
  (s.onlyJobMoves t k ∨
      copyBoundary = true ∧ k.kind = .run ∧ (∀ x ∈ s.jobs, x.state = .suspended → x.tag = k.tag) ∧
        s.onlyJobMoves t { k with state := .suspended }) ∧
    t.renderer = { s.renderer with band := none, stallTimer := t.renderer.stallTimer } ∧
    (k.state = .active → s.onlyJobMoves t k →
      t.renderer.stallTimer = if t.hasRoom k.press = true ∨ s.renderer.stallTimer.isSome then s.renderer.stallTimer
        else some s.renderer.stallWindow) ∧
    { t with jobs := s.jobs, renderer := s.renderer, links := s.links } = s

/-! ### What stands in every state of a run -/

/-- The counts, the correction and the settings of a registration lock are in their ranges (R156, R164). -/
def Registration.inRange (r : Registration) : Prop :=
  r.confirm ≤ 2 ∧ r.bad ≤ 2 ∧ r.search ≤ r.searchTimeout ∧ -2047 ≤ r.correction ∧ r.correction ≤ 2047 ∧
    8 ≤ r.captureWindow ∧ r.captureWindow ≤ 64 ∧ 16 ≤ r.holdWindow ∧ r.holdWindow ≤ 128 ∧ r.captureWindow ≤ r.holdWindow ∧
    4 ≤ r.searchTimeout ∧ r.searchTimeout ≤ 60

/-- A press link is sound (R143, R156, R162): the lock is OFFLINE exactly when the link is, with correction 0 then; an attempt
is in transmission only while the lock is LOCKED; the attempt list holds at most 4 records. -/
def Link.sound (l : Link) : Prop :=
  l.reg.inRange ∧ (l.online = false ↔ l.reg.state = .offline) ∧ (l.reg.state = .offline → l.reg.correction = 0) ∧
    (l.transmission.isSome → l.reg.state = .locked) ∧ l.attempts.length ≤ Config.attemptRecords

/-- Both press links are sound. -/
def State.linksSound (s : State) : Prop := ∀ q, (s.link q).sound

/-- A desk port is sound (R167, R171, R183): the attention line is asserted exactly while a latched flag has an open mask entry,
and the reply queue keeps a place for the reply of the request in the slot. -/
def DeskPort.sound (d : DeskPort) : Prop :=
  d.attention = attentionOf d.notices d.mask ∧
    d.replies.length + (if d.slot = .empty then 0 else 1) ≤ Config.replyPlaces

/-- All four desk ports are sound. -/
def State.portsSound (s : State) : Prop := ∀ p, (s.port p).sound

/-- The image pool's memory is canonical, and the blocks of the inbound load are blocks of the pool (R67, R68). -/
def State.poolSound (s : State) : Prop :=
  Memory.wf s.pool.cells = true ∧ ∀ r, s.image.load = some r → ∀ b ∈ r.blocks, b < Config.poolBlocks

/-- The places of a run queue and of a proof list (R119). -/
def collectionPlaces : JobKind → Nat
  | .run => Config.runQueuePlaces
  | .proof => Config.proofListPlaces

/-- No two jobs have the same tag, each collection is within its places, and at most one job is ACTIVE and at most one
SUSPENDED (R118, R119). -/
def State.jobsSound (s : State) : Prop :=
  (s.jobs.map (·.tag)).Nodup ∧ (∀ q k, (s.collection q k).length ≤ collectionPlaces k) ∧
    (s.jobs.filter (fun j => decide (j.state = .active))).length ≤ 1 ∧
    (s.jobs.filter (fun j => decide (j.state = .suspended))).length ≤ 1

/-- Entry `i` stands before entry `j` by collation (R27, R28). -/
def State.collates (s : State) (i j : Nat) : Prop :=
  ∃ e f, s.entry i = some e ∧ s.entry j = some f ∧ collate i e j f = .lt

/-- The book table is sound: every section stands in its book's list; every sheet stands in its section's list and has a layout
in every state but UNLAID (R6, R10); a roster holds entries of its section in strict collation order (R28); the placement
queue holds each STALE sheet once and no other (R78); and a job that has left WAITING is started (R127). -/
def State.booksSound (s : State) : Prop :=
  (∀ k c, s.sec k = some c → ∃ b, s.book c.book = some b ∧ k ∈ b.sections) ∧
    (∀ i sh, s.sheet i = some sh →
      (∃ c, s.sec sh.section_ = some c ∧ i ∈ c.sheets) ∧ (sh.state ≠ .unlaid → sh.layout.isSome)) ∧
    (∀ k c, s.sec k = some c →
      c.roster.Pairwise s.collates ∧ ∀ i ∈ c.roster, ∃ e, s.entry i = some e ∧ e.section_ = k) ∧
    s.queue.Nodup ∧ (∀ i, i ∈ s.queue ↔ ∃ sh, s.sheet i = some sh ∧ sh.state = .stale) ∧
    (∀ j ∈ s.jobs, j.state ≠ .waiting → j.started = true)

/-- The directory and the pool are sound: a portrait's use count is the number of entries that reference it (R61); every block
of the pool has one owner at most, and the free count and the owned blocks make up the pool (R67). -/
def State.directorySound (s : State) : Prop :=
  tabSorted s.entries = true ∧
    (∀ i, (s.portrait i).useCount = (s.entries.filter (fun e => decide (e.2.portrait = some i))).length) ∧
    tabSorted s.pool.owned = true ∧ (∀ e ∈ s.pool.owned, e.1 < Config.poolBlocks) ∧
    s.pool.freeCount + s.pool.owned.length = Config.poolBlocks

/-- The approval locks are sound (R51, R86): a locked sheet is PLACED or IN_PRESS with no hold reason, and a PLACED sheet has no
hold reason. -/
def State.locksSound (s : State) : Prop :=
  ∀ i sh, s.sheet i = some sh → (sh.state = .placed → sh.hold = none) ∧
    (sh.lock = true → sh.hold = none ∧ (sh.state = .placed ∨ sh.state = .inPress))

end Sys2Proof.Machine
end

