-- ==== Sys2Proof/Certificates/Slice0/Obligations.lean ====
section
/-! DEFINITION. The statements for the provers: what each command does where it completes, what the machine as a whole keeps,
and what the shared arithmetic gives. The rule a statement formalises stands in its docstring. A statement that gathers
several points is their conjunction, in the order of its docstring. -/

open Sys2Proof Sys2Proof.Machine

/-! ### The step -/

/-- A step runs the command at the front of the queue with the queue's rest. The queue is the
model's own (assumption 13). No step stops: that every command has an effect or an answer in every state is the model's reading
of the reference (assumption 14), and that a row which has not come about changes nothing is its choice (assumption 7). -/
def Obligations.StepRunsTheFrontCommand : Prop :=
  (∀ (c : Instr) (rest : List Instr) (s : State),
     step { s with pending := c :: rest } = exec c { s with pending := rest }) ∧
  (∀ s : State, goesOn s)

/-- With no command waiting, a millisecond passes (the model's own choice, assumption 11): running timers count down, an
expired load timer drops the load, and a free arbiter grants a waiting desk port. -/
def Obligations.AnEmptyQueueLetsTimePass : Prop :=
  ∀ s : State, s.pending = [] →
    (s.image.timer = none → s.renderer.stallTimer = none → s.decides = false → step s = .next s) ∧
    (∀ n, s.image.timer = some (n + 2) → s.renderer.stallTimer = none → s.decides = false →
      step s = .next { s with image := { s.image with timer := some (n + 1) } }) ∧
    (∀ n, s.image.timer = none → s.renderer.stallTimer = some (n + 2) → s.decides = false →
      step s = .next { s with renderer := { s.renderer with stallTimer := some (n + 1) } }) ∧
    (s.image.timer = some 1 → s.renderer.stallTimer = none → s.arbiter.engine.isSome → step s = .next s.loadTimeout) ∧
    (∀ p run h, s.image.timer = none → s.renderer.stallTimer = none → s.settings.state ≠ .loading → s.arbiter.engine = none →
      s.decision = some (.desk p, run) → (s.port p).slot = .waiting h →
      step s = .next ((s.setPort p { s.port p with slot := .granted h }).hold (.desk p) run))

/-! ### Desk ports and the arbiter -/

/-- A valid frame is taken by the request slot and the reply queue, in the four cases of R169. The receiver follows its line:
a frame that fails its checks is discarded and counted (R168), a frame start, a sent reply (R171), and the end of a break
(R178). That a frame whose start was met by no command, the receiver IDLE, is taken as from RECEIVING is the model's choice
(assumption 26). -/
def Obligations.DeskLineRowsFollowTheReceiver : Prop :=
  (∀ (s : State) (p : Port) (bytes : List Byte) (h : HeldRequest),
     (s.port p).receiver ≠ .atBreak → frameRequestOf bytes = some h →
     ((s.port p).slot = .empty → 0 < s.arbiter.weights.get p → (s.port p).replies.length < 4 →
       exec (.requestFrame p bytes) s =
         .next (s.setPort p { s.port p with receiver := .idle, slot := .waiting h })) ∧
     ((s.port p).slot = .empty → s.arbiter.weights.get p = 0 → (s.port p).replies.length < 4 →
       exec (.requestFrame p bytes) s =
         .next ((s.setPort p { s.port p with receiver := .idle }).formReply p h.tag (Answer.refuse .disabled))) ∧
     ((s.port p).slot ≠ .empty → (s.port p).replies.length + 1 < 4 →
       exec (.requestFrame p bytes) s =
         .next ((s.setPort p { s.port p with receiver := .idle }).formReply p h.tag Answer.busy)) ∧
     (4 ≤ (s.port p).replies.length + (if (s.port p).slot = .empty then 0 else 1) →
       exec (.requestFrame p bytes) s =
         .next ((s.setPort p { s.port p with receiver := .idle }).raise (portUnit p) 2))) ∧
  (∀ (s : State) (p : Port),
     (∀ bytes, (s.port p).receiver ≠ .atBreak → frameRequestOf bytes = none →
       exec (.requestFrame p bytes) s =
         .next ((s.setPort p { s.port p with receiver := .idle }).raise (portUnit p) 2)) ∧
     ((s.port p).receiver = .idle →
       exec (.requestFrameStart p) s = .next (s.setPort p { s.port p with receiver := .receiving })) ∧
     (∀ r rs, (s.port p).replies = r :: rs →
       exec (.replyFrameSent p) s = .next (s.setPort p { s.port p with replies := rs })) ∧
     ((s.port p).receiver = .atBreak →
       exec (.breakEnd p) s = .next (s.setPort p { s.port p with receiver := .idle, breakLevel := false })))

/-- A break clears the port's session (R178): receiver, slot or silent mark, reply queue, notice set and mask; the counters,
the weights, the turn and the other ports are kept. REG_TIMEOUT is latched again where its condition holds (R182). -/
def Obligations.ABreakClearsTheSession : Prop :=
  ∀ (s : State) (p : Port), (s.port p).receiver ≠ .atBreak →
    ∃ t, exec (.lineBreak p) s = .next t ∧
      (t.port p).receiver = .atBreak ∧ (t.port p).replies = [] ∧ (t.port p).mask = (s.port p).defaultMask ∧
      (t.port p).defaultMask = (s.port p).defaultMask ∧
      ((∀ h, (s.port p).slot ≠ .granted h) → (t.port p).slot = .empty ∧ (t.port p).silent = (s.port p).silent) ∧
      (∀ h, (s.port p).slot = .granted h → (t.port p).slot = .granted h ∧ (t.port p).silent = true) ∧
      (∀ n, n < 13 → tabFind (t.port p).notices n = none) ∧
      (tabFind (t.port p).notices 13 =
        if (s.link .a).reg.timedOut then some { count := 1, subject := .none } else none) ∧
      (tabFind (t.port p).notices 14 =
        if (s.link .b).reg.timedOut then some { count := 1, subject := .none } else none) ∧
      ((t.port p).attention =
        ((s.link .a).reg.timedOut && !(s.port p).defaultMask.getLsbD 13 ||
          (s.link .b).reg.timedOut && !(s.port p).defaultMask.getLsbD 14)) ∧
      (∀ p', p' ≠ p → t.port p' = s.port p') ∧ { t with ports := s.ports } = s

/-- The decision of the arbiter (R174): the requester at the pointer while its run count is below its weight; otherwise the
first other asking requester in ring order, with run count 1; otherwise the one at the pointer alone. That the
run count then stays where it stands even above a weight lowered since is the model's reading (assumption 24); R174 has it at
the weight. -/
def Obligations.TheArbiterFollowsTheRing : Prop :=
  ∀ (s : State),
    (s.asking s.arbiter.turn = true → s.arbiter.run < s.arbiter.weight s.arbiter.turn →
      s.decision = some (s.arbiter.turn, s.arbiter.run + 1)) ∧
    (∀ before r after, ringAfter s.arbiter.turn = before ++ r :: after → (∀ x ∈ before, s.asking x = false) →
      s.asking r = true →
      (s.asking s.arbiter.turn = false ∨ s.arbiter.weight s.arbiter.turn ≤ s.arbiter.run) → s.decision = some (r, 1)) ∧
    ((∀ x ∈ ringAfter s.arbiter.turn, s.asking x = false) → s.asking s.arbiter.turn = true →
      s.arbiter.weight s.arbiter.turn ≤ s.arbiter.run → s.decision = some (s.arbiter.turn, s.arbiter.run)) ∧
    (s.decision = none ↔ ∀ x, s.asking x = false)

/-- A request that is served is executed under the engine: at its grant the slot is GRANTED, the engine is HELD for the port,
and nothing else has moved (R170, R174). A request that waits in a port is served when this decision goes to the port, and a
GRANTED one while its port holds the engine. An EMPTY slot, a settings load in progress, a HELD engine, a decision that goes
elsewhere, or a GRANTED slot whose port does not hold the engine serves nothing, and every desk row then leaves the state as it
is; so does every desk row but that of the request held, even when the port is served (R169, R172, R174, R196). That such rows
change nothing is the model's choice (assumption 7), and that an EDIT ENTRY with a foreign group code is the row of unknown
requests is assumption 23. -/
def Obligations.AServedRequestHoldsTheEngine : Prop :=
  (∀ (s g : State) (p : Port) (r : Request) (tag : Nat), s.served p r tag = some g →
     (∃ h, (g.port p).slot = .granted h ∧ h.tag = tag ∧ requestOf h = some r) ∧
       g.arbiter.engine = some (.desk p) ∧ (∀ p', p' ≠ p → g.port p' = s.port p') ∧
       g.port p = { s.port p with slot := (g.port p).slot } ∧
       g.arbiter.weights = s.arbiter.weights ∧ g.arbiter.imageWeight = s.arbiter.imageWeight ∧
       { g with ports := s.ports, arbiter := s.arbiter } = s) ∧
  (∀ (s : State) (p : Port) (h : HeldRequest) (r : Request), requestOf h = some r →
     (∀ run, (s.port p).slot = .waiting h → s.settings.state ≠ .loading → s.arbiter.engine = none →
       s.decision = some (.desk p, run) →
       s.served p r h.tag = some ((s.setPort p { s.port p with slot := .granted h }).hold (.desk p) run)) ∧
     ((s.port p).slot = .granted h → s.arbiter.engine = some (.desk p) → s.served p r h.tag = some s)) ∧
  (∀ (s : State) (p : Port),
     (s.port p).slot = .empty ∨
         (∃ h, (s.port p).slot = .waiting h ∧
           (s.settings.state = .loading ∨ s.arbiter.engine.isSome ∨ ∀ run, s.decision ≠ some (.desk p, run))) ∨
         (∃ h, (s.port p).slot = .granted h ∧ s.arbiter.engine ≠ some (.desk p)) →
       (∀ r tag, s.served p r tag = none) ∧ ∀ o, exec (rowOf p o) s = .next s) ∧
  (∀ (s : State) (p : Port) (h : HeldRequest) (o : Option Request),
     (s.port p).slot = .waiting h ∨ (s.port p).slot = .granted h → rowOf p o ≠ rowOf p (requestOf h) →
       exec (rowOf p o) s = .next s)

/-- A served request ends with its reply (R170, R171, R178): the slot is EMPTY, the engine FREE, the reply at the tail of the
queue, or withheld under the silent mark, which clears; the reply is counted at the port; and outside the ports' notice sets
with their attention lines, the counters and the engine nothing moves: the port's receiver, masks and break level are as they
were, and so is every other field of the other ports. The only notice this can latch is COUNTER_WRAP (R187). -/
def Obligations.AServedRequestEndsWithItsReply : Prop :=
  ∀ (s : State) (p : Port) (tag : Nat) (a : Answer),
    ((s.finish p tag a).port p).slot = .empty ∧ ((s.finish p tag a).port p).silent = false ∧
      (s.finish p tag a).arbiter = { s.arbiter with engine := none } ∧
      ((s.finish p tag a).port p).replies =
        (s.port p).replies ++ (if (s.port p).silent then [] else [a.reply tag]) ∧
      (∀ p', p' ≠ p → ((s.finish p tag a).port p').replies = (s.port p').replies ∧
        ((s.finish p tag a).port p').slot = (s.port p').slot ∧ ((s.finish p tag a).port p').mask = (s.port p').mask) ∧
      (s.finish p tag a).port p = { s.port p with
        slot := .empty, silent := false, replies := ((s.finish p tag a).port p).replies
        notices := ((s.finish p tag a).port p).notices, attention := ((s.finish p tag a).port p).attention } ∧
      (∀ p', p' ≠ p → (s.finish p tag a).port p' = { s.port p' with
        notices := ((s.finish p tag a).port p').notices, attention := ((s.finish p tag a).port p').attention }) ∧
      (∀ p' n, n ≠ 11 → tabFind ((s.finish p tag a).port p').notices n = tabFind (s.port p').notices n) ∧
      (s.finish p tag a).counters = (s.raise (portUnit p) (if a.status = .done then 0 else 1)).counters ∧
      { s.finish p tag a with ports := s.ports, arbiter := s.arbiter, counters := s.counters } = s

/-- A granted request that is no request is refused with BAD_FORM, and an EDIT ENTRY whose group code is outside the four with
BAD_INDEX for its entry before BAD_FORM for its group (R36, R172); a well-formed request never draws this. That an
EDIT ENTRY with a foreign group code is this row, judged by its entry first, is the model's reading (assumption 23); that the
row changes nothing when the port's request is another is its choice (assumption 7). -/
def Obligations.UnknownRequestsAreRefused : Prop :=
  ∀ (s g : State) (p : Port) (h : HeldRequest), s.grantDesk p = some (g, h) →
    (requestOf h = none →
      exec (.unknownRequestCode p) s = .next (g.finish p h.tag (Answer.refuse .badForm))) ∧
    (∀ e, requestOf h = some (.editOther e) →
      (e < 3072 → (g.entry e).isSome →
        exec (.unknownRequestCode p) s = .next (g.finish p h.tag (Answer.refuse .badForm))) ∧
      (3072 ≤ e ∨ g.entry e = none →
        exec (.unknownRequestCode p) s = .next (g.finish p h.tag (Answer.refuse .badIndex)))) ∧
    (∀ r, requestOf h = some r → (∀ e, r ≠ .editOther e) → exec (.unknownRequestCode p) s = .next s)

/-! ### Frames and images as their senders write them -/

/-- A request frame that a station writes by R191 is taken as the code, tag and field bytes it carries. A settings image
written from values in their ranges is read back as those values (R195, R196). -/
def Obligations.SenderFormatsRoundTrip : Prop :=
  (∀ h : HeldRequest, h.code < 256 → h.tag < 16 → h.fields.length ≤ 1022 →
     frameRequestOf (requestFrameBytes h) = some h) ∧
  (∀ v : Settings, v.valid = true → settingsOf (settingsBytes v) = some v ∧ (settingsBytes v).length = 32)

/-- Every request whose operands fit their fields is read back from its code and field bytes with every operand (R191).
That port and unit numbers take 2 bytes and press and pattern codes 1 byte is the model's reading (assumption 20). -/
def Obligations.RequestFieldsRoundTrip : Prop :=
  ∀ (r : Request) (tag : Nat), r.fits = true → requestOf (heldOf tag r) = some r

/-! ### Reads -/

/-- READ of a book, section, sheet, entry or roster index answers with the record as it stands; a number beyond the table, a
roster index of a free section, or one at or beyond the roster length, is refused with BAD_INDEX (R23, R45, R191). READ of a
portrait, the image port, the placement unit, a placement result or a tile answers with what stands there; a portrait number
beyond the table, a free sheet slot and a tile index at or beyond the tile count are refused with BAD_INDEX, and a sheet with no
result with NOT_ELIGIBLE (R66, R78, R95, R191). READ of a job, a press's collections, the renderer or a press link answers with
what stands there; a tag no job has is refused with BAD_INDEX, a press code outside its set with BAD_FORM (R125, R143, R156,
R191). READ of a desk port, the arbiter, a unit's counters or the settings port answers with what stands there; a port number
beyond 3 or a unit number beyond 6 is refused with BAD_INDEX (R179, R188, R197, R191). The reading port's own slot is then
GRANTED and the engine HELD for it, and READ ARBITER says so (R179). The layout of these data is the model's reading where R190
and R191 leave it open: codes (assumption 16), presence bytes (17), widths (18, 20), the lists of the placement unit and the
counters and the order of the desk port and arbiter data (19), the order of the dead rules (46), the section and the position of
a sheet first (48), the place of the lock's fields (50), the length byte of a string that a byte cannot count (55). -/
def Obligations.ReadRowsAnswerWithWhatStands : Prop :=
  (∀ (s g : State) (p : Port) (tag i j : Nat),
     (s.served p (.readBook i) tag = some g →
       (∀ b, i < 6 → g.book i = some b → exec (.readBook p) s = .next (g.finish p tag
         (Answer.done false (byte1 1 ++ (byte1 1 ++ bookBytes b) ++ byteList byte2 b.sections)))) ∧
       (i < 6 → g.book i = none → exec (.readBook p) s = .next (g.finish p tag
         (Answer.done false (byte1 0 ++ byte1 0 ++ byte2 0)))) ∧
       (6 ≤ i → exec (.readBook p) s = .next (g.finish p tag (Answer.refuse .badIndex)))) ∧
     (s.served p (.readSection i) tag = some g →
       (i < 96 → exec (.readSection p) s = .next (g.finish p tag
         (Answer.done false (bytePresent sectionBytes (g.sec i))))) ∧
       (96 ≤ i → exec (.readSection p) s = .next (g.finish p tag (Answer.refuse .badIndex)))) ∧
     (s.served p (.readSheet i) tag = some g →
       (i < 192 → exec (.readSheet p) s = .next (g.finish p tag
         (Answer.done false (bytePresent (sheetBytes g i) (g.sheet i))))) ∧
       (∀ sh c before after, i < 192 → g.sheet i = some sh → g.sec sh.section_ = some c → c.sheets = before ++ i :: after →
         i ∉ before → ∃ rest, sheetBytes g i sh = byte2 sh.section_ ++ byte2 before.length ++ rest) ∧
       (192 ≤ i → exec (.readSheet p) s = .next (g.finish p tag (Answer.refuse .badIndex)))) ∧
     (s.served p (.readEntry i) tag = some g →
       (i < 3072 → exec (.readEntry p) s = .next (g.finish p tag
         (Answer.done false (bytePresent (entryBytes g i) (g.entry i))))) ∧
       (3072 ≤ i → exec (.readEntry p) s = .next (g.finish p tag (Answer.refuse .badIndex)))) ∧
     (s.served p (.readRosterIndex i j) tag = some g →
       (∀ c e, g.sec i = some c → c.roster[j]? = some e → exec (.readRosterIndex p) s = .next (g.finish p tag
         (Answer.done false (byte2 e)))) ∧
       (∀ c, g.sec i = some c → c.roster.length ≤ j →
         exec (.readRosterIndex p) s = .next (g.finish p tag (Answer.refuse .badIndex))) ∧
       (g.sec i = none → exec (.readRosterIndex p) s = .next (g.finish p tag (Answer.refuse .badIndex))))) ∧
  (∀ (s g : State) (p : Port) (tag i j : Nat),
     (s.served p (.readPortrait i) tag = some g →
       (i < 3072 → exec (.readPortrait p) s = .next (g.finish p tag (Answer.done false
         (byte1 (portraitStateCode (g.portrait i).state) ++ byte1 (g.portrait i).generation ++
           byte2 (g.portrait i).useCount ++ byte2 (g.portrait i).pinCount ++ byte2 (g.portrait i).lockCount ++
           bytePresent imageBytes (g.portrait i).current ++ bytePresent imageBytes (g.portrait i).pendingImage ++
           byteFlag (g.isLoadTarget i))))) ∧
       (3072 ≤ i → exec (.readPortrait p) s = .next (g.finish p tag (Answer.refuse .badIndex)))) ∧
     (s.served p .readImagePort tag = some g →
       exec (.readImagePort p) s = .next (g.finish p tag (Answer.done false
         (byte1 (imagePortStateCode g.image.state) ++ bytePresent loadBytes g.image.load ++ byte4 g.pool.freeCount)))) ∧
     (s.served p .readPlacementUnit tag = some g →
       exec (.readPlacementUnit p) s = .next (g.finish p tag (Answer.done false
         (byte2 g.queue.length ++ byteList byte2 g.queue ++
           bytePresent (fun (u : InProgress) => byte2 u.sheet ++ byte2 u.epoch.toNat) g.placing)))) ∧
     (s.served p (.readPlacementResult i) tag = some g → g.sheet i = none →
       exec (.readPlacementResult p) s = .next (g.finish p tag (Answer.refuse .badIndex))) ∧
     (s.served p (.readTile i j) tag = some g → g.sheet i = none →
       exec (.readTile p) s = .next (g.finish p tag (Answer.refuse .badIndex))) ∧
     (∀ sh, s.served p (.readPlacementResult i) tag = some g → g.sheet i = some sh →
       (∀ r, sh.result = some r → exec (.readPlacementResult p) s = .next (g.finish p tag
         (Answer.done false (resultBytes r sh.hold)))) ∧
       (sh.result = none → exec (.readPlacementResult p) s = .next (g.finish p tag (Answer.refuse .notEligible)))) ∧
     (∀ sh, s.served p (.readTile i j) tag = some g → g.sheet i = some sh →
       (∀ r t, sh.result = some r → r.tiles[j]? = some t → exec (.readTile p) s = .next (g.finish p tag
         (Answer.done false (tileBytes t)))) ∧
       (∀ r, sh.result = some r → r.tiles.length ≤ j →
         exec (.readTile p) s = .next (g.finish p tag (Answer.refuse .badIndex))) ∧
       (sh.result = none → exec (.readTile p) s = .next (g.finish p tag (Answer.refuse .notEligible))))) ∧
  (∀ (s g : State) (p : Port) (tag n : Nat),
     (s.served p (.readJob n) tag = some g →
       (∀ j, g.jobOf n = some j → exec (.readJob p) s = .next (g.finish p tag (Answer.done false (jobBytes g j)))) ∧
       (g.jobOf n = none → exec (.readJob p) s = .next (g.finish p tag (Answer.refuse .badIndex)))) ∧
     (s.served p (.readPressJobCollections n) tag = some g → 2 ≤ n →
       exec (.readPressJobCollections p) s = .next (g.finish p tag (Answer.refuse .badForm))) ∧
     (s.served p (.readPressLink n) tag = some g → 2 ≤ n →
       exec (.readPressLink p) s = .next (g.finish p tag (Answer.refuse .badForm))) ∧
     (∀ q, s.served p (.readPressJobCollections n) tag = some g → pressOf n = some q →
       exec (.readPressJobCollections p) s = .next (g.finish p tag (Answer.done false
         (byteList byte2 ((g.collection q .run).map (·.tag)) ++ byteList byte2 ((g.collection q .proof).map (·.tag)))))) ∧
     (s.served p .readRenderer tag = some g →
       exec (.readRenderer p) s = .next (g.finish p tag (Answer.done false
         (byteSlot (g.activeJob.map (·.tag)) ++ byteSlot (g.suspendedJob.map (·.tag)) ++
           bytePresent (fun (b : BandInProduction) => byte2 b.band ++ byte2 b.copy) g.renderer.band ++
           bytePresent byte2 g.renderer.stallTimer ++ byte2 g.renderer.stallWindow ++
           byte1 (pressCode g.renderer.lastServed))))) ∧
     (∀ q, s.served p (.readPressLink n) tag = some g → pressOf n = some q →
       exec (.readPressLink p) s = .next (g.finish p tag (Answer.done false
         (byteFlag (g.link q).online ++ regBytes (g.link q).reg ++ byteList fifoBytes (g.link q).fifo ++
           bytePresent transmissionBytes (g.link q).transmission ++ byteList attemptBytes (g.link q).attempts ++
           byteList ruleBytes (g.link q).rules))))) ∧
  (∀ (s g : State) (p : Port) (tag n : Nat),
     (s.served p (.readDeskPort n) tag = some g →
       (∀ d, portOf n = some d → exec (.readDeskPort p) s = .next (g.finish p tag (Answer.done false
         (byte1 (receiverCode (g.port d).receiver) ++ slotBytes (g.port d).slot ++ byteFlag (g.port d).silent ++
           byte2 (g.port d).replies.length ++ byteFlag (g.port d).attention ++ byte1 (g.arbiter.weights.get d))))) ∧
       (4 ≤ n → exec (.readDeskPort p) s = .next (g.finish p tag (Answer.refuse .badIndex)))) ∧
     (s.served p .readArbiter tag = some g →
       exec (.readArbiter p) s = .next (g.finish p tag (Answer.done false
         (byte1 g.arbiter.weights.dp0 ++ byte1 g.arbiter.weights.dp1 ++ byte1 g.arbiter.weights.dp2 ++
           byte1 g.arbiter.weights.dp3 ++ byte1 g.arbiter.imageWeight ++ byte1 (requesterCode g.arbiter.turn) ++
           byte2 g.arbiter.run ++ (byte1 1 ++ byte1 1 ++ byte1 (portNumber p)) ++ byteFlag (g.asking (.desk .dp0)) ++
           byteFlag (g.asking (.desk .dp1)) ++ byteFlag (g.asking (.desk .dp2)) ++ byteFlag (g.asking (.desk .dp3)) ++
           byteFlag (g.asking .image)))) ∧ g.asking (.desk p) = false) ∧
     (s.served p (.readCounters n) tag = some g →
       (n ≤ 6 → exec (.readCounters p) s = .next (g.finish p tag (Answer.done false
         (byteList (fun i => byte4 (g.counter n i).value.toNat ++ byteFlag (g.counter n i).overflow)
           (List.range (if n < 2 then 6 else 3)))))) ∧
       (7 ≤ n → exec (.readCounters p) s = .next (g.finish p tag (Answer.refuse .badIndex)))) ∧
     (s.served p .readSettingsPort tag = some g →
       exec (.readSettingsPort p) s = .next (g.finish p tag (Answer.done false
         (byte1 (settingsStateCode g.settings.state) ++ byte1 (saveResultCode g.settings.lastSave) ++
           settingsData g.settings.image)))))

/-! ### Books, sections and sheets -/

/-- OPEN BOOK, whole (R3): its refusals in order, and the book it opens, with the label cut and the first folio brought into
range, either of which sets ADJUSTED. No sheet is staled. -/
def Obligations.OpenBookFollowsItsRule : Prop :=
  ∀ (s g : State) (p : Port) (tag i : Nat) (label : Str) (folio : Nat), s.served p (.openBook i label folio) tag = some g →
    (6 ≤ i → exec (.openBook p) s = .next (g.finish p tag (Answer.refuse .badIndex))) ∧
    (i < 6 → (g.book i).isSome → exec (.openBook p) s = .next (g.finish p tag (Answer.refuse .inUse))) ∧
    (i < 6 → g.book i = none → (∃ c ∈ label, 95 ≤ c) →
      exec (.openBook p) s = .next (g.finish p tag (Answer.refuse .badForm))) ∧
    (i < 6 → g.book i = none → (∀ c ∈ label, c < 95) →
      exec (.openBook p) s = .next
        ((g.setBook i (some
          { label := label.take 40
            firstFolio := if folio = 0 then 1 else if 9999 < folio then 9999 else folio
            absent := .silhouette, withheld := .silhouette, tolerance := 24, holdOnDrift := false, sections := [] })).finish
          p tag (Answer.done (decide (40 < label.length ∨ folio = 0 ∨ 9999 < folio)) [])))

/-- ADD SECTION, whole (R7), for an order key its field can hold: its refusals in order, and the section it makes in the
lowest free slot, placed in its book's list by its key. -/
def Obligations.AddSectionFollowsItsRule : Prop :=
  ∀ (s g : State) (p : Port) (tag i key : Nat) (label : Str), s.served p (.addSection i key label) tag = some g → i < 6 →
    (g.book i = none → exec (.addSection p) s = .next (g.finish p tag (Answer.refuse .notOpen))) ∧
    ∀ b, g.book i = some b →
      ((∃ c ∈ label, 95 ≤ c) → exec (.addSection p) s = .next (g.finish p tag (Answer.refuse .badForm))) ∧
      ((∀ c ∈ label, c < 95) → key < 256 →
        ((∃ j ∈ b.sections, g.keyOf j = key) →
          exec (.addSection p) s = .next (g.finish p tag (Answer.refuse .orderTaken))) ∧
        ((∀ j ∈ b.sections, g.keyOf j ≠ key) → 32 ≤ b.sections.length →
          exec (.addSection p) s = .next (g.finish p tag (Answer.refuse .listFull))) ∧
        ((∀ j ∈ b.sections, g.keyOf j ≠ key) → b.sections.length < 32 → (∀ k < 96, (g.sec k).isSome) →
          exec (.addSection p) s = .next (g.finish p tag (Answer.refuse .tableFull))) ∧
        (∀ k, (∀ j ∈ b.sections, g.keyOf j ≠ key) → b.sections.length < 32 → isLowestFree 96 g.sections k →
          exec (.addSection p) s = .next
            (((g.setSec k (some { book := i, key := key, label := label.take 24, roster := [], sheets := [] })).setBook i
              (some { b with sections := b.sections.filter (fun j => decide (g.keyOf j < key)) ++
                k :: b.sections.filter (fun j => decide (¬g.keyOf j < key)) })).finish
              p tag (Answer.done (decide (24 < label.length)) (byte2 k)))))

/-- The changes of books, sections and sheets under the change guard: each stores what its rule says, its change set is
staled, and a refusal moves nothing (R4, R8, R9, R11, R12, R15, R33). When the change moves folios, the blocking sheet is the first
in the order before it and the staled sheets join the queue in the order after it: the model's reading (assumption 21), as
it is that a sheet which gains or loses the last-sheet role is always in the set (assumption 44). SET
LAYOUT of an IN_PRESS sheet (assumption 22) is not stated here; the refusals of SET BOOK, SET SECTION and ADD SHEET stand in
RemovalsFreeWhatTheyName. -/
def Obligations.BookChangesPassTheGuard : Prop :=
  ∀ (s g : State) (p : Port) (tag i k n : Nat),
    (∀ (label : Str) (folio aw ww tolerance h : Nat) (b : Book) (ap : AbsentPolicy) (wp : WithheldPolicy),
      s.served p (.setBook i label folio aw ww tolerance h) tag = some g → i < 6 → g.book i = some b →
      absentPolicyOf aw = some ap → withheldPolicyOf ww = some wp → h < 2 → sendable label = true → tolerance < 256 →
      guarded (.setBook p) s g
        (g.setBook i (some { b with
          label := label.take 40, firstFolio := if folio = 0 then 1 else if 9999 < folio then 9999 else folio
          absent := ap, withheld := wp, tolerance := tolerance, holdOnDrift := decide (h = 1) })) p tag
        (Answer.done (decide (40 < label.length ∨ folio = 0 ∨ 9999 < folio)) [])) ∧
    (∀ (label : Str) (key : Nat) (c : Section) (b : Book),
      s.served p (.setSection k label key) tag = some g → g.sec k = some c → g.book c.book = some b →
      sendable label = true → key < 256 → (∀ j ∈ b.sections, j ≠ k → g.keyOf j ≠ key) →
      guarded (.setSection p) s g
        ((g.setSec k (some { c with label := label.take 24, key := key })).setBook c.book
          (some { b with sections := g.placeSection k key (rosterRemove b.sections k) })) p tag
        (Answer.done (decide (24 < label.length)) [])) ∧
    (∀ (c : Section) (b : Book),
      s.served p (.dropSection k) tag = some g → g.sec k = some c → g.book c.book = some b →
      (∀ j ∈ c.sheets, g.isLocked j = false ∧ ∀ sh, g.sheet j = some sh → sh.job = none) →
      guarded (.dropSection p) s g
        ((g.removeSection k).setBook c.book (some { b with sections := rosterRemove b.sections k })) p tag Answer.ok) ∧
    (∀ c : Section,
      s.served p (.addSheet k n) tag = some g → g.sec k = some c → n ≤ c.sheets.length → c.sheets.length < 8 →
      isLowestFree 192 g.sheets i →
      guarded (.addSheet p) s g
        (((g.bumpEpoch i).setSheet i (some (Sheet.fresh k))).setSec k
          (some { c with sheets := c.sheets.take n ++ i :: c.sheets.drop n })) p tag (Answer.done false (byte2 i))) ∧
    (∀ (sh : Sheet) (c : Section),
      s.served p (.dropSheet i) tag = some g → g.sheet i = some sh → g.sec sh.section_ = some c → sh.lock = false →
      sh.job = none →
      guarded (.dropSheet p) s g
        ((g.removeSheet i).setSec sh.section_ (some { c with sheets := rosterRemove c.sheets i })) p tag Answer.ok) ∧
    (∀ (l : Layout) (sh : Sheet),
      s.served p (.setLayout i l true) tag = some g → l.valid = true → g.sheet i = some sh → sh.state ≠ .inPress →
      guarded (.setLayout p) s g (g.setSheet i (some { sh with layout := some l })) p tag Answer.ok)

/-- CLOSE BOOK, DROP SECTION and DROP SHEET are refused with LOCKED, and else with IN_USE, for the first such sheet in folio
order of those they would remove; otherwise CLOSE BOOK frees every section of the book and the book (R5, R9, R12, R49). A
removed sheet leaves the sheet table and the placement queue, and its slot keeps its epoch, moved by one (R22); a freed entry
leaves the entry table, and the use count of its portrait alone falls by one (R5, R9, R35, R61). A request on a book slot,
section, sheet or entry that is not there is refused with BAD_INDEX, or with NOT_OPEN for a CLOSED book; nothing else moves
(R4, R5, R8, R9, R11, R12, R34, R35, R36, R41, R42, R52, R53). SET BOOK, SET SECTION and ADD SHEET have the further refusals of
R4, R8 and R11, and ADD ENTRY those of R34, in order; EDIT ENTRY and MOVE ENTRY have theirs (R36 to R41). ADD SECTION refuses
a book number above 5 with BAD_INDEX (R1, R7). That a drift tolerance, or an order key in SET SECTION or ADD SECTION, above 255
draws BAD_FORM is the model's reading (assumption 8). -/
def Obligations.RemovalsFreeWhatTheyName : Prop :=
  (∀ (s g : State) (p : Port) (tag : Nat) (c : Instr) (sheets : List Nat), removes c s g p tag sheets →
     (∀ before j after, g.folioOrder = before ++ j :: after → j ∈ sheets → g.isLocked j = true →
       (∀ x ∈ before, x ∈ sheets → g.isLocked x = false) →
       exec c s = .next (g.finish p tag (Answer.refuseAt .locked j))) ∧
     (∀ before j after sh, (∀ x ∈ g.folioOrder, x ∈ sheets → g.isLocked x = false) → g.folioOrder = before ++ j :: after →
       j ∈ sheets → g.sheet j = some sh → sh.job.isSome →
       (∀ x ∈ before, x ∈ sheets → ∀ sx, g.sheet x = some sx → sx.job = none) →
       exec c s = .next (g.finish p tag (Answer.refuseAt .inUse j)))) ∧
  (∀ (s g : State) (p : Port) (tag i : Nat) (b : Book),
     s.served p (.closeBook i) tag = some g → i < 6 → g.book i = some b →
     (∀ j ∈ g.bookSheets b, g.isLocked j = false ∧ ∀ sh, g.sheet j = some sh → sh.job = none) →
       exec (.closeBook p) s = .next (((b.sections.foldl State.removeSection g).setBook i none).finish p tag Answer.ok)) ∧
  (∀ (s : State) (i : Nat),
     ((s.removeSheet i).sheet i = none ∧ (s.removeSheet i).epoch i = s.epoch i + 1 ∧
       (s.removeSheet i).queue = s.queue.filter (fun j => decide (j ≠ i)) ∧
       (∀ j, j ≠ i → (s.removeSheet i).sheet j = s.sheet j ∧ (s.removeSheet i).epoch j = s.epoch j) ∧
       { s.removeSheet i with sheets := s.sheets, epochs := s.epochs, queue := s.queue } = s) ∧
     (∀ e, s.entry i = some e →
       (s.freeEntry i).entry i = none ∧ (∀ j, j ≠ i → (s.freeEntry i).entry j = s.entry j) ∧
         (∀ q, e.portrait = some q →
           (s.freeEntry i).portrait q = { s.portrait q with useCount := (s.portrait q).useCount - 1 }) ∧
         (∀ q, e.portrait ≠ some q → (s.freeEntry i).portrait q = s.portrait q) ∧
         { s.freeEntry i with entries := s.entries, portraits := s.portraits } = s)) ∧
  (∀ (s g : State) (p : Port) (tag i k n : Nat) (x : Str),
     (s.served p (.closeBook i) tag = some g →
       (6 ≤ i → exec (.closeBook p) s = .next (g.finish p tag (Answer.refuse .badIndex))) ∧
       (i < 6 → g.book i = none → exec (.closeBook p) s = .next (g.finish p tag (Answer.refuse .notOpen)))) ∧
     (∀ folio aw ww tol hold, s.served p (.setBook i x folio aw ww tol hold) tag = some g →
       (6 ≤ i → exec (.setBook p) s = .next (g.finish p tag (Answer.refuse .badIndex))) ∧
       (i < 6 → g.book i = none → exec (.setBook p) s = .next (g.finish p tag (Answer.refuse .notOpen))) ∧
       (i < 6 → (g.book i).isSome → 3 ≤ aw ∨ 2 ≤ ww ∨ 2 ≤ hold ∨ (∃ c ∈ x, 95 ≤ c) ∨ 256 ≤ tol →
         exec (.setBook p) s = .next (g.finish p tag (Answer.refuse .badForm)))) ∧
     (s.served p (.addSection i n x) tag = some g →
       (6 ≤ i → exec (.addSection p) s = .next (g.finish p tag (Answer.refuse .badIndex))) ∧
       (i < 6 → (g.book i).isSome → 256 ≤ n →
         exec (.addSection p) s = .next (g.finish p tag (Answer.refuse .badForm)))) ∧
     (s.served p (.setSection k x n) tag = some g →
       (g.sec k = none → exec (.setSection p) s = .next (g.finish p tag (Answer.refuse .badIndex))) ∧
       ∀ c b, g.sec k = some c → g.book c.book = some b →
         ((∃ d ∈ x, 95 ≤ d) ∨ 256 ≤ n → exec (.setSection p) s = .next (g.finish p tag (Answer.refuse .badForm))) ∧
         ((∀ d ∈ x, d < 95) → n < 256 → (∃ j ∈ b.sections, j ≠ k ∧ g.keyOf j = n) →
           exec (.setSection p) s = .next (g.finish p tag (Answer.refuse .orderTaken)))) ∧
     (s.served p (.dropSection k) tag = some g → g.sec k = none →
       exec (.dropSection p) s = .next (g.finish p tag (Answer.refuse .badIndex))) ∧
     (s.served p (.addSheet k n) tag = some g →
       (g.sec k = none → exec (.addSheet p) s = .next (g.finish p tag (Answer.refuse .badIndex))) ∧
       ∀ c, g.sec k = some c →
         (c.sheets.length < n → exec (.addSheet p) s = .next (g.finish p tag (Answer.refuse .badIndex))) ∧
         (n ≤ c.sheets.length → 8 ≤ c.sheets.length →
           exec (.addSheet p) s = .next (g.finish p tag (Answer.refuse .listFull))) ∧
         (n ≤ c.sheets.length → c.sheets.length < 8 → (∀ j < 192, (g.sheet j).isSome) →
           exec (.addSheet p) s = .next (g.finish p tag (Answer.refuse .tableFull)))) ∧
     (s.served p (.dropSheet i) tag = some g → g.sheet i = none →
       exec (.dropSheet p) s = .next (g.finish p tag (Answer.refuse .badIndex))) ∧
     (s.served p (.approveSheet i k) tag = some g → g.sheet i = none →
       exec (.approveSheet p) s = .next (g.finish p tag (Answer.refuse .badIndex))) ∧
     (s.served p (.unlockSheet i) tag = some g → g.sheet i = none →
       exec (.unlockSheet p) s = .next (g.finish p tag (Answer.refuse .badIndex)))) ∧
  (∀ (s g : State) (p : Port) (tag i k role status : Nat) (x y : Str) (portrait : Option Nat),
     (s.served p (.addEntry k x y role status portrait) tag = some g →
       (g.sec k = none → exec (.addEntry p) s = .next (g.finish p tag (Answer.refuse .badIndex))) ∧
       ∀ c, g.sec k = some c →
         (3 ≤ role ∨ 3 ≤ status ∨ nameFits x y = false →
           exec (.addEntry p) s = .next (g.finish p tag (Answer.refuse .badForm))) ∧
         (role < 3 → status < 3 → nameFits x y = true →
           (g.portraitUsable portrait = false →
             exec (.addEntry p) s = .next (g.finish p tag (Answer.refuse .badIndex))) ∧
           (g.portraitUsable portrait = true → 256 ≤ c.roster.length →
             exec (.addEntry p) s = .next (g.finish p tag (Answer.refuse .listFull))) ∧
           (g.portraitUsable portrait = true → c.roster.length < 256 → (∀ j < 3072, (g.entry j).isSome) →
             exec (.addEntry p) s = .next (g.finish p tag (Answer.refuse .tableFull))))) ∧
     (nameFits x y = true ↔ x ≠ [] ∧ (∀ c ∈ x, c < 95) ∧ ∀ c ∈ y, c < 95) ∧
     (g.portraitUsable portrait = true ↔ ∀ q, portrait = some q → q < 3072 ∧ (g.portrait q).state ≠ .free) ∧
     (s.served p (.dropEntry i) tag = some g → g.entry i = none →
       exec (.dropEntry p) s = .next (g.finish p tag (Answer.refuse .badIndex))) ∧
     (s.served p (.editName i x y) tag = some g →
       (g.entry i = none → exec (.editEntryName p) s = .next (g.finish p tag (Answer.refuse .badIndex))) ∧
       ((g.entry i).isSome → nameFits x y = false →
         exec (.editEntryName p) s = .next (g.finish p tag (Answer.refuse .badForm)))) ∧
     (s.served p (.editRole i role) tag = some g →
       (g.entry i = none → exec (.editEntryRole p) s = .next (g.finish p tag (Answer.refuse .badIndex))) ∧
       ((g.entry i).isSome → 3 ≤ role → exec (.editEntryRole p) s = .next (g.finish p tag (Answer.refuse .badForm)))) ∧
     (s.served p (.editStatus i status) tag = some g →
       (g.entry i = none → exec (.editEntryStatus p) s = .next (g.finish p tag (Answer.refuse .badIndex))) ∧
       ((g.entry i).isSome → 3 ≤ status →
         exec (.editEntryStatus p) s = .next (g.finish p tag (Answer.refuse .badForm)))) ∧
     (s.served p (.editPortrait i portrait) tag = some g → g.entry i = none ∨ g.portraitUsable portrait = false →
       exec (.editEntryPortrait p) s = .next (g.finish p tag (Answer.refuse .badIndex))) ∧
     (s.served p (.moveEntry i k) tag = some g →
       g.entry i = none ∨ g.sec k = none ∨
           (∃ e c d, g.entry i = some e ∧ g.sec k = some c ∧ g.sec e.section_ = some d ∧ c.book ≠ d.book) →
         exec (.moveEntry p) s = .next (g.finish p tag (Answer.refuse .badIndex))) ∧
     (s.served p (.swapPortraits i k) tag = some g → g.entry i = none ∨ g.entry k = none →
       exec (.swapPortraits p) s = .next (g.finish p tag (Answer.refuse .badIndex))))

/-- SET LAYOUT checks the record before anything else and refuses with BAD_LAYOUT exactly when a flag byte is no flag, a field
is outside its range, or one of the sums, row counts or heights of R14 does not hold (R14). -/
def Obligations.SetLayoutRefusesABadRecord : Prop :=
  ∀ (s g : State) (p : Port) (tag i : Nat) (l : Layout) (flagsFit : Bool),
    s.served p (.setLayout i l flagsFit) tag = some g →
    ((flagsFit = false ∨ l.inRange = false ∨ l.sheetWidth < l.bodyLeft + l.bodyWidth ∨
        l.sheetHeight < l.bodyTop + l.bodyHeight ∨
        l.bodyWidth < l.columns * l.cellWidth + (l.columns - 1) * l.gutterAcross ∨ l.rowsMax < 1 ∨
        (l.featureFirst = true ∧ (l.columns < 3 ∨ l.rowsMax < 2)) ∨ l.cellHeight < l.headHeight ∨ l.cellHeight ≤ l.eyeRow ∨
        (0 < l.captionHeight ∧ l.captionHeight < l.lineHeight)) ↔
      ¬(flagsFit = true ∧ l.valid = true)) ∧
    (¬(flagsFit = true ∧ l.valid = true) → exec (.setLayout p) s = .next (g.finish p tag (Answer.refuse .badLayout))) ∧
    (flagsFit = true → l.valid = true → g.sheet i = none →
      exec (.setLayout p) s = .next (g.finish p tag (Answer.refuse .badIndex)))

/-- The change guard judges a set in two passes over the folio order (R46, R47): a locked sheet of the set refuses with LOCKED
and the first such sheet, whatever is IN_PRESS; with none locked an IN_PRESS sheet refuses with IN_PRESS; otherwise it
accepts. The change set is every sheet of the folio order whose inputs before and after differ (R32); that of an image change is
every sheet whose share holds a PRESENT entry that references the portrait (R44). A free slot and an UNLAID sheet have no inputs;
those of a laid sheet are the parts of R31: its layout, the entries of its share in order with their fields, the images of
the PRESENT ones, the footer with the folio of R16 and R17, and the book's settings. The overflow count and the LISTED names
are the last sheet's alone, the highest-positioned laid sheet (R10, R30); that the count tells the last sheet from the others
even at 0 is the model's reading (assumption 44). The tile sequence and the LISTED names are the roster's by status and book
policy (R29, R30). -/
def Obligations.TheGuardRefusesLockedBeforeInPress : Prop :=
  ∀ (g : State) (set : List Nat),
    (guard g set = none ↔ ∀ i ∈ set, i ∈ g.folioOrder → g.isLocked i = false ∧ g.isInPress i = false) ∧
    (∀ before i after, g.folioOrder = before ++ i :: after → i ∈ set → g.isLocked i = true →
      (∀ x ∈ before, x ∈ set → g.isLocked x = false) → guard g set = some (.locked, i)) ∧
    (∀ before i after, g.folioOrder = before ++ i :: after → i ∈ set → g.isInPress i = true →
      (∀ x ∈ g.folioOrder, x ∈ set → g.isLocked x = false) → (∀ x ∈ before, x ∈ set → g.isInPress x = false) →
      guard g set = some (.inPress, i)) ∧
    (∀ (after : State) (i : Nat), i ∈ changeSet g after ↔ i ∈ after.folioOrder ∧ g.inputs i ≠ after.inputs i) ∧
    (∀ i q : Nat, i ∈ g.imageSet q ↔ i ∈ g.folioOrder ∧
      ∃ inp t, g.inputs i = some inp ∧ t ∈ inp.tiles ∧ t.status = .present ∧ t.portrait = some q) ∧
    (∀ i : Nat, (∀ sh, g.sheet i = some sh → sh.layout = none) → g.inputs i = none) ∧
    (∀ (i : Nat) (sh : Sheet) (l : Layout) (c : Section) (b : Book), g.sheet i = some sh → sh.layout = some l →
      g.sec sh.section_ = some c → g.book c.book = some b →
      (∃ inp, g.inputs i = some inp ∧ inp.layout = l ∧ inp.tiles.map (·.id) = g.shareOf b c i ∧
        (∀ t ∈ inp.tiles, ∃ e, g.entry t.id = some e ∧
          t = { id := t.id, surname := e.surname, given := e.given, role := e.role, status := e.status, portrait := e.portrait }) ∧
        inp.images = inp.tiles.map (fun t =>
          if t.status = .present then
            t.portrait.bind (fun q => (g.portrait q).current.map (fun m =>
              { width := m.width, height := m.height, face := m.face, generation := m.generation }))
          else none) ∧
        (g.lastSheet c = some i → inp.overflow = some (g.overflowOf b c) ∧
          ∃ listed : List Nat, listed.Sublist c.roster ∧
            (∀ j, j ∈ listed ↔ j ∈ c.roster ∧ ∃ e, g.entry j = some e ∧ e.status = .absent ∧ b.absent = .list) ∧
            inp.listed = listed.filterMap (fun j => (g.entry j).map (fun e => (e.given, e.surname)))) ∧
        (g.lastSheet c ≠ some i → inp.overflow = none ∧ inp.listed = []) ∧
        inp.footer = b.label ++ [0, 5, 0] ++ c.label ++ [0, 5, 0] ++ decimal (g.folioOf b i) ∧
        inp.absent = b.absent ∧ inp.withheld = b.withheld ∧ inp.tolerance = b.tolerance ∧ inp.holdOnDrift = b.holdOnDrift) ∧
      (∀ before after, g.bookSheets b = before ++ i :: after → i ∉ before → g.folioOf b i = b.firstFolio + before.length) ∧
      (∀ k before after, c.sheets = before ++ k :: after → g.laid k = true → (∀ x ∈ after, g.laid x = false) →
        g.lastSheet c = some k) ∧
      (g.tileSequence b c).Sublist c.roster ∧
      ∀ j, j ∈ g.tileSequence b c ↔ j ∈ c.roster ∧ ∃ e, g.entry j = some e ∧
        (e.status = .present ∨ e.status = .absent ∧ b.absent = .silhouette ∨ e.status = .withheld ∧ b.withheld = .silhouette))

/-- Staling one sheet, by its state (R18): the epoch moves by one with wrap, and a sheet that held a result, was being placed,
or has just got its first layout enters STALE without result or hold reason at the queue tail; a STALE sheet keeps its place.
Staling a set changes nothing but its sheets' records, their epochs and the queue, and keeps each sheet's lock, print count,
layout and job (R18). -/
def Obligations.StalingFollowsTheSheetState : Prop :=
  (∀ (s : State) (i : Nat) (sh : Sheet), s.sheet i = some sh →
     (sh.state = .placed ∨ sh.state = .held ∨ sh.state = .placing →
       (s.staleOne i).sheet i = some { sh with state := .stale, result := none, hold := none } ∧
         (s.staleOne i).queue = s.queue ++ [i] ∧ (s.staleOne i).epoch i = s.epoch i + 1) ∧
     (sh.state = .stale →
       (s.staleOne i).sheet i = some sh ∧ (s.staleOne i).queue = s.queue ∧ (s.staleOne i).epoch i = s.epoch i + 1) ∧
     (sh.state = .unlaid → sh.layout.isSome →
       (s.staleOne i).sheet i = some { sh with state := .stale } ∧ (s.staleOne i).queue = s.queue ++ [i] ∧
         (s.staleOne i).epoch i = s.epoch i + 1) ∧
     (sh.state = .unlaid → sh.layout = none → s.staleOne i = s)) ∧
  (∀ (s : State) (set : List Nat),
     { s.staleAll set with sheets := s.sheets, epochs := s.epochs, queue := s.queue } = s ∧
     (∀ j, j ∉ set → (s.staleAll set).sheet j = s.sheet j ∧ (s.staleAll set).epoch j = s.epoch j) ∧
     (∀ j sh, s.sheet j = some sh → ∃ sh', (s.staleAll set).sheet j = some sh' ∧ sh'.lock = sh.lock ∧
       sh'.printCount = sh.printCount ∧ sh'.job = sh.job ∧ sh'.layout = sh.layout ∧ sh'.section_ = sh.section_) ∧
     (∃ tail : List Nat, (s.staleAll set).queue = s.queue ++ tail ∧ tail.Sublist set))

/-! ### Rosters -/

/-- Collation is a strict total order of entries under their ids (R27): no two entries with different ids compare equal, the
reverse comparison is the reverse, and "sorts first" is transitive. An entry joins a roster that is in strict collation order
at the one index that keeps it so, and no other entry changes its order (R28). -/
def Obligations.CollationKeepsRostersInStrictOrder : Prop :=
  ((∀ i e j f, collate i e j f = .eq → i = j) ∧
     (∀ i e j f, collate i e j f = .lt ↔ collate j f i e = .gt) ∧
     (∀ i e j f k h, collate i e j f = .lt → collate j f k h = .lt → collate i e k h = .lt)) ∧
  (∀ (entry : Nat → Option Entry) (i : Nat) (e : Entry) (l : List Nat), i ∉ l → (∀ j ∈ l, (entry j).isSome) → entry i = some e →
     l.Pairwise (fun a b => ∃ x y, entry a = some x ∧ entry b = some y ∧ collate a x b y = .lt) →
     (rosterInsert entry i e l).Pairwise (fun a b => ∃ x y, entry a = some x ∧ entry b = some y ∧ collate a x b y = .lt) ∧
       ∃ before after, l = before ++ after ∧ rosterInsert entry i e l = before ++ i :: after)

/-- ADD ENTRY, DROP ENTRY and MOVE ENTRY under the change guard (R34, R35, R41): the entry's record, its place in the rosters
by collation, and its portrait's use count. A move within its own section changes nothing. -/
def Obligations.RosterChangesPassTheGuard : Prop :=
  ∀ (s g : State) (p : Port) (tag i k : Nat),
    (∀ (surname given : Str) (role status : Nat) (portrait : Option Nat) (c : Section) (r : Role) (st : EntryStatus),
      s.served p (.addEntry k surname given role status portrait) tag = some g → g.sec k = some c →
      roleOf role = some r → entryStatusOf status = some st → surname ≠ [] → (∀ x ∈ surname, x < 95) → (∀ x ∈ given, x < 95) →
      (∀ q, portrait = some q → q < 3072 ∧ (g.portrait q).state ≠ .free) → c.roster.length < 256 →
      isLowestFree 3072 g.entries i →
      guarded (.addEntry p) s g
        (((g.setEntry i (some
            { section_ := k, surname := surname.take 24, given := given.take 24, role := r, status := st
              portrait := portrait })).joinRoster k i
            { section_ := k, surname := surname.take 24, given := given.take 24, role := r, status := st
              portrait := portrait }).useUp portrait) p tag
        (Answer.done (decide (24 < surname.length ∨ 24 < given.length)) (byte2 i))) ∧
    (∀ e, s.served p (.dropEntry i) tag = some g → g.entry i = some e →
      guarded (.dropEntry p) s g ((g.leaveRoster e.section_ i).freeEntry i) p tag Answer.ok) ∧
    (∀ e own target, s.served p (.moveEntry i k) tag = some g → g.entry i = some e → g.sec k = some target →
      g.sec e.section_ = some own → target.book = own.book →
      (k = e.section_ → exec (.moveEntry p) s = .next (g.finish p tag Answer.ok)) ∧
      (k ≠ e.section_ → 256 ≤ target.roster.length →
        exec (.moveEntry p) s = .next (g.finish p tag (Answer.refuse .listFull))) ∧
      (k ≠ e.section_ → target.roster.length < 256 →
        guarded (.moveEntry p) s g
          (((g.leaveRoster e.section_ i).setEntry i (some { e with section_ := k })).joinRoster k i { e with section_ := k }) p
          tag Answer.ok))

/-- The four EDIT ENTRY requests and SWAP PORTRAITS (R36 to R40, R42): values equal to the stored ones change nothing;
otherwise the entry's record changes under the change guard, re-placed in its roster by a name or a role, with the use counts
moved by a portrait and by no swap. -/
def Obligations.EntryEditsPassTheGuard : Prop :=
  ∀ (s g : State) (p : Port) (tag i j : Nat) (e : Entry), g.entry i = some e →
    (∀ surname given, s.served p (.editName i surname given) tag = some g → surname ≠ [] → (∀ x ∈ surname, x < 95) →
      (∀ x ∈ given, x < 95) →
      (e.surname = surname.take 24 → e.given = given.take 24 → exec (.editEntryName p) s =
        .next (g.finish p tag (Answer.done (decide (24 < surname.length ∨ 24 < given.length)) []))) ∧
      (¬(e.surname = surname.take 24 ∧ e.given = given.take 24) →
        guarded (.editEntryName p) s g
          (g.rewriteEntry i { e with surname := surname.take 24, given := given.take 24 }) p tag
          (Answer.done (decide (24 < surname.length ∨ 24 < given.length)) []))) ∧
    (∀ role r, s.served p (.editRole i role) tag = some g → roleOf role = some r →
      (e.role = r → exec (.editEntryRole p) s = .next (g.finish p tag Answer.ok)) ∧
      (e.role ≠ r → guarded (.editEntryRole p) s g (g.rewriteEntry i { e with role := r }) p tag Answer.ok)) ∧
    (∀ status st, s.served p (.editStatus i status) tag = some g → entryStatusOf status = some st →
      (e.status = st → exec (.editEntryStatus p) s = .next (g.finish p tag Answer.ok)) ∧
      (e.status ≠ st → guarded (.editEntryStatus p) s g (g.setEntry i (some { e with status := st })) p tag Answer.ok)) ∧
    (∀ portrait, s.served p (.editPortrait i portrait) tag = some g →
      (∀ q, portrait = some q → q < 3072 ∧ (g.portrait q).state ≠ .free) →
      (e.portrait = portrait → exec (.editEntryPortrait p) s = .next (g.finish p tag Answer.ok)) ∧
      (e.portrait ≠ portrait → guarded (.editEntryPortrait p) s g
        (((g.useDown e.portrait).useUp portrait).setEntry i (some { e with portrait := portrait })) p tag Answer.ok)) ∧
    (∀ f, s.served p (.swapPortraits i j) tag = some g → g.entry j = some f →
      (i = j → exec (.swapPortraits p) s = .next (g.finish p tag (Answer.refuse .badForm))) ∧
      (i ≠ j → e.portrait = f.portrait → exec (.swapPortraits p) s = .next (g.finish p tag Answer.ok)) ∧
      (i ≠ j → e.portrait ≠ f.portrait → guarded (.swapPortraits p) s g
        ((g.setEntry i (some { e with portrait := f.portrait })).setEntry j (some { f with portrait := e.portrait })) p tag
        Answer.ok))

/-! ### Portraits and the image port -/

/-- APPROVE SHEET locks a PLACED sheet whose epoch is the one named and raises the lock count of each distinct portrait of its
PORTRAIT tiles once; a locked sheet is answered DONE with no change, with empty data by assumption 28; another state or epoch
draws NOT_ELIGIBLE (R52, R54). UNLOCK SHEET clears the lock, lowers those counts, and then examines those portraits for
promotion (R53, R56). Examining makes each portrait with a pending image and both counts 0 promote (R77): the pending image
becomes current with its blocks, the old current image's blocks go back to the pool, PORTRAIT_PROMOTED is latched everywhere,
and the sheets that show any promoted portrait are staled in folio order, each once for the whole event (assumption 49); any
other portrait is left. -/
def Obligations.ApprovalLocksTheSheetAndItsPortraits : Prop :=
  (∀ (s g : State) (p : Port) (tag i epoch : Nat) (sh : Sheet), g.sheet i = some sh →
     (s.served p (.approveSheet i epoch) tag = some g →
       (sh.state ≠ .placed ∨ (g.epoch i).toNat ≠ epoch →
         exec (.approveSheet p) s = .next (g.finish p tag (Answer.refuse .notEligible))) ∧
       (sh.state = .placed → (g.epoch i).toNat = epoch → sh.lock = true →
         exec (.approveSheet p) s = .next (g.finish p tag Answer.ok)) ∧
       (sh.state = .placed → (g.epoch i).toNat = epoch → sh.lock = false → ∃ t : State,
         exec (.approveSheet p) s = .next (t.finish p tag (Answer.done false (byte2 sh.shown.length))) ∧
         t.sheet i = some { sh with lock := true } ∧ (∀ j, j ≠ i → t.sheet j = g.sheet j) ∧
         (∀ q, t.portrait q = if q ∈ sh.pins then { g.portrait q with lockCount := (g.portrait q).lockCount + 1 }
           else g.portrait q) ∧
         { t with sheets := g.sheets, portraits := g.portraits } = g)) ∧
     (s.served p (.unlockSheet i) tag = some g →
       (sh.lock = false → exec (.unlockSheet p) s = .next (g.finish p tag Answer.ok)) ∧
       (sh.lock = true → ∃ t : State,
         exec (.unlockSheet p) s = .next ((t.examine sh.shown).finish p tag Answer.ok) ∧
         t.sheet i = some { sh with lock := false } ∧ (∀ j, j ≠ i → t.sheet j = g.sheet j) ∧
         (∀ q, t.portrait q = if q ∈ sh.pins then { g.portrait q with lockCount := (g.portrait q).lockCount - 1 }
           else g.portrait q) ∧
         { t with sheets := g.sheets, portraits := g.portraits } = g)) ∧
     sh.shown.Nodup ∧ ∀ q, q ∈ sh.shown ↔ q ∈ sh.pins) ∧
  (∀ (s : State) (ps set : List Nat), ps.Nodup →
     set = s.folioOrder.filter (fun i => ps.any (fun q => s.promotes q && (s.imageSet q).contains i)) →
     (∀ q, (s.examine ps).portrait q =
       if q ∈ ps ∧ s.promotes q = true then
         { s.portrait q with current := (s.portrait q).pendingImage, pendingImage := none }
       else s.portrait q) ∧
     (s.examine ps).sheets = (s.staleAll set).sheets ∧ (s.examine ps).queue = (s.staleAll set).queue ∧
     (s.examine ps).epochs = (s.staleAll set).epochs ∧
     { s.examine ps with
        portraits := s.portraits, pool := s.pool, ports := s.ports, sheets := s.sheets, queue := s.queue
        epochs := s.epochs } = s) ∧
  (∀ (s : State) (i : Nat),
     (s.promotes i = true ↔
       (s.portrait i).pendingImage.isSome ∧ (s.portrait i).pinCount = 0 ∧ (s.portrait i).lockCount = 0) ∧
     (s.promotes i = false → s.examine [i] = s) ∧
     (s.promotes i = true → s.examine [i] = (s.promoteOne i).staleAll (s.imageSet i)) ∧
     (s.promoteOne i).portrait i =
       { s.portrait i with current := (s.portrait i).pendingImage, pendingImage := none } ∧
     (∀ j, j ≠ i → (s.promoteOne i).portrait j = s.portrait j) ∧
     (s.promoteOne i).pool.freeCount = s.pool.freeCount + (s.pool.blocksOf (.current i)).length ∧
     (s.promoteOne i).pool.blocksOf (.current i) = s.pool.blocksOf (.pending i) ∧
     (s.promoteOne i).pool.blocksOf (.pending i) = [] ∧
     (∀ a, (s.promoteOne i).pool.readByte a = s.pool.readByte a) ∧
     (∀ p, ((s.promoteOne i).port p).notices =
       ((s.port p).latch .portraitPromoted (.portrait (some i))).notices))

/-- RESERVE PORTRAIT, RELEASE PORTRAIT and SET FACE BOX (R63, R64, R65), each with its refusals in order and its effect; the
change guard judges SET FACE BOX by the sheets that show the portrait, and a refusal moves nothing (R44, R47). -/
def Obligations.PortraitRequestsFollowTheirRules : Prop :=
  ∀ (s g : State) (p : Port) (tag i : Nat),
    (s.served p (.reservePortrait i) tag = some g →
      (3072 ≤ i → exec (.reservePortrait p) s = .next (g.finish p tag (Answer.refuse .badIndex))) ∧
      (i < 3072 → (g.portrait i).state ≠ .free →
        exec (.reservePortrait p) s = .next (g.finish p tag (Answer.refuse .inUse))) ∧
      (i < 3072 → (g.portrait i).state = .free →
        exec (.reservePortrait p) s = .next
          ((g.setPortrait i { g.portrait i with state := .empty, current := none, pendingImage := none }).finish p tag
            (Answer.done false (byte1 (g.portrait i).generation))))) ∧
    (s.served p (.releasePortrait i) tag = some g →
      (3072 ≤ i ∨ (g.portrait i).state = .free →
        exec (.releasePortrait p) s = .next (g.finish p tag (Answer.refuse .badIndex))) ∧
      (i < 3072 → (g.portrait i).state ≠ .free → 0 < (g.portrait i).useCount ∨ g.isLoadTarget i = true →
        exec (.releasePortrait p) s = .next (g.finish p tag (Answer.refuse .inUse))) ∧
      (i < 3072 → (g.portrait i).state ≠ .free → (g.portrait i).useCount = 0 → g.isLoadTarget i = false →
        exec (.releasePortrait p) s = .next
          ((({ g with pool := g.pool.giveBack (.current i) } : State).setPortrait i
            { g.portrait i with state := .free, current := none, pendingImage := none }).finish p tag
            (Answer.done false (byte2 (g.pool.blocksOf (.current i)).length))))) ∧
    (∀ face, s.served p (.setFaceBox i face) tag = some g →
      (3072 ≤ i ∨ (g.portrait i).state = .free →
        exec (.setFaceBox p) s = .next (g.finish p tag (Answer.refuse .badIndex))) ∧
      (i < 3072 → (g.portrait i).state ≠ .free →
        ((g.portrait i).current = none →
          exec (.setFaceBox p) s = .next (g.finish p tag (Answer.refuse .notEligible))) ∧
        ∀ m, (g.portrait i).current = some m →
          (faceFits m.width m.height face = false →
            exec (.setFaceBox p) s = .next (g.finish p tag (Answer.refuse .badFace))) ∧
          (faceFits m.width m.height face = true → 0 < (g.portrait i).lockCount →
            exec (.setFaceBox p) s = .next (g.finish p tag (Answer.refuse .frozen))) ∧
          (faceFits m.width m.height face = true → (g.portrait i).lockCount = 0 → m.face = face →
            exec (.setFaceBox p) s = .next (g.finish p tag Answer.ok)) ∧
          (∀ r j, faceFits m.width m.height face = true → (g.portrait i).lockCount = 0 → m.face ≠ face →
            guard g (g.imageSet i) = some (r, j) →
            exec (.setFaceBox p) s = .next (g.finish p tag (Answer.refuseAt r j))) ∧
          (faceFits m.width m.height face = true → (g.portrait i).lockCount = 0 → m.face ≠ face →
            (∀ j ∈ g.imageSet i, g.isLocked j = false ∧ g.isInPress j = false) →
            exec (.setFaceBox p) s = .next
              (((g.setPortrait i { g.portrait i with current := some { m with face := face } }).staleAll
                (g.imageSet i)).finish p tag Answer.ok))))

/-- A header transfer at an IDLE port waits for its grant, or is refused with BAD_FORM and LOAD_REFUSED latched when it fails
its form; in any other state it is answered BUSY (R68, R69, R192). That a malformed header names no slot is assumption 27. A
transfer whose first word names payload, an end mark or ABORT does what those rows do (R192, assumption 47); payload outside
RECEIVING is discarded (R70). The grant of a waiting header judges four checks in order (R69): the slot, the size and face box,
the locks, and the free blocks; the first that fails refuses with BAD_INDEX, BAD_FACE, FROZEN or POOL_FULL, the port back in
IDLE and LOAD_REFUSED latched with the slot. Otherwise its blocks, the lowest-numbered free ones, are reserved for the inbound
load, the port is RECEIVING and the load timer stands at 2000 ms. The engine is FREE afterwards. -/
def Obligations.HeadersReserveOrRefuse : Prop :=
  (∀ (s : State) (words : List Word32),
     (∀ h, s.image.state = .idle → headerOf words = some h →
       exec (.imageHeader words) s = .next { s with image := { s.image with state := .headerWait, header := some h } }) ∧
     (s.image.state = .idle → headerOf words = none → transferKind words ∉ [2, 3, 4] →
       exec (.imageHeader words) s = .next (s.imageRefuseLatch .badForm none)) ∧
     (s.image.state ≠ .idle → transferKind words ∉ [2, 3, 4] → exec (.imageHeader words) s = .next s.imageBusy) ∧
     (words.length ≠ 4 → headerOf words = none) ∧
     (transferKind words = 2 → exec (.imageHeader words) s = exec (.imagePayload (transferCount words) words.tail) s) ∧
     (∀ w check ws, words = w :: check :: ws → transferKind words = 3 →
       exec (.imageHeader words) s = exec (.imageEndMark check) s) ∧
     (transferKind words = 4 → exec (.imageHeader words) s = exec .imageAbort s) ∧
     (s.image.state ≠ .receiving → ∀ count, exec (.imagePayload count words) s = .next s)) ∧
  (∀ w0 w1 w2 w3 : Word32,
     transferKind [w0, w1, w2, w3] = w0.toNat / 268435456 ∧ transferCount [w0, w1, w2, w3] = w0.toNat % 268435456 ∧
     headerOf [w0, w1, w2, w3] =
       if w0.toNat / 4096 = 65536 then
         some
           { slot := w0.toNat % 4096, width := w1.toNat / 65536, height := w1.toNat % 65536
             face := { crown := w2.toNat / 65536, eye := w2.toNat % 65536, chin := w3.toNat / 65536
                       centre := w3.toNat % 65536 } }
       else none) ∧
  (∀ (u : State) (r : Reason) (slot : Option Nat),
     (u.imageRefuseLatch r slot).image = { u.image with
       reply := some { status := .refused, reason := some r, outcome := .none, value := none
                       freeCount := u.pool.freeCount } } ∧
     (u.imageRefuseLatch r slot).counters = (u.raise 6 1).counters ∧
     (∀ p, (tabFind ((u.imageRefuseLatch r slot).port p).notices 10).map (·.subject) = some (.portrait slot)) ∧
     { u.imageRefuseLatch r slot with image := u.image, counters := u.counters, ports := u.ports } = u) ∧
  (∀ (s g : State) (h : LoadHeader) (good : Prop) (n : Nat), s.image.state = .headerWait → s.image.header = some h →
     s.grantImage = some g → n = (h.width * h.height * 3 + 65535) / 65536 →
     good = (64 ≤ h.width ∧ h.width ≤ 2048 ∧ 64 ≤ h.height ∧ h.height ≤ 2560 ∧ h.face.crown < h.face.eye ∧
       h.face.eye < h.face.chin ∧ h.face.chin < h.height ∧ h.face.crown + 16 ≤ h.face.chin ∧ h.face.centre < h.width) →
     (3072 ≤ h.slot ∨ (s.portrait h.slot).state = .free →
       exec .imageHeaderGrant s = .next ((g.imageIdle.imageRefuseLatch .badIndex (some h.slot)).freeEngine)) ∧
     (h.slot < 3072 → (s.portrait h.slot).state ≠ .free →
       (¬good → exec .imageHeaderGrant s = .next ((g.imageIdle.imageRefuseLatch .badFace (some h.slot)).freeEngine)) ∧
       (good → 0 < (s.portrait h.slot).lockCount →
         exec .imageHeaderGrant s = .next ((g.imageIdle.imageRefuseLatch .frozen (some h.slot)).freeEngine)) ∧
       (good → (s.portrait h.slot).lockCount = 0 → s.pool.freeCount < n →
         exec .imageHeaderGrant s = .next ((g.imageIdle.imageRefuseLatch .poolFull (some h.slot)).freeEngine)) ∧
       (good → (s.portrait h.slot).lockCount = 0 → n ≤ s.pool.freeCount →
         ∃ t : State, exec .imageHeaderGrant s = .next t ∧
           t.image.state = .receiving ∧ t.image.header = none ∧ t.image.timer = some 2000 ∧
           t.image.load =
             some { header := h, blockCount := n, blocks := s.pool.lowestFree n, received := 0, check := crc32Init } ∧
           t.image.reply =
             some { status := .done, reason := none, outcome := .none, value := some n, freeCount := s.pool.freeCount - n } ∧
           t.pool = s.pool.reserve n ∧ t.arbiter.engine = none ∧
           { t with image := s.image, pool := s.pool, arbiter := s.arbiter } = s)))

/-- Payload bytes (R70): counted, and carried into the running check; byte k of the image is stored at its place in the
reserved blocks, those beyond the image are not stored, and every other byte of the pool reads as before. The bytes are those
that the transfer brings: that a byte count above them counts them alone is the model's choice (assumption 52), and so is the
order of the pixels in the payload (assumption 9). -/
def Obligations.PayloadBytesFillTheReservedBlocks : Prop :=
  ∀ (s : State) (count : Nat) (words : List Word32) (r : LoadRecord), s.image.state = .receiving → s.image.load = some r →
    ∃ t : State, exec (.imagePayload count words) s = .next t ∧
      t.image = { s.image with load := some { r with
        received := r.received + (payloadBytes count words).length, check := crc32From r.check (payloadBytes count words) } } ∧
      { t with image := s.image, pool := s.pool } = s ∧
      t.pool.freeCount = s.pool.freeCount ∧ t.pool.owned = s.pool.owned ∧
      (r.blocks.Nodup → r.header.width * r.header.height * 3 ≤ 65536 * r.blocks.length →
        ∀ k b, (payloadBytes count words)[k]? = some b → r.received + k < r.header.width * r.header.height * 3 →
          t.pool.readByte (imageAddress r.blocks (r.received + k)) = b) ∧
      (∀ a, (∀ k, k < (payloadBytes count words).length → r.received + k < r.header.width * r.header.height * 3 →
          imageAddress r.blocks (r.received + k) ≠ a) → t.pool.readByte a = s.pool.readByte a)

/-- An end mark (R68, R71): in RECEIVING the byte count is judged before the check; a bad one drops the load with its reason,
a good one waits in END_WAIT with the load timer stopped; in END_WAIT it is answered BUSY, elsewhere refused with BAD_FORM.
The grant of a waiting end mark (R72 to R74): FROZEN for a locked target; with no pin, IN_PRESS when a sheet that shows the
portrait is in press, else the image commits: it is current, READY, with the next generation, its sheets are staled in folio
order (R18, R44), PORTRAIT_COMMITTED is latched everywhere and the reply says COMMITTED with the generation; with a pin it
becomes the pending image, the reply says PENDING, and no sheet is staled. -/
def Obligations.EndMarksCommitPendOrRefuse : Prop :=
  (∀ (s : State) (check : Word32),
     (∀ r, s.image.state = .receiving → s.image.load = some r →
       (r.received ≠ r.header.width * r.header.height * 3 →
         exec (.imageEndMark check) s = .next (s.dropLoad.imageRefuseLatch .badForm (some r.header.slot))) ∧
       (r.received = r.header.width * r.header.height * 3 → check ≠ r.check →
         exec (.imageEndMark check) s = .next (s.dropLoad.imageRefuseLatch .badCheck (some r.header.slot))) ∧
       (r.received = r.header.width * r.header.height * 3 → check = r.check →
         exec (.imageEndMark check) s = .next { s with image := { s.image with state := .endWait, timer := none } })) ∧
     (s.image.state = .endWait → exec (.imageEndMark check) s = .next s.imageBusy) ∧
     (s.image.state = .idle ∨ s.image.state = .headerWait →
       exec (.imageEndMark check) s = .next (s.imageRefuse .badForm))) ∧
  (∀ (s g : State) (r : LoadRecord) (i gen : Nat), s.image.state = .endWait → s.image.load = some r → s.grantImage = some g →
     r.header.slot = i → gen = ((s.portrait i).generation + 1) % 256 →
     (0 < (s.portrait i).lockCount → exec .imageEndMarkGrant s =
       .next ((g.dropLoad.imageRefuseLatch .frozen (some i)).freeEngine)) ∧
     ((s.portrait i).lockCount = 0 → (s.portrait i).pinCount = 0 → (∃ j ∈ s.imageSet i, s.isInPress j = true) →
       exec .imageEndMarkGrant s = .next ((g.dropLoad.imageRefuseLatch .inPress (some i)).freeEngine)) ∧
     ((s.portrait i).lockCount = 0 → (s.portrait i).pinCount = 0 → (∀ j ∈ s.imageSet i, s.isInPress j = false) →
       ∃ t : State, exec .imageEndMarkGrant s = .next t ∧
         t.portrait i = { s.portrait i with
           state := .ready, current := some (r.image gen), pendingImage := none, generation := gen } ∧
         (∀ j, j ≠ i → t.portrait j = s.portrait j) ∧
         t.pool = ((s.pool.giveBack (.current i)).giveBack (.pending i)).pass .inbound (.current i) ∧
         t.sheets = (s.staleAll (s.imageSet i)).sheets ∧ t.queue = (s.staleAll (s.imageSet i)).queue ∧
         t.epochs = (s.staleAll (s.imageSet i)).epochs ∧
         (∀ p, (tabFind (t.port p).notices 8).map (·.subject) = some (.portrait (some i))) ∧
         t.image = { state := .idle, header := none, load := none, timer := none
                     reply := some { status := .done, reason := none, outcome := .committed, value := some gen
                                     freeCount := t.pool.freeCount } } ∧
         t.arbiter.engine = none ∧ t.counters = (s.raise 6 0).counters ∧
         { t with
            portraits := s.portraits, pool := s.pool, sheets := s.sheets, queue := s.queue, epochs := s.epochs
            ports := s.ports, image := s.image, arbiter := s.arbiter, counters := s.counters } = s) ∧
     ((s.portrait i).lockCount = 0 → 0 < (s.portrait i).pinCount →
       ∃ t : State, exec .imageEndMarkGrant s = .next t ∧
         t.portrait i = { s.portrait i with pendingImage := some (r.image gen), generation := gen } ∧
         (∀ j, j ≠ i → t.portrait j = s.portrait j) ∧
         t.pool = (s.pool.giveBack (.pending i)).pass .inbound (.pending i) ∧
         t.image = { state := .idle, header := none, load := none, timer := none
                     reply := some { status := .done, reason := none, outcome := .pending, value := some gen
                                     freeCount := t.pool.freeCount } } ∧
         (∀ p n, n ≠ 11 → tabFind (t.port p).notices n = tabFind (s.port p).notices n) ∧
         t.arbiter.engine = none ∧ t.counters = (s.raise 6 0).counters ∧
         { t with
            portraits := s.portraits, pool := s.pool, ports := s.ports, image := s.image, arbiter := s.arbiter
            counters := s.counters } = s))

/-- ABORT answers in every state, and drops the load with its blocks and counts it where there is one (R75); the load timer in
RECEIVING drops the load with LOAD_REFUSED and no reply word (R76). That an expiry met outside RECEIVING changes nothing is the
model's choice (assumption 7). -/
def Obligations.AbortAndTimeoutDropTheLoad : Prop :=
  ∀ s : State,
    (s.image.state = .idle → exec .imageAbort s = .next (s.imageReply .done none .none none)) ∧
    (s.image.state ≠ .idle → ∃ t : State, exec .imageAbort s = .next t ∧
      t.image.state = .idle ∧ t.image.header = none ∧ t.image.load = none ∧ t.image.timer = none ∧
      t.image.reply = some { status := .done, reason := none, outcome := .dropped, value := none, freeCount := t.pool.freeCount } ∧
      t.pool = (if s.image.state = .headerWait then s.pool else s.pool.giveBack .inbound) ∧
      t.counters = (s.raise 6 2).counters ∧ t.portraits = s.portraits ∧ t.sheets = s.sheets) ∧
    (s.image.state = .receiving → ∃ t : State, exec .loadTimerExpiry s = .next t ∧
      t.image = { state := .idle, header := none, load := none, timer := none, reply := s.image.reply } ∧
      t.pool = s.pool.giveBack .inbound ∧ t.counters = (s.raise 6 2).counters ∧
      (∀ p, (tabFind (t.port p).notices 10).map (·.subject) = some (.portrait (s.image.load.map (·.header.slot)))) ∧
      t.portraits = s.portraits ∧ t.sheets = s.sheets) ∧
    (s.image.state ≠ .receiving → exec .loadTimerExpiry s = .next s)

/-! ### Placement -/

/-- The placement unit takes the sheet at the queue head while it is IDLE: the sheet enters PLACING and leaves the queue, and
the unit records its epoch and a copy of its inputs (R19, R79). A completion is accepted only for a PLACING sheet at the epoch
it carries (R20): with no hold reason the sheet is PLACED with the result and SHEET_PLACED latched everywhere; with one it is
HELD, SHEET_HELD is latched, and a RUN job that has not started is dropped (R123), with no other sheet and no other job moved;
any other completion changes nothing but the unit. After either, a proof may take the renderer at a copy boundary (R130; when
this is examined is assumption 10). -/
def Obligations.PlacementTakesAndPosts : Prop :=
  (∀ (s : State) (i : Nat) (q : List Nat) (sh : Sheet) (u : InProgress), s.placing = none → s.queue = i :: q →
     s.sheet i = some sh → s.copySheet i = some u →
     exec .placementTake s =
         .next { s.setSheet i (some { sh with state := .placing }) with queue := q, placing := some u } ∧
       u.sheet = i ∧ u.epoch = s.epoch i ∧ s.inputs i = some u.inputs) ∧
  (∀ (s : State) (u : InProgress), s.placing = some u →
     (∀ sh, s.sheet u.sheet = some sh → sh.state = .placing → s.epoch u.sheet = u.epoch → ∃ t : State,
       exec .placementCompletion s = .next t ∧ t.placing = none ∧ t.queue = s.queue ∧ t.epochs = s.epochs ∧
       (∀ i, i ≠ u.sheet → t.sheet i = s.sheet i) ∧
       (u.inputs.holdReason = none →
         t.sheet u.sheet = some { sh with state := .placed, result := some u.result, hold := none } ∧
         (∀ p, (tabFind (t.port p).notices 0).map (·.subject) = some (.sheet u.sheet)) ∧
         State.mayYield { s with placing := none, sheets := t.sheets, ports := t.ports } t) ∧
       (∀ r, u.inputs.holdReason = some r → (∀ j ∈ s.jobs, j.sheet = u.sheet → j.kind = .proof ∨ j.started = true) →
         t.sheet u.sheet = some { sh with state := .held, result := some u.result, hold := some r } ∧
         (∀ p, (tabFind (t.port p).notices 1).map (·.subject) = some (.sheet u.sheet)) ∧
         State.mayYield { s with placing := none, sheets := t.sheets, ports := t.ports } t) ∧
       (∀ r j, u.inputs.holdReason = some r → (∀ k ∈ s.jobs, k.sheet = u.sheet → k = j) → j ∈ s.jobs → j.sheet = u.sheet →
         j.kind = .run → j.started = false →
         t.sheet u.sheet = some { sh with state := .held, result := some u.result, hold := some r, job := none } ∧
         (∀ k ∈ t.jobs, k.tag ≠ j.tag) ∧
         (∀ p, (tabFind (t.port p).notices 1).map (·.subject) = some (.sheet u.sheet)) ∧
         (tabFind (t.port j.port).notices 4).map (·.subject) = some (.job j.tag) ∧
         State.mayYield { s with
           placing := none, sheets := t.sheets, ports := t.ports, jobs := s.jobs.filter (fun k => decide (k.tag ≠ j.tag)) } t)) ∧
     (s.sheet u.sheet = none ∨ (∃ sh, s.sheet u.sheet = some sh ∧ sh.state ≠ .placing) ∨ s.epoch u.sheet ≠ u.epoch →
       ∃ t : State, exec .placementCompletion s = .next t ∧ State.mayYield { s with placing := none } t ∧ t.placing = none ∧
         t.sheets = s.sheets ∧ t.ports = s.ports ∧ t.counters = s.counters ∧ t.queue = s.queue))

/-- The shares of a section's sheets, in position order, are successive runs of its tile sequence, and what is left over is
the overflow count (R82, R83, R84): no tile is placed twice or lost. -/
def Obligations.SharesDivideTheTileSequence : Prop :=
  ∀ (s : State) (b : Book) (c : Section), c.sheets.Nodup →
    (c.sheets.flatMap (s.shareOf b c)) ++
        (s.tileSequence b c).drop ((s.tileSequence b c).length - s.overflowOf b c) = s.tileSequence b c ∧
      (∀ i ∈ c.sheets, (s.shareOf b c i).length ≤ s.capacityOf i) ∧ (∀ i, s.capacityOf i ≤ 48)

/-- A window that is not padded lies inside its source image (R102 to R104), a padded axis has the source centred in the window
(R104), and the scale is within its clamps; a window whose scale was not clamped is never padded (R100, R101). Every caption
line is within its line capacity, with at most the lines available, and the CUT mark is set exactly when the elision mark was
written (R108 to R112), for names as they are stored. In a tile's area the capacity is 48 or what the width holds, the lines
stand within the caption height, and each is centred inside the area's width (R108, R113). The not-pictured lines of a sheet are
at most its list lines, and each stays within the body's width (R91, R114 to R116). -/
def Obligations.WindowsCaptionsAndListLinesFit : Prop :=
  (∀ i : FitInput,
    (i.w ≤ i.width → 0 ≤ i.x0 ∧ i.x0 + i.w ≤ i.width ∧ i.x0 = min (max i.rawX 0) ((i.width : Int) - i.w)) ∧
    (i.h ≤ i.height → 0 ≤ i.y0 ∧ i.y0 + i.h ≤ i.height ∧ i.y0 = min (max i.rawY 0) ((i.height : Int) - i.h)) ∧
    (i.width < i.w → i.x0 = -(((i.w : Int) - i.width) / 2) ∧ i.x0 ≤ 0 ∧ i.width ≤ i.x0 + i.w) ∧
    (i.height < i.h → i.y0 = -(((i.h : Int) - i.height) / 2) ∧ i.y0 ≤ 0 ∧ i.height ≤ i.y0 + i.h) ∧
    (i.flags.padded = false ↔ i.w ≤ i.width ∧ i.h ≤ i.height) ∧ 1024 ≤ i.scale ∧ i.scale ≤ 16384 ∧
    (i.flags.clamped = false → 0 < i.width → 0 < i.height →
      i.scale = max i.fitScale i.coverScale ∧ i.w ≤ i.width ∧ i.h ≤ i.height)) ∧
  (∀ (cap lines : Nat) (given surname : Str), 1 ≤ cap → 1 ≤ lines → lines ≤ 2 → surname ≠ [] →
     (∀ c ∈ given, c < 95) → (∀ c ∈ surname, c < 95) →
     (∀ l ∈ (captionForm cap lines given surname).1, l.length ≤ cap) ∧
     (captionForm cap lines given surname).1.length ≤ lines ∧ (captionForm cap lines given surname).1 ≠ [] ∧
     ((captionForm cap lines given surname).2 = true ↔ ∃ l ∈ (captionForm cap lines given surname).1, 95 ∈ l)) ∧
  (∀ (l : Layout) (width : Nat) (given surname : Str), 0 < l.advance → l.advance ≤ width → 0 < l.lineHeight → surname ≠ [] →
     (∀ c ∈ given, c < 95) → (∀ c ∈ surname, c < 95) →
     (l.captionHeight = 0 → captionOf l width given surname = ([], false)) ∧
     (l.lineHeight ≤ l.captionHeight →
       (captionOf l width given surname).1 ≠ [] ∧ (captionOf l width given surname).1.length ≤ 2 ∧
       (captionOf l width given surname).1.length * l.lineHeight ≤ l.captionHeight ∧
       (∀ c ∈ (captionOf l width given surname).1, c.text.length ≤ 48 ∧ c.x = (width - c.text.length * l.advance) / 2 ∧
         c.x + c.text.length * l.advance ≤ width) ∧
       ((captionOf l width given surname).2 = true ↔ ∃ c ∈ (captionOf l width given surname).1, 95 ∈ c.text) ∧
       ((fullName given surname).length ≤ min 48 (width / l.advance) →
         (captionOf l width given surname).1.map (·.text) = [fullName given surname]) ∧
       (min 48 (width / l.advance) < (fullName given surname).length → 2 * l.lineHeight ≤ l.captionHeight → given ≠ [] →
         given.length ≤ min 48 (width / l.advance) → surname.length ≤ min 48 (width / l.advance) →
         (captionOf l width given surname).1.map (·.text) = [given, surname]))) ∧
  (∀ (l : Layout) (listed : List (Str × Str)), listed.length ≤ 256 →
     (notPicturedLines l listed).length ≤ l.listLines ∧
       ∀ t ∈ notPicturedLines l listed, t.length ≤ l.bodyWidth / l.advance ∧ t.length * l.advance ≤ l.bodyWidth)

/-- On a layout that SET LAYOUT accepts, with no more tiles than its capacity (R14, R82): the grid uses no more than rows_max
rows (R87); each tile has the cell, the size and the place of R88 to R90; every tile with its caption strip lies inside the body
above the list strip, and no two overlap; and the tile records hold these (R94). The footer line stands inside the sheet,
centred, cut to what the sheet's width holds (R92). A band frame carries the fields of R140, its serial the one the band was
begun with (assumption 36), and the spans of R141, those of the
tiles with their captions first, then the list lines, then the footer: each span lies inside the band, its row offset is the
number of its item's rows above the band, and every item that crosses the band has its span (a portrait's is stated here where
its window lies inside its source). The payload is as long as the dots of the PORTRAIT spans, three bytes each, and the codes
of the text spans together. -/
def Obligations.GridFooterAndBandFramesFollowTheResult : Prop :=
  (∀ (l : Layout) (n i row col : Nat), l.valid = true → n ≤ l.capacity → i < n → l.cellOf n i = (row, col) →
     (l.featureActive n = true ↔ l.featureFirst = true ∧ 2 ≤ n) ∧
     (l.rowsUsed n : Int) ≤ l.rowsMax ∧ row < l.rowsUsed n ∧ col < l.columns ∧
     (l.featureActive n = false → row * l.columns + col = i ∧ (l.rowsUsed n - 1) * l.columns < n ∧
       n ≤ l.rowsUsed n * l.columns) ∧
     (l.featureActive n = true → 2 ≤ l.rowsUsed n ∧ n + 3 ≤ l.rowsUsed n * l.columns ∧
       (3 ≤ l.rowsUsed n → (l.rowsUsed n - 1) * l.columns < n + 3) ∧ (i = 0 → row = 0 ∧ col = 0) ∧
       (0 < i → (row < 2 → 2 ≤ col) ∧ row * l.columns + col = i + (if row = 0 then 1 else 3))) ∧
     (∀ k : Int, k = (if l.featureActive n then n + 3 else n : Nat) - ((l.rowsUsed n : Int) - 1) * l.columns →
       (l.shift n : Int) =
         if l.centreLast = true ∧ k < l.columns ∧ ¬(l.featureActive n = true ∧ l.rowsUsed n = 2) then
           ((l.columns : Int) - k) * (l.cellWidth + l.gutterAcross) / 2
         else 0) ∧
     l.areaX n i = l.bodyLeft + col * (l.cellWidth + l.gutterAcross) + (if row + 1 = l.rowsUsed n then l.shift n else 0) ∧
     l.areaY n i = l.bodyTop + row * (l.cellHeight + l.captionHeight + l.gutterDown) ∧
     l.bodyLeft ≤ l.areaX n i ∧ l.bodyTop ≤ l.areaY n i ∧
     l.areaX n i + l.areaWidth (l.isFeature n i) ≤ l.bodyLeft + l.bodyWidth ∧
     l.areaY n i + l.areaHeight (l.isFeature n i) + l.captionHeight + l.listLines * l.lineHeight ≤
       l.bodyTop + l.bodyHeight ∧
     ∀ j, i < j → j < n →
       l.areaX n i + l.areaWidth (l.isFeature n i) ≤ l.areaX n j ∨ l.areaX n j + l.areaWidth (l.isFeature n j) ≤ l.areaX n i ∨
         l.areaY n i + l.areaHeight (l.isFeature n i) + l.captionHeight ≤ l.areaY n j) ∧
  (∀ (inp : Inputs) (i : Nat) (t : Tile), inp.tileList[i]? = some t →
     (t.row, t.col) = inp.layout.cellOf inp.tiles.length i ∧ t.feature = inp.layout.isFeature inp.tiles.length i ∧
       t.x = inp.layout.areaX inp.tiles.length i ∧ t.y = inp.layout.areaY inp.tiles.length i ∧
       t.width = inp.layout.areaWidth t.feature ∧ t.height = inp.layout.areaHeight t.feature ∧
       (inp.tiles[i]?).map (·.id) = some t.entry) ∧
  (∀ (l : Layout) (footer : Str) (f : FooterLine), l.valid = true → l.footerLine footer = f →
     f.y + l.lineHeight ≤ l.sheetHeight ∧ f.x + f.text.length * l.advance ≤ l.sheetWidth ∧
     f.y = (if l.bodyTop + l.bodyHeight + l.lineHeight ≤ l.sheetHeight then l.bodyTop + l.bodyHeight
       else l.sheetHeight - l.lineHeight) ∧
     (footer.length ≤ l.sheetWidth / l.advance →
       f.text = footer ∧ f.cut = false ∧ f.x = (l.sheetWidth - footer.length * l.advance) / 2) ∧
     (l.sheetWidth / l.advance < footer.length →
       f.text = footer.take (l.sheetWidth / l.advance - 1) ++ [95] ∧ f.cut = true ∧ f.x = 0)) ∧
  (∀ (s : State) (j : Job) (b : BandInProduction) (f : BandFrame) (sh : Sheet) (l : Layout) (r : PlacementResult) (top rows : Nat),
     s.sheet j.sheet = some sh → sh.layout = some l → sh.result = some r → s.bandFrame j b = some f →
     top = 128 * b.band → rows = min 128 (l.sheetHeight - 128 * b.band) →
     { f with spans := [], payload := [] } =
       { tag := j.tag, serial := b.serial, copy := b.copy, band := b.band, bandCount := (l.sheetHeight + 127) / 128
         bandHeight := rows, sheetWidth := l.sheetWidth, proof := decide (j.kind = .proof), startCorrection := 0
         spans := [], payload := [] } ∧
     (∀ sp ∈ f.spans, 0 < sp.height ∧ sp.y + sp.height ≤ rows ∧ (0 < sp.rowOffset → sp.y = 0)) ∧
     f.payload.length = (f.spans.map (fun sp => match sp.body with
       | .portrait _ _ _ _ _ _ _ => sp.width * sp.height * 3
       | .placeholder _ _ _ => 0
       | .text _ len _ _ _ => len)).sum ∧
     (∃ tiles lists foot : List Span, f.spans = tiles ++ lists ++ foot ∧
       (∀ sp ∈ tiles, ∀ len a lh cut, sp.body ≠ .text .list len a lh cut ∧ sp.body ≠ .text .footer len a lh cut) ∧
       (∀ sp ∈ lists, ∃ len, sp.body = .text .list len l.advance l.lineHeight false) ∧ foot.length ≤ 1 ∧
       (∀ sp ∈ foot, sp.body = .text .footer r.footerLine.text.length l.advance l.lineHeight r.footerLine.cut)) ∧
     (∀ it : Item, it.crosses top rows = true →
       ((∃ t pattern, t ∈ r.tiles ∧ t.kind = .placeholder pattern ∧
           it = { x := t.x, y := t.y, width := t.width, height := t.height, body := .placeholder pattern t.width t.height }) ∨
         (∃ t p g ft fl m, t ∈ r.tiles ∧ t.kind = .portrait p g ft fl ∧ (s.portrait p).current = some m ∧ 0 < ft.w ∧ 0 < ft.h ∧
           0 ≤ ft.x0 ∧ ft.x0 + ft.w ≤ m.width ∧ 0 ≤ ft.y0 ∧ ft.y0 + ft.h ≤ m.height ∧
           it = { x := t.x, y := t.y, width := t.width, height := t.height
                  body := .portrait p g ft.x0 ft.y0 ft.w ft.h ft.scale }) ∨
         (∃ t k c, t ∈ r.tiles ∧ t.caption[k]? = some c ∧
           it = { x := t.x + c.x, y := t.y + t.height + k * l.lineHeight, width := c.text.length * l.advance
                  height := l.lineHeight, body := .text .caption c.text.length l.advance l.lineHeight false }) ∨
         (∃ k text, r.notPictured[k]? = some text ∧
           it = { x := l.bodyLeft, y := l.bodyTop + l.bodyHeight - l.listLines * l.lineHeight + k * l.lineHeight
                  width := text.length * l.advance, height := l.lineHeight
                  body := .text .list text.length l.advance l.lineHeight false }) ∨
         it = { x := r.footerLine.x, y := r.footerLine.y, width := r.footerLine.text.length * l.advance, height := l.lineHeight
                body := .text .footer r.footerLine.text.length l.advance l.lineHeight r.footerLine.cut }) →
       it.span top rows ∈ f.spans)) ∧
  (∀ (it : Item) (top rows : Nat),
     (it.crosses top rows = true ↔ max it.y top < min (it.y + it.height) (top + rows)) ∧
     (it.crosses top rows = true →
       (it.span top rows).x = it.x ∧ (it.span top rows).width = it.width ∧ (it.span top rows).body = it.body ∧
       (it.span top rows).y + top = max it.y top ∧ (it.span top rows).rowOffset = top - it.y ∧
       max it.y top + (it.span top rows).height = min (it.y + it.height) (top + rows)))

/-! ### Jobs and the renderer -/

/-- SUBMIT RUN and SUBMIT PROOF (R118 to R121): the refusals in order, and the WAITING job made at the tail of its collection
under a tag no job has, with the copies brought into range; the sheet takes the tag. A new PROOF job may set the ACTIVE RUN job
aside at a copy boundary, and leaves every other job as it is (R130; when this is examined is assumption 10). The tag of a new
job (R118) is the first one that no job has, from the tag counter on in the circle of 1 to 4095; it is free while fewer than
4095 jobs stand, and the counter moves to the tag after it. -/
def Obligations.SubmittingMakesAWaitingJob : Prop :=
  (∀ (s g : State) (p : Port) (tag i n copies : Nat),
     (s.served p (.submitRun i n copies) tag = some g →
       (g.sheet i = none → exec (.submitRun p) s = .next (g.finish p tag (Answer.refuse .badIndex))) ∧
       ((g.sheet i).isSome → 2 ≤ n ∨ copies = 0 →
         exec (.submitRun p) s = .next (g.finish p tag (Answer.refuse .badForm)))) ∧
     (s.served p (.submitProof i n) tag = some g →
       (g.sheet i = none → exec (.submitProof p) s = .next (g.finish p tag (Answer.refuse .badIndex))) ∧
       ((g.sheet i).isSome → 2 ≤ n → exec (.submitProof p) s = .next (g.finish p tag (Answer.refuse .badForm))))) ∧
  (∀ (s g : State) (p : Port) (tag i n copies : Nat) (sh : Sheet) (q : Press), g.sheet i = some sh → pressOf n = some q →
     (s.served p (.submitRun i n copies) tag = some g →
       (0 < copies → sh.job.isSome → exec (.submitRun p) s = .next (g.finish p tag (Answer.refuse .inUse))) ∧
       (0 < copies → sh.job = none → sh.state ≠ .placed →
         exec (.submitRun p) s = .next (g.finish p tag (Answer.refuse .notEligible))) ∧
       (0 < copies → sh.job = none → sh.state = .placed → 12 ≤ (g.collection q .run).length →
         exec (.submitRun p) s = .next (g.finish p tag (Answer.refuse .queueFull))) ∧
       (0 < copies → sh.job = none → sh.state = .placed → (g.collection q .run).length < 12 →
         exec (.submitRun p) s = .next
           ((({ g with
               jobs := g.jobs ++ [{ tag := g.nextTag, sheet := i, press := q, kind := .run, copies := min 999 copies, done := 0
                                    port := p, state := .waiting, started := false, resumeCopy := 1, resumeBand := 0
                                    serial := 0, spoils := 0, ending := .none, rewind := none }]
               tagCounter := tagAfter g.nextTag } : State).setSheet i (some { sh with job := some g.nextTag })).finish
             p tag (Answer.done (decide (999 < copies)) (byte2 g.nextTag))))) ∧
     (s.served p (.submitProof i n) tag = some g →
       (sh.job.isSome → exec (.submitProof p) s = .next (g.finish p tag (Answer.refuse .inUse))) ∧
       (sh.job = none → sh.state ≠ .placed → sh.state ≠ .held →
         exec (.submitProof p) s = .next (g.finish p tag (Answer.refuse .notEligible))) ∧
       (sh.job = none → sh.state = .placed ∨ sh.state = .held → 4 ≤ (g.collection q .proof).length →
         exec (.submitProof p) s = .next (g.finish p tag (Answer.refuse .queueFull))) ∧
       (∀ k : Job, k = { tag := g.nextTag, sheet := i, press := q, kind := .proof, copies := 1, done := 0, port := p
                         state := .waiting, started := false, resumeCopy := 1, resumeBand := 0, serial := 0, spoils := 0
                         ending := .none, rewind := none } →
         sh.job = none → sh.state = .placed ∨ sh.state = .held → (g.collection q .proof).length < 4 →
         ∃ t : State, exec (.submitProof p) s = .next (t.finish p tag (Answer.done false (byte2 g.nextTag))) ∧
           t.tagCounter = tagAfter g.nextTag ∧ t.sheet i = some { sh with job := some g.nextTag } ∧
           (∀ i', i' ≠ i → t.sheet i' = g.sheet i') ∧
           t.jobs.map (·.tag) = g.jobs.map (·.tag) ++ [g.nextTag] ∧
           (t.jobs = g.jobs ++ [k] ∨ ∃ a, g.activeJob = some a ∧ a.kind = .run ∧ a.resumeBand = 0 ∧ a.ending = .none ∧
             g.renderer.band = none ∧ g.suspendedJob = none ∧
             t.jobs = (g.jobs ++ [k]).map (fun x => if x.tag = a.tag then { a with state := .suspended } else x)) ∧
           ((∀ x ∈ g.jobs, x.tag ≠ g.nextTag) → k ∈ t.jobs) ∧
           { t with jobs := g.jobs, tagCounter := g.tagCounter, sheets := g.sheets, renderer := g.renderer } = g))) ∧
  (∀ s : State, 1 ≤ s.tagCounter → s.tagCounter ≤ 4095 →
     (∃ n, s.nextTag = (s.tagCounter - 1 + n) % 4095 + 1 ∧
       ∀ m < n, (s.jobOf ((s.tagCounter - 1 + m) % 4095 + 1)).isSome) ∧
     (s.jobs.length < 4095 → s.jobOf s.nextTag = none) ∧ 1 ≤ s.nextTag ∧ s.nextTag ≤ 4095 ∧
     tagAfter s.nextTag = s.nextTag % 4095 + 1)

/-- CANCEL JOB (R124): a tag no job has is refused with BAD_INDEX; a job with an ending mark is answered DONE with no change;
the ACTIVE job with a band in production takes the mark CANCELLED; any other job ends at once with JOB_ABORTED. The reply
returns its copies done, but for the job with an ending mark, whose reply has empty data: the model's reading (assumption 28).
So is the look, after the end, for a proof that may take the renderer at a copy boundary (assumption 10). -/
def Obligations.CancelEndsTheJobOrMarksIt : Prop :=
  ∀ (s g : State) (p : Port) (tag n : Nat), s.served p (.cancelJob n) tag = some g →
    (n = 0 ∨ 4095 < n ∨ g.jobOf n = none → exec (.cancelJob p) s = .next (g.finish p tag (Answer.refuse .badIndex))) ∧
    (1 ≤ n → n ≤ 4095 → ∀ j, g.jobOf n = some j →
      (j.ending ≠ .none → exec (.cancelJob p) s = .next (g.finish p tag Answer.ok)) ∧
      (j.ending = .none → j.state = .active → g.renderer.band.isSome →
        exec (.cancelJob p) s = .next
          ((g.putJob { j with ending := .cancelled }).finish p tag (Answer.done false (byte2 j.done)))) ∧
      (j.ending = .none → j.state ≠ .active ∨ g.renderer.band = none →
        exec (.cancelJob p) s = .next
          (((g.endJob j .jobAborted).recheckWait).finish p tag (Answer.done false (byte2 j.done)))))

/-- The end of a job (R138, R151, R21, R62): it leaves the job table; the pins of a started job are released tile by tile, and
a portrait that then has no pin and no lock promotes a pending image (R77); its sheet leaves IN_PRESS by its hold reason, with
its result kept, unless a promotion stales it (R18, R44, R77), its print count rises and saturates, its job field is cleared;
the notice is latched at its port alone; its press link forgets it.
A confirmation (R134): copies done rises and the spoil count returns to 0; at the last copy the job ends with JOB_DONE. -/
def Obligations.AJobEndReleasesWhatTheJobHeld : Prop :=
  (∀ (s : State) (j : Job) (notice : Notice) (sh : Sheet), s.sheet j.sheet = some sh →
     (s.endJob j notice).jobs = s.jobs.filter (fun k => decide (k.tag ≠ j.tag)) ∧
     (∃ sh', (s.endJob j notice).sheet j.sheet = some sh' ∧ sh'.printCount = min 65535 (sh.printCount + j.done) ∧
       sh'.job = none ∧ sh'.lock = sh.lock ∧ sh'.layout = sh.layout ∧
       (∀ staled : Prop,
         (staled ↔ j.started = true ∧ ∃ q ∈ sh.pins, (s.portrait q).pendingImage.isSome ∧
           (s.portrait q).pinCount ≤ sh.pins.count q ∧ (s.portrait q).lockCount = 0 ∧ j.sheet ∈ s.imageSet q) →
         sh.state = .inPress →
         (¬staled → sh'.state = (if sh.hold.isSome then .held else .placed) ∧ sh'.result = sh.result ∧ sh'.hold = sh.hold) ∧
         (staled → sh'.state = .stale ∧ sh'.result = none ∧ sh'.hold = none ∧ j.sheet ∈ (s.endJob j notice).queue))) ∧
     (∀ (q : Nat) (r : Portrait),
       r = { s.portrait q with
             pinCount := (s.portrait q).pinCount - (if j.started = true then sh.pins.count q else 0) } →
       (s.endJob j notice).portrait q =
         if j.started = true ∧ q ∈ sh.pins ∧ r.pendingImage.isSome ∧ r.pinCount = 0 ∧ r.lockCount = 0 then
           { r with current := r.pendingImage, pendingImage := none }
         else r) ∧
     (notice = .jobDone ∨ notice = .jobAborted →
       (tabFind ((s.endJob j notice).port j.port).notices notice.flag).map (·.subject) = some (.job j.tag) ∧
       ∀ p, p ≠ j.port →
         tabFind ((s.endJob j notice).port p).notices notice.flag = tabFind (s.port p).notices notice.flag) ∧
     (∀ q, q ≠ j.press → (s.endJob j notice).link q = s.link q) ∧
     (∀ f ∈ ((s.endJob j notice).link j.press).fifo, f.tag ≠ j.tag) ∧
     (∀ r ∈ ((s.endJob j notice).link j.press).rules, r.tag ≠ j.tag) ∧
     (∀ a ∈ ((s.endJob j notice).link j.press).attempts, a.tag = j.tag → a.voided = true) ∧
     (∀ t, ((s.endJob j notice).link j.press).transmission = some t → t.tag ≠ j.tag) ∧
     (j.state = .active → (s.endJob j notice).renderer.band = none ∧ (s.endJob j notice).renderer.stallTimer = none)) ∧
  (∀ (s : State) (tag : Nat) (j : Job), s.reportJob tag = some j →
     (j.done + 1 ≠ j.copies → s.takeConfirmation tag = s.putJob { j with done := j.done + 1, spoils := 0 }) ∧
     (j.done + 1 = j.copies →
       s.takeConfirmation tag =
         (s.putJob { j with done := j.done + 1, spoils := 0 }).endJob { j with done := j.done + 1, spoils := 0 } .jobDone ∧
       (∀ k ∈ (s.takeConfirmation tag).jobs, k.tag ≠ j.tag) ∧
       (tabFind ((s.takeConfirmation tag).port j.port).notices 2).map (·.subject) = some (.job j.tag)))

/-- The grant order (R126): the oldest eligible PROOF job whose FIFO has room, then the SUSPENDED job whose FIFO has room,
then the oldest eligible RUN job of the press not served last, then of the press served last; the RUN jobs' FIFOs are not looked
at. A job is eligible when it is WAITING and started, or its sheet is PLACED, or, for a PROOF, HELD (R122). A grant makes the named job
ACTIVE (R126, R127): at its first activation its sheet enters IN_PRESS, each PORTRAIT tile pins its portrait once, and the
started flag is set; a RUN job's press becomes the press served last. With a job ACTIVE, or none named, nothing is granted.
With no FIFO room the stall timer starts (R129). -/
def Obligations.TheGrantOrderIsKept : Prop :=
  (∀ s : State,
     (∀ before j after, s.jobs = before ++ j :: after → j.kind = .proof → s.eligible j = true → s.hasRoom j.press = true →
       (∀ k ∈ before, k.kind = .proof → s.eligible k = true → s.hasRoom k.press = false) → s.grantOrder = some j) ∧
     ((∀ k ∈ s.jobs, k.kind = .proof → s.eligible k = true → s.hasRoom k.press = false) →
       (∀ j, s.suspendedJob = some j → s.hasRoom j.press = true → s.grantOrder = some j) ∧
       ((∀ j, s.suspendedJob = some j → s.hasRoom j.press = false) →
         (∀ j, s.oldestRun (otherPress s.renderer.lastServed) = some j → s.grantOrder = some j) ∧
         (s.oldestRun (otherPress s.renderer.lastServed) = none →
           s.grantOrder = s.oldestRun s.renderer.lastServed)))) ∧
  (∀ s : State,
     (∀ j, s.eligible j = true ↔ j.state = .waiting ∧ (j.started = true ∨
       ∃ sh, s.sheet j.sheet = some sh ∧ (sh.state = .placed ∨ j.kind = .proof ∧ sh.state = .held))) ∧
     (∀ q j, s.oldestRun q = some j ↔ ∃ before after, s.jobs = before ++ j :: after ∧ j.kind = .run ∧ j.press = q ∧
       s.eligible j = true ∧ ∀ k ∈ before, k.kind = .run → k.press = q → s.eligible k = false) ∧
     (∀ q, s.oldestRun q = none ↔ ∀ k ∈ s.jobs, k.kind = .run → k.press = q → s.eligible k = false) ∧
     (∀ q, s.hasRoom q = true ↔ (s.link q).fifo.length < 6)) ∧
  (∀ s : State,
     (s.activeJob.isSome ∨ s.grantOrder = none → exec .rendererGrant s = .next s) ∧
     (∀ j sh, s.activeJob = none → s.grantOrder = some j → s.sheet j.sheet = some sh → s.renderer.band = none →
       ∃ t : State, exec .rendererGrant s = .next t ∧
         t.jobs = s.jobs.map (fun k => if k.tag = j.tag then { j with state := .active, started := true } else k) ∧
         t.renderer = { s.renderer with
           lastServed := if j.kind = .run then j.press else s.renderer.lastServed
           stallTimer := if s.hasRoom j.press = true ∨ s.renderer.stallTimer.isSome then s.renderer.stallTimer
             else some s.renderer.stallWindow } ∧
         (j.started = false → t.sheet j.sheet = some { sh with state := .inPress } ∧
           ∀ q, t.portrait q = { s.portrait q with pinCount := (s.portrait q).pinCount + sh.pins.count q }) ∧
         (j.started = true → t.sheets = s.sheets ∧ t.portraits = s.portraits)))

/-- The ACTIVE job begins the band at its resume point when its FIFO has room, and the stall timer stops; otherwise it waits
(R128). The boundary after a band (R128, R133, R136, R137): a job with an ending mark ends and its frame is discarded; a
rewind discards the frame of a copy at or after the spoiled one and moves production to band 0 of that copy; else the frame
joins the FIFO of the job's press and the job goes to the next band, to the next copy, or to DRAINING. The job is in the table
after each but the ending, and no other job moves; at a copy boundary it may be SUSPENDED for a proof (R130), and where it stays
ACTIVE with a full FIFO the stall timer runs (R129). That a DRAINING
job's resume point stays at the last band is the model's reading (assumption 31), and so is that the frame and the discard go by
the serial the band was begun with (assumption 36). -/
def Obligations.BandsBeginAndMeetTheirBoundaries : Prop :=
  (∀ s : State,
     (∀ j, s.activeJob = some j → s.renderer.band = none → (s.link j.press).fifo.length < 6 →
       exec .bandBegin s = .next { s with renderer := { s.renderer with
         band := some { copy := j.resumeCopy, band := j.resumeBand, serial := j.serial }, stallTimer := none } }) ∧
     ((∀ j, s.activeJob = some j → s.renderer.band.isSome ∨ 6 ≤ (s.link j.press).fifo.length) →
       exec .bandBegin s = .next s)) ∧
  (∀ (s : State) (j : Job) (b : BandInProduction), s.activeJob = some j → s.renderer.band = some b →
     (j.ending ≠ .none → exec .bandCompletion s = .next (s.clearBand.endJob j .jobAborted)) ∧
     (∀ copy, j.ending = .none → j.rewind = some copy → copy ≤ b.copy → ∃ t : State, exec .bandCompletion s = .next t ∧
       t.links = s.links ∧ s.reachesBoundary t { j with resumeCopy := copy, resumeBand := 0, rewind := none } true) ∧
     (∀ f, s.clearBand.bandFrame j b = some f → j.ending = .none →
       (∀ copy, j.rewind = some copy → b.copy < copy → ∃ t : State, exec .bandCompletion s = .next t ∧
         t.link j.press = (s.link j.press).join f ∧ (∀ q, q ≠ j.press → t.link q = s.link q) ∧
         s.reachesBoundary t { j with resumeCopy := copy, resumeBand := 0, rewind := none } true) ∧
       (j.rewind = none → ∃ t : State, exec .bandCompletion s = .next t ∧
         t.link j.press = (s.link j.press).join f ∧ (∀ q, q ≠ j.press → t.link q = s.link q) ∧
         (b.band + 1 < s.bandsOf j →
           s.reachesBoundary t { j with resumeCopy := b.copy, resumeBand := b.band + 1 } false) ∧
         (s.bandsOf j ≤ b.band + 1 → b.copy < j.copies →
           s.reachesBoundary t { j with resumeCopy := b.copy + 1, resumeBand := 0 } true) ∧
         (s.bandsOf j ≤ b.band + 1 → j.copies ≤ b.copy → s.reachesBoundary t { j with state := .draining } false))))

/-- The stall timer's expiry (R129, R131): the stalled RUN job is SUSPENDED when none is and another job could be granted: an
eligible PROOF whose FIFO has room, or an eligible RUN job of the other press; else the timer starts again with the stall
window. That an expiry met with the timer stopped changes nothing is the model's choice (assumption 7). -/
def Obligations.AStallSuspendsOrRestarts : Prop :=
  ∀ s : State,
    (s.renderer.stallTimer = none → exec .stallTimerExpiry s = .next s) ∧
    (∀ q, s.otherGrantable q = true ↔
      (∃ k ∈ s.jobs, k.kind = .proof ∧ s.eligible k = true ∧ s.hasRoom k.press = true) ∨
        ∃ k ∈ s.jobs, k.kind = .run ∧ k.press = otherPress q ∧ s.eligible k = true) ∧
    (∀ j n, s.renderer.stallTimer = some n → s.activeJob = some j → s.hasRoom j.press = false →
      (j.kind = .run → j.ending = .none → s.suspendedJob = none → s.otherGrantable j.press = true →
        exec .stallTimerExpiry s = .next ((s.putJob { j with state := .suspended }).stopStall)) ∧
      (j.kind = .proof ∨ j.ending ≠ .none ∨ s.suspendedJob.isSome ∨ s.otherGrantable j.press = false →
        exec .stallTimerExpiry s = .next
          { s with renderer := { s.renderer with stallTimer := some s.renderer.stallWindow } }))

/-- A spoil the job table takes (R135, R136, R148), below the third counted one in a row: the attempt serial advances with wrap,
a counted spoil raises the consecutive spoil count, COPY_SPOILED is latched everywhere, and the job rewinds by its state: a
WAITING or SUSPENDED job moves its resume point; the ACTIVE job with a band in production keeps the lowest spoiled copy for the
boundary, and one with none moves at once, where a proof may take the renderer (R130); a DRAINING job goes to the head of its
collection, WAITING. A counted spoil hands the link the copy with the new serial as the job's rule. The third consecutive
counted spoil aborts the job (R137): with a band in production it takes the ending mark ABORTED, otherwise it ends at once; that
it too advances the serial and hands the rule over is assumption 45. A report for a job that is gone or ending changes nothing
(R134, R135). A rule that is set replaces the job's, voids the records it makes dead, stops a dead attempt in transmission and
removes dead frames at the head (R148). A spoil by the link (R150) first sets the job's rule to the copy with no serial, but
that a rule at a lower copy stands as it is until the new serial comes in the same step, and counts one attempt spoiled; when
the job table ignores it the rule is left with no serial, at its lower copy if it had one (assumption 30). No other job moves but
by the suspension, and the job's end aside the job stays in the table. -/
def Obligations.ASpoilRewindsOrAborts : Prop :=
  (∀ (s : State) (q : Press) (tag copy : Nat) (counted : Bool) (j k : Job), s.reportJob tag = some j →
     (counted = true → j.spoils < 2) →
     k = { j with serial := (j.serial + 1) % 256, spoils := j.spoils + (if counted then 1 else 0) } →
     (j.state = .waiting ∨ j.state = .suspended → ∀ x ∈ (s.takeSpoil q tag copy counted).jobs, x.tag = j.tag →
       x = { k with resumeCopy := copy, resumeBand := 0, rewind := none }) ∧
     (j.state = .active → s.renderer.band.isSome → ∀ x ∈ (s.takeSpoil q tag copy counted).jobs, x.tag = j.tag →
       x = { k with rewind := some (match j.rewind with | none => copy | some c => min c copy) }) ∧
     (j.state = .active → s.renderer.band = none → ∀ x ∈ (s.takeSpoil q tag copy counted).jobs, x.tag = j.tag →
       x = { k with resumeCopy := copy, resumeBand := 0, rewind := none } ∨
         j.kind = .run ∧ x = { k with state := .suspended, resumeCopy := copy, resumeBand := 0, rewind := none }) ∧
     (j.state = .draining → ∀ x ∈ (s.takeSpoil q tag copy counted).jobs, x.tag = j.tag →
       x = { k with state := .waiting, resumeCopy := copy, resumeBand := 0, rewind := none } ∧
       ((s.takeSpoil q tag copy counted).collection j.press j.kind).head? = some x) ∧
     (∃ x ∈ (s.takeSpoil q tag copy counted).jobs, x.tag = j.tag) ∧
     ((j.state = .active → s.activeJob = some j) →
       (s.takeSpoil q tag copy counted).jobs.filter (fun x => decide (x.tag ≠ tag)) =
         s.jobs.filter (fun x => decide (x.tag ≠ tag))) ∧
     (s.takeSpoil q tag copy counted).links =
       (if counted then
         (s.setLink q ((s.link q).setRule { tag := tag, copy := copy, serial := some ((j.serial + 1) % 256) })).links
       else s.links) ∧
     (s.takeSpoil q tag copy counted).counters = s.counters ∧ (s.takeSpoil q tag copy counted).sheets = s.sheets) ∧
  (∀ (s : State) (q : Press) (tag copy : Nat),
     (∀ j counted, s.reportJob tag = some j →
       ∀ p, (tabFind ((s.takeSpoil q tag copy counted).port p).notices 5).map (·.subject) = some (.job tag)) ∧
     (∀ j, s.reportJob tag = some j → 2 ≤ j.spoils → j.state = .active → s.renderer.band.isSome →
       s.onlyJobMoves (s.takeSpoil q tag copy true)
         { j with serial := (j.serial + 1) % 256, spoils := j.spoils + 1, ending := .aborted }) ∧
     (∀ j, s.reportJob tag = some j → 2 ≤ j.spoils → j.state ≠ .active ∨ s.renderer.band = none →
       (s.takeSpoil q tag copy true).jobs = s.jobs.filter (fun k => decide (k.tag ≠ tag)) ∧
       (tabFind ((s.takeSpoil q tag copy true).port j.port).notices 3).map (·.subject) = some (.job tag)) ∧
     (s.reportJob tag = none → ∀ counted, s.takeSpoil q tag copy counted = s) ∧
     (s.reportJob tag = none → s.takeConfirmation tag = s)) ∧
  (∀ (l : Link) (r : DeadRule),
     (l.setRule r).rules = l.rules.filter (fun o => decide (o.tag ≠ r.tag)) ++ [r] ∧
     (∀ tag copy serial, r.kills tag copy serial = true ↔
       r.tag = tag ∧ r.copy ≤ copy ∧ ∀ v, r.serial = some v → serial ≠ v) ∧
     (∀ a ∈ (l.setRule r).attempts, r.kills a.tag a.copy a.serial = true → a.voided = true) ∧
     (∀ a ∈ l.attempts, a.received < a.sent → r.kills a.tag a.copy a.serial = false → a ∈ (l.setRule r).attempts) ∧
     (l.setRule r).transmission = l.transmission.filter (fun t => !r.kills t.tag t.copy t.serial) ∧
     (∃ dead, l.fifo = dead ++ (l.setRule r).fifo ∧ ∀ f ∈ dead, (l.setRule r).isDead f = true) ∧
     (∀ f, (l.setRule r).fifo.head? = some f → (l.setRule r).isDead f = false)) ∧
  (∀ (s : State) (q : Press) (tag copy : Nat),
     (s.linkSpoil q tag copy).counters = (s.raise (pressUnit q) 3).counters ∧
     (∀ j, s.reportJob tag = some j → ∃ u : State,
       s.linkSpoil q tag copy = u.takeSpoil q tag copy true ∧ u.reportJob tag = some j ∧ u.jobs = s.jobs ∧
       (∀ a ∈ (u.link q).attempts, a.tag = tag → copy ≤ a.copy → a.voided = true) ∧
       (∀ t, (u.link q).transmission = some t → t.tag = tag → t.copy < copy) ∧
       ((∀ o ∈ (s.link q).rules, o.tag = tag → copy ≤ o.copy) → (u.link q).rules =
         (s.link q).rules.filter (fun o => decide (o.tag ≠ tag)) ++ [{ tag := tag, copy := copy, serial := none }]) ∧
       ((∃ o ∈ (s.link q).rules, o.tag = tag ∧ o.copy < copy) → (u.link q).rules = (s.link q).rules) ∧
       { u with links := s.links, ports := s.ports, counters := s.counters } = s) ∧
     (s.reportJob tag = none →
       (∃ r ∈ ((s.linkSpoil q tag copy).link q).rules, r.tag = tag ∧ r.serial = none ∧ r.copy ≤ copy ∧
         (∀ o ∈ (s.link q).rules, o.tag = tag → r.copy ≤ o.copy) ∧
         (r.copy = copy ∨ ∃ o ∈ (s.link q).rules, o.tag = tag ∧ r.copy = o.copy)) ∧
       (∀ r ∈ ((s.linkSpoil q tag copy).link q).rules, r.tag = tag → r.serial = none) ∧
       (s.linkSpoil q tag copy).jobs = s.jobs))

/-! ### Registration and the press links -/

/-- A mark report in SEARCH or CONFIRM (R157, R158): the third good report in a row locks with its offset as correction, clears
REG_TIMEOUT and latches LOCK_GAINED; an earlier good one confirms; any other starts over; and a search count that reaches the
search timeout with the condition clear sets it and latches REG_TIMEOUT everywhere (R182). A mark report in LOCKED (R159, R160):
a good one updates the correction and clears the bad count; a bad one is counted, saturates at 2 under MANUAL, and under AUTO
the third in a row returns the lock to SEARCH with its correction kept, counts the loss, latches LOCK_LOST and spoils the
attempt in transmission (R152). On an ONLINE link after start-up a report is judged, then an attempt still in transmission is
spoiled and counted, then a new period opens (R144); OFFLINE, or while the settings load is in progress, it is discarded (R144,
R196). A proof may then take the renderer at a copy boundary (assumption 10). -/
def Obligations.MarkReportsJudgeTheLock : Prop :=
  (∀ (s : State) (q : Press) (found stray : Bool) (offset : Int) (r : Registration) (good : Bool), (s.link q).reg = r →
     r.state = .search ∨ r.state = .confirm → good = goodFor r.captureWindow found stray offset →
     (good = true ↔ found = true ∧ stray = false ∧ offset.natAbs ≤ r.captureWindow) ∧
     (good = true → 2 ≤ r.confirm →
       s.judgeReport q found stray offset =
         (s.setReg q { r with state := .locked, confirm := 0, bad := 0, search := 0, correction := offset
                              timedOut := false }).latchAll .lockGained (.press q)) ∧
     (good = true → r.confirm < 2 →
       ((s.judgeReport q found stray offset).link q).reg =
         { r with state := .confirm, confirm := r.confirm + 1, search := min r.searchTimeout (r.search + 1)
                  timedOut := r.timedOut || decide (r.searchTimeout ≤ r.search + 1) }) ∧
     (good = false →
       ((s.judgeReport q found stray offset).link q).reg =
         { r with state := .search, confirm := 0, search := min r.searchTimeout (r.search + 1)
                  timedOut := r.timedOut || decide (r.searchTimeout ≤ r.search + 1) }) ∧
     (good = false ∨ r.confirm < 2 →
       (s.judgeReport q found stray offset).ports =
         (if r.searchTimeout ≤ r.search + 1 ∧ r.timedOut = false then (s.latchAll (regTimeoutOf q) .none).ports else s.ports) ∧
       ((s.judgeReport q found stray offset).link q).transmission = (s.link q).transmission) ∧
     { s.judgeReport q found stray offset with links := s.links, ports := s.ports } = s ∧
     (∀ q', q' ≠ q → (s.judgeReport q found stray offset).link q' = s.link q')) ∧
  (∀ (s u : State) (q : Press) (found stray : Bool) (offset : Int) (r : Registration), (s.link q).reg = r → r.state = .locked →
     (goodFor r.holdWindow found stray offset = true →
       s.judgeReport q found stray offset = s.setReg q { r with correction := offset, bad := 0 }) ∧
     (goodFor r.holdWindow found stray offset = false → r.policy = .manual →
       s.judgeReport q found stray offset = (s.raise (pressUnit q) 5).setReg q { r with bad := min 2 (r.bad + 1) }) ∧
     (goodFor r.holdWindow found stray offset = false → r.policy = .auto → r.bad < 2 →
       s.judgeReport q found stray offset = (s.raise (pressUnit q) 5).setReg q { r with bad := r.bad + 1 }) ∧
     (goodFor r.holdWindow found stray offset = false → r.policy = .auto → 2 ≤ r.bad →
       u = (((s.raise (pressUnit q) 5).setReg q { r with state := .search, confirm := 0, bad := 0, search := 0 }).raise
         (pressUnit q) 4).latchAll .lockLost (.press q) →
       ((s.link q).transmission = none → s.judgeReport q found stray offset = u) ∧
       (∀ x, (s.link q).transmission = some x → s.judgeReport q found stray offset = u.linkSpoil q x.tag x.copy) ∧
       ((s.judgeReport q found stray offset).link q).reg = { r with state := .search, confirm := 0, bad := 0, search := 0 } ∧
       ((s.judgeReport q found stray offset).link q).transmission = none ∧
       ∀ p, (tabFind ((s.judgeReport q found stray offset).port p).notices 7).map (·.subject) = some (.press q))) ∧
  (∀ (s u : State) (q : Press) (found stray : Bool) (offset : BitVec 12),
     ((s.link q).online = true → s.settings.state ≠ .loading → u = s.judgeReport q found stray (markOffset offset) →
       ((u.link q).transmission = none →
         exec (.markReport q found stray offset) s = .next (u.setLink q { u.link q with period := .opened false }).recheckWait) ∧
       (∀ x v, (u.link q).transmission = some x → v = u.linkSpoil q x.tag x.copy →
         v.counters = (u.raise (pressUnit q) 3).counters ∧ (v.link q).transmission = none ∧ (v.link q).reg = (u.link q).reg ∧
         exec (.markReport q found stray offset) s =
           .next (v.setLink q { v.link q with period := .opened false }).recheckWait)) ∧
     ((s.link q).online = false ∨ s.settings.state = .loading →
       exec (.markReport q found stray offset) s = .next s) ∧
     (s.recheckWait = s ∨ ∃ j, s.activeJob = some j ∧ j.kind = .run ∧ j.ending = .none ∧ j.resumeBand = 0 ∧
       s.renderer.band = none ∧ s.suspendedJob = none ∧ s.proofToGrant.isSome ∧
       s.recheckWait = { s.putJob { j with state := .suspended } with renderer := { s.renderer with stallTimer := none } }))

/-- FORCE RESYNC (R163): a press code outside its set draws BAD_FORM, OFFLINE draws NOT_ELIGIBLE; SEARCH and CONFIRM restart;
LOCKED is left for SEARCH with its correction kept, the loss counted and latched, and the attempt in transmission spoiled and
counted (R150, R152). A proof may then take the renderer at a copy boundary (assumption 10). -/
def Obligations.ForceResyncRestartsTheSearch : Prop :=
  ∀ (s g : State) (p : Port) (tag n : Nat), s.served p (.forceResync n) tag = some g →
    (2 ≤ n → exec (.forceResync p) s = .next (g.finish p tag (Answer.refuse .badForm))) ∧
    ∀ q, pressOf n = some q →
      ((g.link q).reg.state = .offline → exec (.forceResync p) s = .next (g.finish p tag (Answer.refuse .notEligible))) ∧
      ((g.link q).reg.state = .search ∨ (g.link q).reg.state = .confirm →
        exec (.forceResync p) s = .next
          ((g.setLink q { g.link q with reg := { (g.link q).reg with state := .search, confirm := 0, search := 0 } }).finish p tag
            Answer.ok)) ∧
      ((g.link q).reg.state = .locked → ∃ u t : State,
        u = ((g.setLink q { g.link q with
              reg := { (g.link q).reg with state := .search, confirm := 0, bad := 0, search := 0 } }).raise
              (pressUnit q) 4).latchAll .lockLost (.press q) ∧
        ((g.link q).transmission = none → t = u) ∧
        (∀ x, (g.link q).transmission = some x → t = u.linkSpoil q x.tag x.copy) ∧
        exec (.forceResync p) s = .next (t.recheckWait.finish p tag Answer.ok) ∧
        t.counters = (if (g.link q).transmission.isSome then ((g.raise (pressUnit q) 4).raise (pressUnit q) 3).counters
          else (g.raise (pressUnit q) 4).counters) ∧
        (t.link q).reg = { (g.link q).reg with state := .search, confirm := 0, bad := 0, search := 0 } ∧
        (t.link q).transmission = none ∧
        ∀ d, (tabFind (t.port d).notices 7).map (·.subject) = some (.press q))

/-- SET PRESS (R164, R165): each value brought into its range, the hold window not below the capture window, ADJUSTED when any
was moved; the lock keeps its state, counts and correction, but for the search count, which does not stand above the new
timeout. In SEARCH or CONFIRM a search count at or above the new timeout sets the REG_TIMEOUT condition and latches it
everywhere, when the condition is clear. That the count is brought down with the condition set too, and in the other states, is
assumption 34. -/
def Obligations.SetPressStoresValuesInRange : Prop :=
  ∀ (s g : State) (p : Port) (tag n capture hold timeout policy stall : Nat),
    s.served p (.setPress n capture hold timeout policy stall) tag = some g →
    (2 ≤ n ∨ 2 ≤ policy → exec (.setPress p) s = .next (g.finish p tag (Answer.refuse .badForm))) ∧
    ∀ q pol, pressOf n = some q → policyOf policy = some pol → ∃ t : State,
      exec (.setPress p) s = .next (t.finish p tag (Answer.done
        (decide (¬(8 ≤ capture ∧ capture ≤ 64 ∧ 16 ≤ hold ∧ hold ≤ 128 ∧ capture ≤ hold ∧ 4 ≤ timeout ∧ timeout ≤ 60 ∧
          10 ≤ stall ∧ stall ≤ 2550)))
        (byte2 (clampTo 8 64 capture) ++ byte2 (max (clampTo 8 64 capture) (clampTo 16 128 hold)) ++
          byte2 (clampTo 4 60 timeout) ++ byte1 policy ++ byte2 (clampTo 10 2550 stall)))) ∧
      (∀ (fires : Bool), fires = decide (((g.link q).reg.state = .search ∨ (g.link q).reg.state = .confirm) ∧
          clampTo 4 60 timeout ≤ (g.link q).reg.search ∧ (g.link q).reg.timedOut = false) →
        t.link q = { g.link q with reg := { (g.link q).reg with
          captureWindow := clampTo 8 64 capture, holdWindow := max (clampTo 8 64 capture) (clampTo 16 128 hold)
          searchTimeout := clampTo 4 60 timeout, policy := pol, search := min (clampTo 4 60 timeout) (g.link q).reg.search
          timedOut := (g.link q).reg.timedOut || fires } } ∧
        t.ports = (if fires then (g.latchAll (regTimeoutOf q) .none).ports else g.ports)) ∧
      t.renderer = { g.renderer with stallWindow := clampTo 10 2550 stall } ∧ (∀ q', q' ≠ q → t.link q' = g.link q') ∧
      { t with links := g.links, ports := g.ports, renderer := g.renderer } = g

/-- A frame request first removes head frames that are dead, or that are not band 0 and belong to no attempt in transmission
(R145, R148, R154). The first request of a period (R145): with a band 0 frame then at the head, the lock LOCKED and fewer than 4
records, an attempt begins and the frame goes out with the correction as its start correction and a check over the whole frame;
otherwise the answer is fill. The period counts as answered. A later request (R146): the next band of the attempt in
transmission, if it then stands at the head, goes out with start correction 0 and is counted in the attempt's own record, the
last with its tag, copy and serial, and after the last band none is in transmission; if the FIFO is empty or its head is any
other frame, the answer is fill and the attempt is spoiled (R150). With none in transmission the answer is fill, and so with no
period open (R147, assumption 40). OFFLINE a request is discarded, during the settings load the answer is fill (R144, R196). A
proof may then take the renderer at a copy boundary (assumption 10). -/
def Obligations.FrameRequestsBeginAndContinueAttempts : Prop :=
  (∀ (s : State) (q : Press) (fifo : List BandFrame), (s.link q).online = true → s.settings.state ≠ .loading →
     fifo = (s.link q).fifo.dropWhile (fun f =>
       (s.link q).isDead f || (decide (f.band ≠ 0) && !(s.link q).inTransmission f.tag f.copy f.serial)) →
     ((s.link q).period = .opened false →
       (∀ f fs sent, fifo = f :: fs → f.band = 0 → (s.link q).reg.state = .locked → (s.link q).attempts.length < 4 →
         sent = { f with startCorrection := (s.link q).reg.correction } →
         exec (.frameRequest q) s = .next ((s.setLink q { s.link q with
           period := .opened true, fifo := fs.dropWhile (s.link q).isDead, lane := some (.band sent sent.check)
           attempts := (s.link q).attempts ++
             [{ tag := f.tag, copy := f.copy, serial := f.serial, bandCount := f.bandCount, sent := 1, received := 0
                error := false, voided := false }]
           transmission :=
             some { tag := f.tag, copy := f.copy, serial := f.serial, bandCount := f.bandCount, next := 1 } }).raise
           (pressUnit q) 1).recheckWait) ∧
       ((∀ f, fifo.head? = some f → f.band ≠ 0) ∨ (s.link q).reg.state ≠ .locked ∨ 4 ≤ (s.link q).attempts.length →
         exec (.frameRequest q) s = .next (s.setLink q { s.link q with
           period := .opened true, fifo := fifo, lane := some .fill }).recheckWait)) ∧
     ((s.link q).period ≠ .opened false →
       ((s.link q).transmission = none →
         exec (.frameRequest q) s = .next (s.setLink q { s.link q with fifo := fifo, lane := some .fill }).recheckWait) ∧
       (∀ x f fs sent before a after, (s.link q).transmission = some x → fifo = f :: fs →
         f.tag = x.tag → f.copy = x.copy → f.serial = x.serial → f.band = x.next → sent = { f with startCorrection := 0 } →
         (s.link q).attempts = before ++ a :: after → a.tag = x.tag → a.copy = x.copy → a.serial = x.serial →
         (∀ b ∈ after, ¬(b.tag = x.tag ∧ b.copy = x.copy ∧ b.serial = x.serial)) →
         exec (.frameRequest q) s = .next ((s.setLink q { s.link q with
           fifo := fs.dropWhile (s.link q).isDead, lane := some (.band sent sent.check)
           attempts := before ++ { a with sent := a.sent + 1 } :: after
           transmission := if x.next + 1 < x.bandCount then some { x with next := x.next + 1 } else none }).raise
           (pressUnit q) 1).recheckWait) ∧
       (∀ x, (s.link q).transmission = some x →
         (∀ f, fifo.head? = some f → ¬(f.tag = x.tag ∧ f.copy = x.copy ∧ f.serial = x.serial ∧ f.band = x.next)) →
         exec (.frameRequest q) s = .next
           ((s.setLink q { s.link q with fifo := fifo, lane := some .fill }).linkSpoil q x.tag x.copy).recheckWait))) ∧
  (∀ (u : State) (q : Press),
     ((u.link q).online = false → exec (.frameRequest q) u = .next u) ∧
     ((u.link q).online = true → u.settings.state = .loading →
       exec (.frameRequest q) u = .next (u.setLink q { u.link q with lane := some .fill })))

/-- A status report belongs to the oldest record with a report due, whose received count rises (R149): an OK on the last band of
a whole attempt is counted and confirms the copy to the job table (R134); a CHECK_ERROR is counted, sets the record's error mark
and spoils the attempt (R150), counted first as a check error, which is the model's choice (assumption 56); on a void record it
does no more than count; any other OK does no more. Records fully reported
then leave the list, but the own record of the attempt in transmission, the last with its tag, copy and serial (R143,
assumption 29). With no report due, or OFFLINE, it is discarded. A proof may then take the renderer at a copy boundary
(assumption 10). -/
def Obligations.AStatusReportMatchesTheOldestDue : Prop :=
  (∀ (s : State) (q : Press), (s.link q).online = true →
     (∀ before a after e u, (s.link q).attempts = before ++ a :: after → (∀ x ∈ before, x.sent ≤ x.received) →
       a.received < a.sent →
       u = s.setLink q { s.link q with attempts :=
         before ++ { a with received := a.received + 1, error := a.error || (e && !a.voided) } :: after } →
       (e = false → a.voided = false → a.error = false → a.received + 1 = a.bandCount →
         exec (.statusReport q e) s =
           .next (((u.raise (pressUnit q) 0).takeConfirmation a.tag).dropReported q).recheckWait) ∧
       (e = false → a.voided = true ∨ a.error = true ∨ a.received + 1 ≠ a.bandCount →
         exec (.statusReport q e) s = .next (u.dropReported q).recheckWait) ∧
       (e = true → a.voided = false →
         exec (.statusReport q e) s =
           .next (((u.raise (pressUnit q) 2).linkSpoil q a.tag a.copy).dropReported q).recheckWait) ∧
       (e = true → a.voided = true →
         exec (.statusReport q e) s = .next ((u.raise (pressUnit q) 2).dropReported q).recheckWait)) ∧
     ((∀ x ∈ (s.link q).attempts, x.sent ≤ x.received) → ∀ e, exec (.statusReport q e) s = .next s)) ∧
  (∀ (u : State) (q : Press) e, (u.link q).online = false → exec (.statusReport q e) u = .next u) ∧
  (∀ l : Link,
     { l.dropReported with attempts := l.attempts } = l ∧ l.dropReported.attempts.Sublist l.attempts ∧
     (∀ a ∈ l.attempts, a.received < a.sent → a ∈ l.dropReported.attempts) ∧
     (l.transmission = none → l.dropReported.attempts = l.attempts.filter (fun a => decide (a.received < a.sent))) ∧
     (∀ x before a after, l.transmission = some x → l.attempts = before ++ a :: after → a.tag = x.tag → a.copy = x.copy →
       a.serial = x.serial → (∀ b ∈ after, ¬(b.tag = x.tag ∧ b.copy = x.copy ∧ b.serial = x.serial)) →
       l.dropReported.attempts = before.filter (fun b => decide (b.received < b.sent)) ++
         a :: after.filter (fun b => decide (b.received < b.sent))))

/-- The online line (R153, R154, R162): a fall hands the job table one uncounted spoil for each job concerned, at the lowest copy
of its unconfirmed attempts, flushes the link, counts its unconfirmed attempts as spoiled, and takes the lock to OFFLINE with
correction 0. Unconfirmed are the attempts of the records that are not void and of the frames that are not dead. That the jobs
come in the order in which they first appear, records before frames, and before the flush, is the model's reading
(assumption 33). A proof may then take the renderer at a copy boundary (assumption 10). COPY_SPOILED stands at every port after a
spoil that the job table takes (R135). A rise opens the link with the lock in SEARCH, correction and REG_TIMEOUT as they stand. -/
def Obligations.TheOnlineLineOpensAndFlushesTheLink : Prop :=
  ∀ (s : State) (q : Press),
    ((s.link q).online = true → ∃ t : State, exec (.onlineFall q) s = .next t ∧
      t.link q = { s.link q with
        onlineLine := false, online := false, period := .closed, transmission := none, attempts := [], rules := [], fifo := []
        reg := { (s.link q).reg with
          state := .offline, confirm := 0, bad := 0, search := 0, correction := 0, timedOut := false } } ∧
      t.counters = (s.raiseTimes (pressUnit q) 3 (s.link q).unconfirmed.length).counters ∧
      (∀ q', q' ≠ q → t.link q' = s.link q') ∧ t.sheets = s.sheets ∧ t.portraits = s.portraits ∧
      (∀ (lost : List (Nat × Nat × Nat)) (u : State), lost = (s.link q).unconfirmed →
        u = (distinct (lost.map (·.1))).foldl (fun v tag => v.takeSpoil q tag (lowestCopy lost tag) false) s →
        State.mayYield { u with links := t.links, counters := t.counters, ports := t.ports } t ∧
        (∀ p n, n ≠ 11 → tabFind (t.port p).notices n = tabFind (u.port p).notices n) ∧
        ((∃ x ∈ lost, (s.reportJob x.1).isSome) → ∀ p, (tabFind (t.port p).notices 5).isSome))) ∧
    ((s.link q).unconfirmed.Nodup ∧ ∀ n c v, (n, c, v) ∈ (s.link q).unconfirmed ↔
      (∃ a ∈ (s.link q).attempts, a.voided = false ∧ a.tag = n ∧ a.copy = c ∧ a.serial = v) ∨
        ∃ f ∈ (s.link q).fifo, (s.link q).isDead f = false ∧ f.tag = n ∧ f.copy = c ∧ f.serial = v) ∧
    (∀ x ∈ (s.link q).unconfirmed, x.1 ∈ distinct ((s.link q).unconfirmed.map (·.1)) ∧
      lowestCopy (s.link q).unconfirmed x.1 ≤ x.2.1 ∧
      ∃ y ∈ (s.link q).unconfirmed, y.1 = x.1 ∧ y.2.1 = lowestCopy (s.link q).unconfirmed x.1) ∧
    ((distinct ((s.link q).unconfirmed.map (·.1))).Nodup ∧
      (distinct ((s.link q).unconfirmed.map (·.1))).Sublist ((s.link q).unconfirmed.map (·.1))) ∧
    ((s.link q).online = false → exec (.onlineRise q) s = .next (s.setLink q { s.link q with
      onlineLine := true, online := true, period := .closed, transmission := none, attempts := []
      reg := { (s.link q).reg with state := .search, confirm := 0, bad := 0, search := 0 } })) ∧
    ((s.link q).online = false → exec (.onlineFall q) s = .next (s.setLink q { s.link q with onlineLine := false })) ∧
    ((s.link q).online = true → exec (.onlineRise q) s = .next (s.setLink q { s.link q with onlineLine := true }))

/-- A return-lane word of unknown kind, or with nonzero bits where its layout has none, is discarded whole; an offset of −2048
is taken as −2047; and with found clear the stray flag and the offset do not matter (R193, R194). -/
def Obligations.BadReturnWordsAreDiscarded : Prop :=
  ∀ (s : State) (q : Press),
    (∀ w : Word32, returnWordGood w = false → exec (.badReturnWord q w) s = .next s) ∧
    (∀ w : Word32, returnWordGood w = true ↔ (returnUnitOf w).isSome) ∧
    (∀ found stray, exec (.markReport q found stray (-2048#12)) s = exec (.markReport q found stray (-2047#12)) s) ∧
    (∀ stray stray' offset offset', exec (.markReport q false stray offset) s = exec (.markReport q false stray' offset') s)

/-! ### Arbiter settings, notices and counters -/

/-- SET ARBITER (R175, R176): four desk weights of 0 draw BAD_FORM; else each is taken as at most 8, the image port's as 1 to
8, with ADJUSTED when any was moved; a port left with weight 0 while its slot is WAITING withdraws its request and answers
DISABLED. -/
def Obligations.SetArbiterStoresTheWeights : Prop :=
  ∀ (s g : State) (p : Port) (tag w0 w1 w2 w3 wi : Nat), s.served p (.setArbiter w0 w1 w2 w3 wi) tag = some g →
    (w0 = 0 → w1 = 0 → w2 = 0 → w3 = 0 → exec (.setArbiter p) s = .next (g.finish p tag (Answer.refuse .badForm))) ∧
    (0 < w0 + w1 + w2 + w3 → ∃ t : State,
      exec (.setArbiter p) s = .next (t.finish p tag (Answer.done
        (decide (8 < w0 ∨ 8 < w1 ∨ 8 < w2 ∨ 8 < w3 ∨ wi = 0 ∨ 8 < wi))
        (byte1 (min 8 w0) ++ byte1 (min 8 w1) ++ byte1 (min 8 w2) ++ byte1 (min 8 w3) ++ byte1 (max 1 (min 8 wi))))) ∧
      t.arbiter = { g.arbiter with
        weights := ⟨min 8 w0, min 8 w1, min 8 w2, min 8 w3⟩, imageWeight := max 1 (min 8 wi) } ∧
      (∀ d h, (g.port d).slot = .waiting h → (⟨min 8 w0, min 8 w1, min 8 w2, min 8 w3⟩ : PerPort Nat).get d = 0 →
        (t.port d).slot = .empty ∧
        (t.port d).replies = (g.port d).replies ++ [(Answer.refuse .disabled).reply h.tag]) ∧
      (∀ d, (∀ h, (g.port d).slot ≠ .waiting h) ∨ 0 < (⟨min 8 w0, min 8 w1, min 8 w2, min 8 w3⟩ : PerPort Nat).get d →
        (t.port d).slot = (g.port d).slot ∧ (t.port d).replies = (g.port d).replies) ∧
      { t with ports := g.ports, arbiter := g.arbiter, counters := g.counters } = g)

/-- SET NOTICE MASK stores the mask at the port, brings the attention line up to date and answers with the mask before; a mask
with bit 15 set is refused with BAD_FORM (R185). -/
def Obligations.SetNoticeMaskStoresTheMask : Prop :=
  ∀ (s g : State) (p : Port) (tag m : Nat), s.served p (.setNoticeMask m) tag = some g →
    (m < 32768 → exec (.setNoticeMask p) s = .next
      ((g.setPort p { g.port p with
        mask := BitVec.ofNat 16 m
        attention := (g.port p).notices.any (fun e => !(BitVec.ofNat 16 m).getLsbD e.1) }).finish p tag
        (Answer.done false (byte2 (g.port p).mask.toNat)))) ∧
    (32768 ≤ m → exec (.setNoticeMask p) s = .next (g.finish p tag (Answer.refuse .badForm)))

/-- READ NOTICES returns a copy of the port's flags and its mask and clears the flags; REG_TIMEOUT is latched again at once
for a press whose condition holds (R182, R184). The layout of the copy is the model's reading (assumptions 17,
18, 51). -/
def Obligations.ReadNoticesClearsTheSet : Prop :=
  ∀ (s g : State) (p : Port) (tag : Nat), s.served p .readNotices tag = some g → ∃ t : State,
    exec (.readNotices p) s = .next (t.finish p tag (Answer.done false (noticeBytes (g.port p)))) ∧
    (∀ n, n < 13 → tabFind (t.port p).notices n = none) ∧
    tabFind (t.port p).notices 13 = (if (g.link .a).reg.timedOut then some { count := 1, subject := .none } else none) ∧
    tabFind (t.port p).notices 14 = (if (g.link .b).reg.timedOut then some { count := 1, subject := .none } else none) ∧
    (t.port p).attention = ((g.link .a).reg.timedOut && !(g.port p).mask.getLsbD 13 ||
      (g.link .b).reg.timedOut && !(g.port p).mask.getLsbD 14) ∧
    (t.port p).mask = (g.port p).mask ∧ (t.port p).slot = (g.port p).slot ∧ (t.port p).replies = (g.port p).replies ∧
    (∀ d, d ≠ p → t.port d = g.port d) ∧ { t with ports := g.ports } = g

/-- A latch of a kind at a port (R181, R183): a clear flag is set with count 1, a set one counts one more up to 255, the
subject is the latest, the other flags stay, and the attention line follows the flags and the mask. -/
def Obligations.ALatchCountsAndKeepsTheLatestSubject : Prop :=
  ∀ (d : DeskPort) (k : Notice) (x : Subject),
    (tabFind d.notices k.flag = none → tabFind (d.latch k x).notices k.flag = some { count := 1, subject := x }) ∧
    (∀ l, tabFind d.notices k.flag = some l →
      tabFind (d.latch k x).notices k.flag = some { count := min 255 (l.count + 1), subject := x }) ∧
    (∀ n, n ≠ k.flag → tabFind (d.latch k x).notices n = tabFind d.notices n) ∧
    (tabSorted d.notices = true →
      ((d.latch k x).attention = true ↔ ∃ n, (tabFind (d.latch k x).notices n).isSome ∧ d.mask.getLsbD n = false)) ∧
    { d.latch k x with notices := d.notices, attention := d.attention } = d

/-- A counter that rises from its top value wraps to 0, sets its overflow flag and latches COUNTER_WRAP with its unit and
index at every port; from any other value it rises by 1 and nothing else moves (R187). -/
def Obligations.ACounterWrapsWithItsFlag : Prop :=
  ∀ (s : State) (u i : Nat), i < 8 →
    ((s.counter u i).value = 4294967295#32 →
      (s.raise u i).counter u i = { value := 0, overflow := true } ∧
      ∀ p, (s.raise u i).port p = (s.port p).latch .counterWrap (.counter u i)) ∧
    ((s.counter u i).value ≠ 4294967295#32 →
      (s.raise u i).counter u i = { s.counter u i with value := (s.counter u i).value + 1 } ∧ (s.raise u i).ports = s.ports) ∧
    (∀ v j, j < 8 → (v, j) ≠ (u, i) → (s.raise u i).counter v j = s.counter v j) ∧
    { s.raise u i with counters := s.counters, ports := s.ports } = s

/-- CLEAR COUNTERS answers with the counters it names as they stood and sets them and their overflow flags to 0; a unit beyond
6 or an index beyond the unit's counters is refused with BAD_INDEX (R188). That the answer is
a list, of one for a single counter, is the model's reading (assumption 19). -/
def Obligations.ClearCountersZeroesWhatItNames : Prop :=
  ∀ (s g : State) (p : Port) (tag u : Nat) (index : Option Nat), s.served p (.clearCounters u index) tag = some g →
    (7 ≤ u → exec (.clearCounters p) s = .next (g.finish p tag (Answer.refuse .badIndex))) ∧
    (∀ i, u ≤ 6 → index = some i → (if u < 2 then 6 else 3) ≤ i →
      exec (.clearCounters p) s = .next (g.finish p tag (Answer.refuse .badIndex))) ∧
    (∀ i, u ≤ 6 → index = some i → i < (if u < 2 then 6 else 3) → ∃ t : State,
      exec (.clearCounters p) s = .next (t.finish p tag (Answer.done false
        (byte2 1 ++ byte4 (g.counter u i).value.toNat ++ byteFlag (g.counter u i).overflow))) ∧
      t.counter u i = { value := 0, overflow := false } ∧
      (∀ v j, j < 8 → (v, j) ≠ (u, i) → t.counter v j = g.counter v j) ∧ { t with counters := g.counters } = g) ∧
    (u ≤ 6 → index = none → ∃ t : State,
      exec (.clearCounters p) s = .next (t.finish p tag (Answer.done false
        (byteList (fun i => counterBytes (g.counter u i)) (List.range (if u < 2 then 6 else 3))))) ∧
      (∀ i, i < (if u < 2 then 6 else 3) → t.counter u i = { value := 0, overflow := false }) ∧
      (∀ v j, v ≠ u → j < 8 → t.counter v j = g.counter v j) ∧ { t with counters := g.counters } = g)

/-! ### Settings and reset -/

/-- SAVE SETTINGS is BUSY while a save is in progress; else it starts the write of the values as they stand, each port's mask
standing as its default mask from then on; the write ends ok exactly when the read-back is the image written (R197). The end
of the start-up load (R196): a good image gives the weights, windows, timeouts, policies, stall window and masks; a bad or
missing one gives the defaults and latches SETTINGS_DEFAULT everywhere; the port is then idle. That the end of a write or of a load which is
not in progress changes nothing is the model's choice (assumption 7). That the settings port returns the new values from the acceptance of a save, and keeps them when it fails, is the
model's choice (assumption 15); that a mask with bit 15 set or a policy code above 1 makes an image bad is its reading
(assumption 35). -/
def Obligations.SettingsAreSavedAndLoaded : Prop :=
  (∀ (s g : State) (p : Port) (tag : Nat),
     (s.served p .saveSettings tag = some g →
       (g.settings.state = .saving → exec (.saveSettings p) s = .next (g.finish p tag Answer.busy)) ∧
       (g.settings.state ≠ .saving → ∃ t : State, exec (.saveSettings p) s = .next (t.finish p tag Answer.ok) ∧
         t.settings = { g.settings with state := .saving, image := g.currentSettings } ∧
         (∀ d, t.port d = { g.port d with defaultMask := (g.port d).mask }) ∧
         { t with settings := g.settings, ports := g.ports } = g)) ∧
     (∀ readBack, s.settings.state = .saving →
       exec (.settingsSaveComplete readBack) s = .next { s with settings := { s.settings with
         state := .idle, lastSave := if readBack = settingsBytes s.settings.image then .ok else .failed } }) ∧
     (∀ readBack, s.settings.state ≠ .saving → exec (.settingsSaveComplete readBack) s = .next s)) ∧
  (∀ (s : State) (image : Option (List Byte)), s.settings.state = .loading → ∃ t : State,
     exec (.settingsLoadComplete image) s = .next t ∧
     (∀ v, (image.bind settingsOf = some v ∨ image.bind settingsOf = none ∧ v = Settings.default) →
       t.settings = { state := .idle, lastSave := .none, image := v } ∧ t.arbiter.weights = v.weights ∧
       t.arbiter.imageWeight = v.imageWeight ∧ (t.link .a).reg.settings = v.presses.a ∧
       (t.link .b).reg.settings = v.presses.b ∧ t.renderer = { s.renderer with stallWindow := v.stallWindow } ∧
       ∀ p, (t.port p).mask = v.masks.get p ∧ (t.port p).defaultMask = v.masks.get p) ∧
     (image.bind settingsOf = none → ∀ p, (tabFind (t.port p).notices 12).map (·.subject) = some .none) ∧
     { t with settings := s.settings, arbiter := s.arbiter, links := s.links, renderer := s.renderer, ports := s.ports
              counters := s.counters } = s ∧
     (∀ u : State, u.settings.state ≠ .loading → exec (.settingsLoadComplete image) u = .next u))

/-- RESET leaves every block at its reset value: empty tables, epochs and counters at 0, no engine held, the turn at DP0, a
whole free pool, an idle image port, no jobs with the tag counter at 1, press B served last, FIFOs and lists empty, and the
settings load in progress (the reset column of every table); the input pins stand as they are. -/
def Obligations.ResetLeavesTheResetValues : Prop :=
  ∀ s : State, ∃ t : State, exec .reset s = .next t ∧
    (∀ i, t.book i = none ∧ t.sec i = none ∧ t.sheet i = none ∧ t.entry i = none ∧ t.epoch i = 0 ∧
      t.portrait i = Portrait.reset) ∧
    t.queue = [] ∧ t.placing = none ∧ t.jobs = [] ∧ t.tagCounter = 1 ∧ t.pool.freeCount = 262144 ∧ t.pool.owned = [] ∧
    t.image = { state := .idle, header := none, load := none, timer := none, reply := none } ∧
    t.arbiter.turn = .desk .dp0 ∧ t.arbiter.run = 0 ∧ t.arbiter.engine = none ∧ t.settings.state = .loading ∧
    t.renderer.band = none ∧ t.renderer.lastServed = .b ∧ t.renderer.stallTimer = none ∧
    (∀ u i, t.counter u i = { value := 0, overflow := false }) ∧
    (∀ p, (t.port p).slot = .empty ∧ (t.port p).silent = false ∧ (t.port p).replies = [] ∧ (t.port p).notices = [] ∧
      (t.port p).attention = false ∧ (t.port p).breakLevel = (s.port p).breakLevel ∧
      (t.port p).receiver = (if (s.port p).breakLevel then .atBreak else .idle)) ∧
    (∀ q, (t.link q).onlineLine = (s.link q).onlineLine ∧ (t.link q).online = (s.link q).onlineLine ∧
      (t.link q).reg.state = (if (s.link q).onlineLine then .search else .offline) ∧ (t.link q).reg.correction = 0 ∧
      (t.link q).reg.timedOut = false ∧ (t.link q).period = .closed ∧ (t.link q).transmission = none ∧
      (t.link q).attempts = [] ∧ (t.link q).rules = [] ∧ (t.link q).fifo = [])

/-! ### What every step keeps, and frames -/

/-- Every step keeps the press links sound (R143, R156, R158, R162, R164): the counts, windows and correction in their ranges,
the lock OFFLINE exactly when the link is and then with correction 0, a transmission only under LOCKED, at most 4 attempt
records. -/
def Obligations.EveryStepKeepsTheLinksSound : Prop :=
  ∀ s t : State, s.linksSound → step s = .next t → t.linksSound

/-- Every step keeps the desk ports sound (R167, R171, R183): attention follows the flags and the mask, and the reply queue
keeps a place for the reply of the request in the slot. Every step keeps the image pool's memory in its canonical form inside
the pool's address space (R67). -/
def Obligations.EveryStepKeepsPortsAndPoolSound : Prop :=
  (∀ s t : State, s.portsSound → step s = .next t → t.portsSound) ∧
  (∀ s t : State, s.poolSound → step s = .next t → t.poolSound)

/-- Every step keeps the job table sound (R118, R119, R126): distinct tags, collections within their places, at most one
ACTIVE and at most one SUSPENDED job. -/
def Obligations.EveryStepKeepsTheJobsSound : Prop :=
  ∀ s t : State, s.jobsSound → step s = .next t → t.jobsSound

/-- Every step keeps the book table sound: sections and sheets in their lists, rosters of the section's own entries in strict
collation order, and the placement queue holding each STALE sheet once and no other (R6, R10, R28, R78). Every step keeps the
directory and the pool sound: use counts are the numbers of entries that reference a portrait (R61), no block has two owners,
and the free count and the owned blocks make up the pool (R67). On a sound book table every step that makes no new image current
keeps every locked sheet PLACED or IN_PRESS (R51): no portrait holds a pending image, and the command is not the grant of an end
mark. The state after reset is sound in all three ways, whatever the input pins. -/
def Obligations.EveryStepKeepsTheTablesSound : Prop :=
  (∀ s t : State, s.booksSound → step s = .next t → t.booksSound) ∧
  (∀ s t : State, s.directorySound → step s = .next t → t.directorySound) ∧
  (∀ s t : State, s.booksSound → s.locksSound → (∀ i, (s.portrait i).pendingImage = none) →
     s.pending.head? ≠ some .imageEndMarkGrant → step s = .next t → t.locksSound) ∧
  (∀ breaks lines, (State.resetWith breaks lines).booksSound ∧ (State.resetWith breaks lines).directorySound ∧
     (State.resetWith breaks lines).locksSound)

/-- The state after reset is sound in each of the four ways, whatever the input pins. -/
def Obligations.TheResetStateIsSound : Prop :=
  State.reset.linksSound ∧ State.reset.portsSound ∧ State.reset.poolSound ∧ State.reset.jobsSound ∧
    ∀ breaks lines, (State.resetWith breaks lines).linksSound ∧ (State.resetWith breaks lines).portsSound ∧
      (State.resetWith breaks lines).poolSound ∧ (State.resetWith breaks lines).jobsSound

/-- The frame of the book and roster rows: they leave the press links, the jobs and their tags, the renderer, the pool, the
image port, the settings, the placement unit and the queue of commands, and keep every portrait's images, generation, pins and
locks. The frame of the READ rows: outside the ports, the arbiter and the counters nothing moves; READ changes nothing (R23,
R45). -/
def Obligations.BookAndReadRowsLeaveTheRest : Prop :=
  (∀ (c : Instr) (p : Port) (s t : State),
     c ∈ [.openBook p, .setBook p, .closeBook p, .addSection p, .setSection p, .dropSection p, .addSheet p, .dropSheet p,
       .setLayout p, .addEntry p, .dropEntry p, .editEntryName p, .editEntryRole p, .editEntryStatus p,
       .editEntryPortrait p, .moveEntry p, .swapPortraits p] → exec c s = .next t →
     t.links = s.links ∧ t.jobs = s.jobs ∧ t.tagCounter = s.tagCounter ∧ t.renderer = s.renderer ∧ t.pool = s.pool ∧
       t.image = s.image ∧ t.settings = s.settings ∧ t.placing = s.placing ∧ t.pending = s.pending ∧
       ∀ i, { t.portrait i with useCount := (s.portrait i).useCount } = s.portrait i) ∧
  (∀ (c : Instr) (p : Port) (s t : State),
     c ∈ [.readBook p, .readSection p, .readSheet p, .readEntry p, .readRosterIndex p, .readPortrait p, .readImagePort p,
       .readPlacementUnit p, .readPlacementResult p, .readTile p, .readJob p, .readPressJobCollections p, .readRenderer p,
       .readPressLink p, .readDeskPort p, .readArbiter p, .readCounters p, .readSettingsPort p, .readNotices p,
       .setNoticeMask p, .unknownRequestCode p] → exec c s = .next t →
     { t with ports := s.ports, arbiter := s.arbiter, counters := s.counters } = s ∧
       t.arbiter.weights = s.arbiter.weights ∧ t.arbiter.imageWeight = s.arbiter.imageWeight)

/-- The frame of the press events: they leave the books, sections, entries, the image port, the settings, the arbiter and the
placement unit, and the other press's lock; and where no portrait holds a pending image, so that none can promote, every
sheet's epoch and the placement queue. The frame of the print rows SUBMIT RUN, SUBMIT PROOF, CANCEL JOB, FORCE RESYNC and SET
PRESS: they leave the books, sections, entries, the image port, the settings, the placement unit and the arbiter's weights. No
command but a payload transfer and reset changes what any byte of the image pool reads as (R67, R70). -/
def Obligations.PressEventsLeaveTheBooksAndThePool : Prop :=
  (∀ (c : Instr) (q : Press) (s t : State), exec c s = .next t →
     ((∃ f x o, c = .markReport q f x o) ∨ c = .frameRequest q ∨ (∃ e, c = .statusReport q e) ∨ c = .onlineFall q ∨
       c = .onlineRise q ∨ (∃ w, c = .badReturnWord q w) ∨ c = .rendererGrant ∨ c = .bandBegin ∨ c = .bandCompletion ∨
       c = .stallTimerExpiry) →
     t.books = s.books ∧ t.sections = s.sections ∧ t.entries = s.entries ∧ t.image = s.image ∧ t.settings = s.settings ∧
       t.arbiter = s.arbiter ∧ t.placing = s.placing ∧ t.tagCounter = s.tagCounter ∧
       ((∀ i, (s.portrait i).pendingImage = none) → t.epochs = s.epochs ∧ t.queue = s.queue) ∧
       (t.link (otherPress q)).reg = (s.link (otherPress q)).reg ∧
       (t.link (otherPress q)).online = (s.link (otherPress q)).online ∧
       (t.link (otherPress q)).lane = (s.link (otherPress q)).lane) ∧
  (∀ (c : Instr) (p : Port) (s t : State),
     c ∈ [.submitRun p, .submitProof p, .cancelJob p, .forceResync p, .setPress p] → exec c s = .next t →
     t.books = s.books ∧ t.sections = s.sections ∧ t.entries = s.entries ∧ t.image = s.image ∧ t.settings = s.settings ∧
       t.placing = s.placing ∧ t.arbiter.weights = s.arbiter.weights ∧ t.arbiter.imageWeight = s.arbiter.imageWeight) ∧
  (∀ (c : Instr) (s t : State), c ≠ .reset → (∀ n words, c ≠ .imagePayload n words) →
     (∀ words, c = .imageHeader words → transferKind words ≠ 2) → exec c s = .next t →
     ∀ a, t.pool.readByte a = s.pool.readByte a)
end

