-- ==== Sys2Proof/Laws/State.lean ====
section
/-! SUPPORT. What each small update of the state does to each of its fields: one lemma per field per update, true by `rfl`. -/

namespace Sys2Proof.Machine

open Sys2Proof

variable (s : State)

/-! ### `State.setPort` -/

@[simp] theorem State.setPort_pending (p : Port) (d : DeskPort) : (s.setPort p d).pending = s.pending := rfl
@[simp] theorem State.setPort_ports (p : Port) (d : DeskPort) : (s.setPort p d).ports = s.ports.set p d := rfl
@[simp] theorem State.setPort_arbiter (p : Port) (d : DeskPort) : (s.setPort p d).arbiter = s.arbiter := rfl
@[simp] theorem State.setPort_books (p : Port) (d : DeskPort) : (s.setPort p d).books = s.books := rfl
@[simp] theorem State.setPort_sections (p : Port) (d : DeskPort) : (s.setPort p d).sections = s.sections := rfl
@[simp] theorem State.setPort_sheets (p : Port) (d : DeskPort) : (s.setPort p d).sheets = s.sheets := rfl
@[simp] theorem State.setPort_epochs (p : Port) (d : DeskPort) : (s.setPort p d).epochs = s.epochs := rfl
@[simp] theorem State.setPort_entries (p : Port) (d : DeskPort) : (s.setPort p d).entries = s.entries := rfl
@[simp] theorem State.setPort_queue (p : Port) (d : DeskPort) : (s.setPort p d).queue = s.queue := rfl
@[simp] theorem State.setPort_placing (p : Port) (d : DeskPort) : (s.setPort p d).placing = s.placing := rfl
@[simp] theorem State.setPort_portraits (p : Port) (d : DeskPort) : (s.setPort p d).portraits = s.portraits := rfl
@[simp] theorem State.setPort_pool (p : Port) (d : DeskPort) : (s.setPort p d).pool = s.pool := rfl
@[simp] theorem State.setPort_image (p : Port) (d : DeskPort) : (s.setPort p d).image = s.image := rfl
@[simp] theorem State.setPort_jobs (p : Port) (d : DeskPort) : (s.setPort p d).jobs = s.jobs := rfl
@[simp] theorem State.setPort_tagCounter (p : Port) (d : DeskPort) : (s.setPort p d).tagCounter = s.tagCounter := rfl
@[simp] theorem State.setPort_renderer (p : Port) (d : DeskPort) : (s.setPort p d).renderer = s.renderer := rfl
@[simp] theorem State.setPort_links (p : Port) (d : DeskPort) : (s.setPort p d).links = s.links := rfl
@[simp] theorem State.setPort_counters (p : Port) (d : DeskPort) : (s.setPort p d).counters = s.counters := rfl
@[simp] theorem State.setPort_settings (p : Port) (d : DeskPort) : (s.setPort p d).settings = s.settings := rfl

/-! ### `State.mapPorts` -/

@[simp] theorem State.mapPorts_pending (f : DeskPort → DeskPort) : (s.mapPorts f).pending = s.pending := rfl
@[simp] theorem State.mapPorts_ports (f : DeskPort → DeskPort) : (s.mapPorts f).ports = s.ports.map f := rfl
@[simp] theorem State.mapPorts_arbiter (f : DeskPort → DeskPort) : (s.mapPorts f).arbiter = s.arbiter := rfl
@[simp] theorem State.mapPorts_books (f : DeskPort → DeskPort) : (s.mapPorts f).books = s.books := rfl
@[simp] theorem State.mapPorts_sections (f : DeskPort → DeskPort) : (s.mapPorts f).sections = s.sections := rfl
@[simp] theorem State.mapPorts_sheets (f : DeskPort → DeskPort) : (s.mapPorts f).sheets = s.sheets := rfl
@[simp] theorem State.mapPorts_epochs (f : DeskPort → DeskPort) : (s.mapPorts f).epochs = s.epochs := rfl
@[simp] theorem State.mapPorts_entries (f : DeskPort → DeskPort) : (s.mapPorts f).entries = s.entries := rfl
@[simp] theorem State.mapPorts_queue (f : DeskPort → DeskPort) : (s.mapPorts f).queue = s.queue := rfl
@[simp] theorem State.mapPorts_placing (f : DeskPort → DeskPort) : (s.mapPorts f).placing = s.placing := rfl
@[simp] theorem State.mapPorts_portraits (f : DeskPort → DeskPort) : (s.mapPorts f).portraits = s.portraits := rfl
@[simp] theorem State.mapPorts_pool (f : DeskPort → DeskPort) : (s.mapPorts f).pool = s.pool := rfl
@[simp] theorem State.mapPorts_image (f : DeskPort → DeskPort) : (s.mapPorts f).image = s.image := rfl
@[simp] theorem State.mapPorts_jobs (f : DeskPort → DeskPort) : (s.mapPorts f).jobs = s.jobs := rfl
@[simp] theorem State.mapPorts_tagCounter (f : DeskPort → DeskPort) : (s.mapPorts f).tagCounter = s.tagCounter := rfl
@[simp] theorem State.mapPorts_renderer (f : DeskPort → DeskPort) : (s.mapPorts f).renderer = s.renderer := rfl
@[simp] theorem State.mapPorts_links (f : DeskPort → DeskPort) : (s.mapPorts f).links = s.links := rfl
@[simp] theorem State.mapPorts_counters (f : DeskPort → DeskPort) : (s.mapPorts f).counters = s.counters := rfl
@[simp] theorem State.mapPorts_settings (f : DeskPort → DeskPort) : (s.mapPorts f).settings = s.settings := rfl

/-! ### `State.setLink` -/

@[simp] theorem State.setLink_pending (q : Press) (l : Link) : (s.setLink q l).pending = s.pending := rfl
@[simp] theorem State.setLink_ports (q : Press) (l : Link) : (s.setLink q l).ports = s.ports := rfl
@[simp] theorem State.setLink_arbiter (q : Press) (l : Link) : (s.setLink q l).arbiter = s.arbiter := rfl
@[simp] theorem State.setLink_books (q : Press) (l : Link) : (s.setLink q l).books = s.books := rfl
@[simp] theorem State.setLink_sections (q : Press) (l : Link) : (s.setLink q l).sections = s.sections := rfl
@[simp] theorem State.setLink_sheets (q : Press) (l : Link) : (s.setLink q l).sheets = s.sheets := rfl
@[simp] theorem State.setLink_epochs (q : Press) (l : Link) : (s.setLink q l).epochs = s.epochs := rfl
@[simp] theorem State.setLink_entries (q : Press) (l : Link) : (s.setLink q l).entries = s.entries := rfl
@[simp] theorem State.setLink_queue (q : Press) (l : Link) : (s.setLink q l).queue = s.queue := rfl
@[simp] theorem State.setLink_placing (q : Press) (l : Link) : (s.setLink q l).placing = s.placing := rfl
@[simp] theorem State.setLink_portraits (q : Press) (l : Link) : (s.setLink q l).portraits = s.portraits := rfl
@[simp] theorem State.setLink_pool (q : Press) (l : Link) : (s.setLink q l).pool = s.pool := rfl
@[simp] theorem State.setLink_image (q : Press) (l : Link) : (s.setLink q l).image = s.image := rfl
@[simp] theorem State.setLink_jobs (q : Press) (l : Link) : (s.setLink q l).jobs = s.jobs := rfl
@[simp] theorem State.setLink_tagCounter (q : Press) (l : Link) : (s.setLink q l).tagCounter = s.tagCounter := rfl
@[simp] theorem State.setLink_renderer (q : Press) (l : Link) : (s.setLink q l).renderer = s.renderer := rfl
@[simp] theorem State.setLink_links (q : Press) (l : Link) : (s.setLink q l).links = s.links.set q l := rfl
@[simp] theorem State.setLink_counters (q : Press) (l : Link) : (s.setLink q l).counters = s.counters := rfl
@[simp] theorem State.setLink_settings (q : Press) (l : Link) : (s.setLink q l).settings = s.settings := rfl

/-! ### `State.setBook` -/

@[simp] theorem State.setBook_pending (i : Nat) (o : Option Book) : (s.setBook i o).pending = s.pending := rfl
@[simp] theorem State.setBook_ports (i : Nat) (o : Option Book) : (s.setBook i o).ports = s.ports := rfl
@[simp] theorem State.setBook_arbiter (i : Nat) (o : Option Book) : (s.setBook i o).arbiter = s.arbiter := rfl
@[simp] theorem State.setBook_books (i : Nat) (o : Option Book) : (s.setBook i o).books = tabUpdate s.books i o := rfl
@[simp] theorem State.setBook_sections (i : Nat) (o : Option Book) : (s.setBook i o).sections = s.sections := rfl
@[simp] theorem State.setBook_sheets (i : Nat) (o : Option Book) : (s.setBook i o).sheets = s.sheets := rfl
@[simp] theorem State.setBook_epochs (i : Nat) (o : Option Book) : (s.setBook i o).epochs = s.epochs := rfl
@[simp] theorem State.setBook_entries (i : Nat) (o : Option Book) : (s.setBook i o).entries = s.entries := rfl
@[simp] theorem State.setBook_queue (i : Nat) (o : Option Book) : (s.setBook i o).queue = s.queue := rfl
@[simp] theorem State.setBook_placing (i : Nat) (o : Option Book) : (s.setBook i o).placing = s.placing := rfl
@[simp] theorem State.setBook_portraits (i : Nat) (o : Option Book) : (s.setBook i o).portraits = s.portraits := rfl
@[simp] theorem State.setBook_pool (i : Nat) (o : Option Book) : (s.setBook i o).pool = s.pool := rfl
@[simp] theorem State.setBook_image (i : Nat) (o : Option Book) : (s.setBook i o).image = s.image := rfl
@[simp] theorem State.setBook_jobs (i : Nat) (o : Option Book) : (s.setBook i o).jobs = s.jobs := rfl
@[simp] theorem State.setBook_tagCounter (i : Nat) (o : Option Book) : (s.setBook i o).tagCounter = s.tagCounter := rfl
@[simp] theorem State.setBook_renderer (i : Nat) (o : Option Book) : (s.setBook i o).renderer = s.renderer := rfl
@[simp] theorem State.setBook_links (i : Nat) (o : Option Book) : (s.setBook i o).links = s.links := rfl
@[simp] theorem State.setBook_counters (i : Nat) (o : Option Book) : (s.setBook i o).counters = s.counters := rfl
@[simp] theorem State.setBook_settings (i : Nat) (o : Option Book) : (s.setBook i o).settings = s.settings := rfl

/-! ### `State.setSec` -/

@[simp] theorem State.setSec_pending (i : Nat) (o : Option Section) : (s.setSec i o).pending = s.pending := rfl
@[simp] theorem State.setSec_ports (i : Nat) (o : Option Section) : (s.setSec i o).ports = s.ports := rfl
@[simp] theorem State.setSec_arbiter (i : Nat) (o : Option Section) : (s.setSec i o).arbiter = s.arbiter := rfl
@[simp] theorem State.setSec_books (i : Nat) (o : Option Section) : (s.setSec i o).books = s.books := rfl
@[simp] theorem State.setSec_sections (i : Nat) (o : Option Section) : (s.setSec i o).sections = tabUpdate s.sections i o := rfl
@[simp] theorem State.setSec_sheets (i : Nat) (o : Option Section) : (s.setSec i o).sheets = s.sheets := rfl
@[simp] theorem State.setSec_epochs (i : Nat) (o : Option Section) : (s.setSec i o).epochs = s.epochs := rfl
@[simp] theorem State.setSec_entries (i : Nat) (o : Option Section) : (s.setSec i o).entries = s.entries := rfl
@[simp] theorem State.setSec_queue (i : Nat) (o : Option Section) : (s.setSec i o).queue = s.queue := rfl
@[simp] theorem State.setSec_placing (i : Nat) (o : Option Section) : (s.setSec i o).placing = s.placing := rfl
@[simp] theorem State.setSec_portraits (i : Nat) (o : Option Section) : (s.setSec i o).portraits = s.portraits := rfl
@[simp] theorem State.setSec_pool (i : Nat) (o : Option Section) : (s.setSec i o).pool = s.pool := rfl
@[simp] theorem State.setSec_image (i : Nat) (o : Option Section) : (s.setSec i o).image = s.image := rfl
@[simp] theorem State.setSec_jobs (i : Nat) (o : Option Section) : (s.setSec i o).jobs = s.jobs := rfl
@[simp] theorem State.setSec_tagCounter (i : Nat) (o : Option Section) : (s.setSec i o).tagCounter = s.tagCounter := rfl
@[simp] theorem State.setSec_renderer (i : Nat) (o : Option Section) : (s.setSec i o).renderer = s.renderer := rfl
@[simp] theorem State.setSec_links (i : Nat) (o : Option Section) : (s.setSec i o).links = s.links := rfl
@[simp] theorem State.setSec_counters (i : Nat) (o : Option Section) : (s.setSec i o).counters = s.counters := rfl
@[simp] theorem State.setSec_settings (i : Nat) (o : Option Section) : (s.setSec i o).settings = s.settings := rfl

/-! ### `State.setSheet` -/

@[simp] theorem State.setSheet_pending (i : Nat) (o : Option Sheet) : (s.setSheet i o).pending = s.pending := rfl
@[simp] theorem State.setSheet_ports (i : Nat) (o : Option Sheet) : (s.setSheet i o).ports = s.ports := rfl
@[simp] theorem State.setSheet_arbiter (i : Nat) (o : Option Sheet) : (s.setSheet i o).arbiter = s.arbiter := rfl
@[simp] theorem State.setSheet_books (i : Nat) (o : Option Sheet) : (s.setSheet i o).books = s.books := rfl
@[simp] theorem State.setSheet_sections (i : Nat) (o : Option Sheet) : (s.setSheet i o).sections = s.sections := rfl
@[simp] theorem State.setSheet_sheets (i : Nat) (o : Option Sheet) : (s.setSheet i o).sheets = tabUpdate s.sheets i o := rfl
@[simp] theorem State.setSheet_epochs (i : Nat) (o : Option Sheet) : (s.setSheet i o).epochs = s.epochs := rfl
@[simp] theorem State.setSheet_entries (i : Nat) (o : Option Sheet) : (s.setSheet i o).entries = s.entries := rfl
@[simp] theorem State.setSheet_queue (i : Nat) (o : Option Sheet) : (s.setSheet i o).queue = s.queue := rfl
@[simp] theorem State.setSheet_placing (i : Nat) (o : Option Sheet) : (s.setSheet i o).placing = s.placing := rfl
@[simp] theorem State.setSheet_portraits (i : Nat) (o : Option Sheet) : (s.setSheet i o).portraits = s.portraits := rfl
@[simp] theorem State.setSheet_pool (i : Nat) (o : Option Sheet) : (s.setSheet i o).pool = s.pool := rfl
@[simp] theorem State.setSheet_image (i : Nat) (o : Option Sheet) : (s.setSheet i o).image = s.image := rfl
@[simp] theorem State.setSheet_jobs (i : Nat) (o : Option Sheet) : (s.setSheet i o).jobs = s.jobs := rfl
@[simp] theorem State.setSheet_tagCounter (i : Nat) (o : Option Sheet) : (s.setSheet i o).tagCounter = s.tagCounter := rfl
@[simp] theorem State.setSheet_renderer (i : Nat) (o : Option Sheet) : (s.setSheet i o).renderer = s.renderer := rfl
@[simp] theorem State.setSheet_links (i : Nat) (o : Option Sheet) : (s.setSheet i o).links = s.links := rfl
@[simp] theorem State.setSheet_counters (i : Nat) (o : Option Sheet) : (s.setSheet i o).counters = s.counters := rfl
@[simp] theorem State.setSheet_settings (i : Nat) (o : Option Sheet) : (s.setSheet i o).settings = s.settings := rfl

/-! ### `State.setEntry` -/

@[simp] theorem State.setEntry_pending (i : Nat) (o : Option Entry) : (s.setEntry i o).pending = s.pending := rfl
@[simp] theorem State.setEntry_ports (i : Nat) (o : Option Entry) : (s.setEntry i o).ports = s.ports := rfl
@[simp] theorem State.setEntry_arbiter (i : Nat) (o : Option Entry) : (s.setEntry i o).arbiter = s.arbiter := rfl
@[simp] theorem State.setEntry_books (i : Nat) (o : Option Entry) : (s.setEntry i o).books = s.books := rfl
@[simp] theorem State.setEntry_sections (i : Nat) (o : Option Entry) : (s.setEntry i o).sections = s.sections := rfl
@[simp] theorem State.setEntry_sheets (i : Nat) (o : Option Entry) : (s.setEntry i o).sheets = s.sheets := rfl
@[simp] theorem State.setEntry_epochs (i : Nat) (o : Option Entry) : (s.setEntry i o).epochs = s.epochs := rfl
@[simp] theorem State.setEntry_entries (i : Nat) (o : Option Entry) : (s.setEntry i o).entries = tabUpdate s.entries i o := rfl
@[simp] theorem State.setEntry_queue (i : Nat) (o : Option Entry) : (s.setEntry i o).queue = s.queue := rfl
@[simp] theorem State.setEntry_placing (i : Nat) (o : Option Entry) : (s.setEntry i o).placing = s.placing := rfl
@[simp] theorem State.setEntry_portraits (i : Nat) (o : Option Entry) : (s.setEntry i o).portraits = s.portraits := rfl
@[simp] theorem State.setEntry_pool (i : Nat) (o : Option Entry) : (s.setEntry i o).pool = s.pool := rfl
@[simp] theorem State.setEntry_image (i : Nat) (o : Option Entry) : (s.setEntry i o).image = s.image := rfl
@[simp] theorem State.setEntry_jobs (i : Nat) (o : Option Entry) : (s.setEntry i o).jobs = s.jobs := rfl
@[simp] theorem State.setEntry_tagCounter (i : Nat) (o : Option Entry) : (s.setEntry i o).tagCounter = s.tagCounter := rfl
@[simp] theorem State.setEntry_renderer (i : Nat) (o : Option Entry) : (s.setEntry i o).renderer = s.renderer := rfl
@[simp] theorem State.setEntry_links (i : Nat) (o : Option Entry) : (s.setEntry i o).links = s.links := rfl
@[simp] theorem State.setEntry_counters (i : Nat) (o : Option Entry) : (s.setEntry i o).counters = s.counters := rfl
@[simp] theorem State.setEntry_settings (i : Nat) (o : Option Entry) : (s.setEntry i o).settings = s.settings := rfl

/-! ### `State.bumpEpoch` -/

@[simp] theorem State.bumpEpoch_pending (i : Nat) : (s.bumpEpoch i).pending = s.pending := rfl
@[simp] theorem State.bumpEpoch_ports (i : Nat) : (s.bumpEpoch i).ports = s.ports := rfl
@[simp] theorem State.bumpEpoch_arbiter (i : Nat) : (s.bumpEpoch i).arbiter = s.arbiter := rfl
@[simp] theorem State.bumpEpoch_books (i : Nat) : (s.bumpEpoch i).books = s.books := rfl
@[simp] theorem State.bumpEpoch_sections (i : Nat) : (s.bumpEpoch i).sections = s.sections := rfl
@[simp] theorem State.bumpEpoch_sheets (i : Nat) : (s.bumpEpoch i).sheets = s.sheets := rfl
@[simp] theorem State.bumpEpoch_epochs (i : Nat) : (s.bumpEpoch i).epochs = tabUpdate s.epochs i (if s.epoch i + 1 = 0 then none else some (s.epoch i + 1)) := rfl
@[simp] theorem State.bumpEpoch_entries (i : Nat) : (s.bumpEpoch i).entries = s.entries := rfl
@[simp] theorem State.bumpEpoch_queue (i : Nat) : (s.bumpEpoch i).queue = s.queue := rfl
@[simp] theorem State.bumpEpoch_placing (i : Nat) : (s.bumpEpoch i).placing = s.placing := rfl
@[simp] theorem State.bumpEpoch_portraits (i : Nat) : (s.bumpEpoch i).portraits = s.portraits := rfl
@[simp] theorem State.bumpEpoch_pool (i : Nat) : (s.bumpEpoch i).pool = s.pool := rfl
@[simp] theorem State.bumpEpoch_image (i : Nat) : (s.bumpEpoch i).image = s.image := rfl
@[simp] theorem State.bumpEpoch_jobs (i : Nat) : (s.bumpEpoch i).jobs = s.jobs := rfl
@[simp] theorem State.bumpEpoch_tagCounter (i : Nat) : (s.bumpEpoch i).tagCounter = s.tagCounter := rfl
@[simp] theorem State.bumpEpoch_renderer (i : Nat) : (s.bumpEpoch i).renderer = s.renderer := rfl
@[simp] theorem State.bumpEpoch_links (i : Nat) : (s.bumpEpoch i).links = s.links := rfl
@[simp] theorem State.bumpEpoch_counters (i : Nat) : (s.bumpEpoch i).counters = s.counters := rfl
@[simp] theorem State.bumpEpoch_settings (i : Nat) : (s.bumpEpoch i).settings = s.settings := rfl

/-! ### `State.setPortrait` -/

@[simp] theorem State.setPortrait_pending (i : Nat) (r : Portrait) : (s.setPortrait i r).pending = s.pending := rfl
@[simp] theorem State.setPortrait_ports (i : Nat) (r : Portrait) : (s.setPortrait i r).ports = s.ports := rfl
@[simp] theorem State.setPortrait_arbiter (i : Nat) (r : Portrait) : (s.setPortrait i r).arbiter = s.arbiter := rfl
@[simp] theorem State.setPortrait_books (i : Nat) (r : Portrait) : (s.setPortrait i r).books = s.books := rfl
@[simp] theorem State.setPortrait_sections (i : Nat) (r : Portrait) : (s.setPortrait i r).sections = s.sections := rfl
@[simp] theorem State.setPortrait_sheets (i : Nat) (r : Portrait) : (s.setPortrait i r).sheets = s.sheets := rfl
@[simp] theorem State.setPortrait_epochs (i : Nat) (r : Portrait) : (s.setPortrait i r).epochs = s.epochs := rfl
@[simp] theorem State.setPortrait_entries (i : Nat) (r : Portrait) : (s.setPortrait i r).entries = s.entries := rfl
@[simp] theorem State.setPortrait_queue (i : Nat) (r : Portrait) : (s.setPortrait i r).queue = s.queue := rfl
@[simp] theorem State.setPortrait_placing (i : Nat) (r : Portrait) : (s.setPortrait i r).placing = s.placing := rfl
@[simp] theorem State.setPortrait_portraits (i : Nat) (r : Portrait) : (s.setPortrait i r).portraits = tabUpdate s.portraits i (if r = Portrait.reset then none else some r) := rfl
@[simp] theorem State.setPortrait_pool (i : Nat) (r : Portrait) : (s.setPortrait i r).pool = s.pool := rfl
@[simp] theorem State.setPortrait_image (i : Nat) (r : Portrait) : (s.setPortrait i r).image = s.image := rfl
@[simp] theorem State.setPortrait_jobs (i : Nat) (r : Portrait) : (s.setPortrait i r).jobs = s.jobs := rfl
@[simp] theorem State.setPortrait_tagCounter (i : Nat) (r : Portrait) : (s.setPortrait i r).tagCounter = s.tagCounter := rfl
@[simp] theorem State.setPortrait_renderer (i : Nat) (r : Portrait) : (s.setPortrait i r).renderer = s.renderer := rfl
@[simp] theorem State.setPortrait_links (i : Nat) (r : Portrait) : (s.setPortrait i r).links = s.links := rfl
@[simp] theorem State.setPortrait_counters (i : Nat) (r : Portrait) : (s.setPortrait i r).counters = s.counters := rfl
@[simp] theorem State.setPortrait_settings (i : Nat) (r : Portrait) : (s.setPortrait i r).settings = s.settings := rfl

/-! ### `State.putJob` -/

@[simp] theorem State.putJob_pending (j : Job) : (s.putJob j).pending = s.pending := rfl
@[simp] theorem State.putJob_ports (j : Job) : (s.putJob j).ports = s.ports := rfl
@[simp] theorem State.putJob_arbiter (j : Job) : (s.putJob j).arbiter = s.arbiter := rfl
@[simp] theorem State.putJob_books (j : Job) : (s.putJob j).books = s.books := rfl
@[simp] theorem State.putJob_sections (j : Job) : (s.putJob j).sections = s.sections := rfl
@[simp] theorem State.putJob_sheets (j : Job) : (s.putJob j).sheets = s.sheets := rfl
@[simp] theorem State.putJob_epochs (j : Job) : (s.putJob j).epochs = s.epochs := rfl
@[simp] theorem State.putJob_entries (j : Job) : (s.putJob j).entries = s.entries := rfl
@[simp] theorem State.putJob_queue (j : Job) : (s.putJob j).queue = s.queue := rfl
@[simp] theorem State.putJob_placing (j : Job) : (s.putJob j).placing = s.placing := rfl
@[simp] theorem State.putJob_portraits (j : Job) : (s.putJob j).portraits = s.portraits := rfl
@[simp] theorem State.putJob_pool (j : Job) : (s.putJob j).pool = s.pool := rfl
@[simp] theorem State.putJob_image (j : Job) : (s.putJob j).image = s.image := rfl
@[simp] theorem State.putJob_jobs (j : Job) : (s.putJob j).jobs = s.jobs.map (fun k => if k.tag = j.tag then j else k) := rfl
@[simp] theorem State.putJob_tagCounter (j : Job) : (s.putJob j).tagCounter = s.tagCounter := rfl
@[simp] theorem State.putJob_renderer (j : Job) : (s.putJob j).renderer = s.renderer := rfl
@[simp] theorem State.putJob_links (j : Job) : (s.putJob j).links = s.links := rfl
@[simp] theorem State.putJob_counters (j : Job) : (s.putJob j).counters = s.counters := rfl
@[simp] theorem State.putJob_settings (j : Job) : (s.putJob j).settings = s.settings := rfl

/-! ### `State.setCounter` -/

@[simp] theorem State.setCounter_pending (u i : Nat) (c : Counter) : (s.setCounter u i c).pending = s.pending := rfl
@[simp] theorem State.setCounter_ports (u i : Nat) (c : Counter) : (s.setCounter u i c).ports = s.ports := rfl
@[simp] theorem State.setCounter_arbiter (u i : Nat) (c : Counter) : (s.setCounter u i c).arbiter = s.arbiter := rfl
@[simp] theorem State.setCounter_books (u i : Nat) (c : Counter) : (s.setCounter u i c).books = s.books := rfl
@[simp] theorem State.setCounter_sections (u i : Nat) (c : Counter) : (s.setCounter u i c).sections = s.sections := rfl
@[simp] theorem State.setCounter_sheets (u i : Nat) (c : Counter) : (s.setCounter u i c).sheets = s.sheets := rfl
@[simp] theorem State.setCounter_epochs (u i : Nat) (c : Counter) : (s.setCounter u i c).epochs = s.epochs := rfl
@[simp] theorem State.setCounter_entries (u i : Nat) (c : Counter) : (s.setCounter u i c).entries = s.entries := rfl
@[simp] theorem State.setCounter_queue (u i : Nat) (c : Counter) : (s.setCounter u i c).queue = s.queue := rfl
@[simp] theorem State.setCounter_placing (u i : Nat) (c : Counter) : (s.setCounter u i c).placing = s.placing := rfl
@[simp] theorem State.setCounter_portraits (u i : Nat) (c : Counter) : (s.setCounter u i c).portraits = s.portraits := rfl
@[simp] theorem State.setCounter_pool (u i : Nat) (c : Counter) : (s.setCounter u i c).pool = s.pool := rfl
@[simp] theorem State.setCounter_image (u i : Nat) (c : Counter) : (s.setCounter u i c).image = s.image := rfl
@[simp] theorem State.setCounter_jobs (u i : Nat) (c : Counter) : (s.setCounter u i c).jobs = s.jobs := rfl
@[simp] theorem State.setCounter_tagCounter (u i : Nat) (c : Counter) : (s.setCounter u i c).tagCounter = s.tagCounter := rfl
@[simp] theorem State.setCounter_renderer (u i : Nat) (c : Counter) : (s.setCounter u i c).renderer = s.renderer := rfl
@[simp] theorem State.setCounter_links (u i : Nat) (c : Counter) : (s.setCounter u i c).links = s.links := rfl
@[simp] theorem State.setCounter_counters (u i : Nat) (c : Counter) : (s.setCounter u i c).counters = tabUpdate s.counters (counterKey u i) (if c = Counter.zero then none else some c) := rfl
@[simp] theorem State.setCounter_settings (u i : Nat) (c : Counter) : (s.setCounter u i c).settings = s.settings := rfl

/-! ### `State.joinQueue` -/

@[simp] theorem State.joinQueue_pending (i : Nat) : (s.joinQueue i).pending = s.pending := rfl
@[simp] theorem State.joinQueue_ports (i : Nat) : (s.joinQueue i).ports = s.ports := rfl
@[simp] theorem State.joinQueue_arbiter (i : Nat) : (s.joinQueue i).arbiter = s.arbiter := rfl
@[simp] theorem State.joinQueue_books (i : Nat) : (s.joinQueue i).books = s.books := rfl
@[simp] theorem State.joinQueue_sections (i : Nat) : (s.joinQueue i).sections = s.sections := rfl
@[simp] theorem State.joinQueue_sheets (i : Nat) : (s.joinQueue i).sheets = s.sheets := rfl
@[simp] theorem State.joinQueue_epochs (i : Nat) : (s.joinQueue i).epochs = s.epochs := rfl
@[simp] theorem State.joinQueue_entries (i : Nat) : (s.joinQueue i).entries = s.entries := rfl
@[simp] theorem State.joinQueue_queue (i : Nat) : (s.joinQueue i).queue = s.queue ++ [i] := rfl
@[simp] theorem State.joinQueue_placing (i : Nat) : (s.joinQueue i).placing = s.placing := rfl
@[simp] theorem State.joinQueue_portraits (i : Nat) : (s.joinQueue i).portraits = s.portraits := rfl
@[simp] theorem State.joinQueue_pool (i : Nat) : (s.joinQueue i).pool = s.pool := rfl
@[simp] theorem State.joinQueue_image (i : Nat) : (s.joinQueue i).image = s.image := rfl
@[simp] theorem State.joinQueue_jobs (i : Nat) : (s.joinQueue i).jobs = s.jobs := rfl
@[simp] theorem State.joinQueue_tagCounter (i : Nat) : (s.joinQueue i).tagCounter = s.tagCounter := rfl
@[simp] theorem State.joinQueue_renderer (i : Nat) : (s.joinQueue i).renderer = s.renderer := rfl
@[simp] theorem State.joinQueue_links (i : Nat) : (s.joinQueue i).links = s.links := rfl
@[simp] theorem State.joinQueue_counters (i : Nat) : (s.joinQueue i).counters = s.counters := rfl
@[simp] theorem State.joinQueue_settings (i : Nat) : (s.joinQueue i).settings = s.settings := rfl

/-! ### `State.freeEngine` -/

@[simp] theorem State.freeEngine_pending : (s.freeEngine).pending = s.pending := rfl
@[simp] theorem State.freeEngine_ports : (s.freeEngine).ports = s.ports := rfl
@[simp] theorem State.freeEngine_arbiter : (s.freeEngine).arbiter = { s.arbiter with engine := none } := rfl
@[simp] theorem State.freeEngine_books : (s.freeEngine).books = s.books := rfl
@[simp] theorem State.freeEngine_sections : (s.freeEngine).sections = s.sections := rfl
@[simp] theorem State.freeEngine_sheets : (s.freeEngine).sheets = s.sheets := rfl
@[simp] theorem State.freeEngine_epochs : (s.freeEngine).epochs = s.epochs := rfl
@[simp] theorem State.freeEngine_entries : (s.freeEngine).entries = s.entries := rfl
@[simp] theorem State.freeEngine_queue : (s.freeEngine).queue = s.queue := rfl
@[simp] theorem State.freeEngine_placing : (s.freeEngine).placing = s.placing := rfl
@[simp] theorem State.freeEngine_portraits : (s.freeEngine).portraits = s.portraits := rfl
@[simp] theorem State.freeEngine_pool : (s.freeEngine).pool = s.pool := rfl
@[simp] theorem State.freeEngine_image : (s.freeEngine).image = s.image := rfl
@[simp] theorem State.freeEngine_jobs : (s.freeEngine).jobs = s.jobs := rfl
@[simp] theorem State.freeEngine_tagCounter : (s.freeEngine).tagCounter = s.tagCounter := rfl
@[simp] theorem State.freeEngine_renderer : (s.freeEngine).renderer = s.renderer := rfl
@[simp] theorem State.freeEngine_links : (s.freeEngine).links = s.links := rfl
@[simp] theorem State.freeEngine_counters : (s.freeEngine).counters = s.counters := rfl
@[simp] theorem State.freeEngine_settings : (s.freeEngine).settings = s.settings := rfl

/-! ### `State.hold` -/

@[simp] theorem State.hold_pending (r : Requester) (n : Nat) : (s.hold r n).pending = s.pending := rfl
@[simp] theorem State.hold_ports (r : Requester) (n : Nat) : (s.hold r n).ports = s.ports := rfl
@[simp] theorem State.hold_arbiter (r : Requester) (n : Nat) : (s.hold r n).arbiter = { s.arbiter with turn := r, run := n, engine := some r } := rfl
@[simp] theorem State.hold_books (r : Requester) (n : Nat) : (s.hold r n).books = s.books := rfl
@[simp] theorem State.hold_sections (r : Requester) (n : Nat) : (s.hold r n).sections = s.sections := rfl
@[simp] theorem State.hold_sheets (r : Requester) (n : Nat) : (s.hold r n).sheets = s.sheets := rfl
@[simp] theorem State.hold_epochs (r : Requester) (n : Nat) : (s.hold r n).epochs = s.epochs := rfl
@[simp] theorem State.hold_entries (r : Requester) (n : Nat) : (s.hold r n).entries = s.entries := rfl
@[simp] theorem State.hold_queue (r : Requester) (n : Nat) : (s.hold r n).queue = s.queue := rfl
@[simp] theorem State.hold_placing (r : Requester) (n : Nat) : (s.hold r n).placing = s.placing := rfl
@[simp] theorem State.hold_portraits (r : Requester) (n : Nat) : (s.hold r n).portraits = s.portraits := rfl
@[simp] theorem State.hold_pool (r : Requester) (n : Nat) : (s.hold r n).pool = s.pool := rfl
@[simp] theorem State.hold_image (r : Requester) (n : Nat) : (s.hold r n).image = s.image := rfl
@[simp] theorem State.hold_jobs (r : Requester) (n : Nat) : (s.hold r n).jobs = s.jobs := rfl
@[simp] theorem State.hold_tagCounter (r : Requester) (n : Nat) : (s.hold r n).tagCounter = s.tagCounter := rfl
@[simp] theorem State.hold_renderer (r : Requester) (n : Nat) : (s.hold r n).renderer = s.renderer := rfl
@[simp] theorem State.hold_links (r : Requester) (n : Nat) : (s.hold r n).links = s.links := rfl
@[simp] theorem State.hold_counters (r : Requester) (n : Nat) : (s.hold r n).counters = s.counters := rfl
@[simp] theorem State.hold_settings (r : Requester) (n : Nat) : (s.hold r n).settings = s.settings := rfl

/-! ### `State.stopStall` -/

@[simp] theorem State.stopStall_pending : (s.stopStall).pending = s.pending := rfl
@[simp] theorem State.stopStall_ports : (s.stopStall).ports = s.ports := rfl
@[simp] theorem State.stopStall_arbiter : (s.stopStall).arbiter = s.arbiter := rfl
@[simp] theorem State.stopStall_books : (s.stopStall).books = s.books := rfl
@[simp] theorem State.stopStall_sections : (s.stopStall).sections = s.sections := rfl
@[simp] theorem State.stopStall_sheets : (s.stopStall).sheets = s.sheets := rfl
@[simp] theorem State.stopStall_epochs : (s.stopStall).epochs = s.epochs := rfl
@[simp] theorem State.stopStall_entries : (s.stopStall).entries = s.entries := rfl
@[simp] theorem State.stopStall_queue : (s.stopStall).queue = s.queue := rfl
@[simp] theorem State.stopStall_placing : (s.stopStall).placing = s.placing := rfl
@[simp] theorem State.stopStall_portraits : (s.stopStall).portraits = s.portraits := rfl
@[simp] theorem State.stopStall_pool : (s.stopStall).pool = s.pool := rfl
@[simp] theorem State.stopStall_image : (s.stopStall).image = s.image := rfl
@[simp] theorem State.stopStall_jobs : (s.stopStall).jobs = s.jobs := rfl
@[simp] theorem State.stopStall_tagCounter : (s.stopStall).tagCounter = s.tagCounter := rfl
@[simp] theorem State.stopStall_renderer : (s.stopStall).renderer = { s.renderer with stallTimer := none } := rfl
@[simp] theorem State.stopStall_links : (s.stopStall).links = s.links := rfl
@[simp] theorem State.stopStall_counters : (s.stopStall).counters = s.counters := rfl
@[simp] theorem State.stopStall_settings : (s.stopStall).settings = s.settings := rfl

/-! ### `State.clearBand` -/

@[simp] theorem State.clearBand_pending : (s.clearBand).pending = s.pending := rfl
@[simp] theorem State.clearBand_ports : (s.clearBand).ports = s.ports := rfl
@[simp] theorem State.clearBand_arbiter : (s.clearBand).arbiter = s.arbiter := rfl
@[simp] theorem State.clearBand_books : (s.clearBand).books = s.books := rfl
@[simp] theorem State.clearBand_sections : (s.clearBand).sections = s.sections := rfl
@[simp] theorem State.clearBand_sheets : (s.clearBand).sheets = s.sheets := rfl
@[simp] theorem State.clearBand_epochs : (s.clearBand).epochs = s.epochs := rfl
@[simp] theorem State.clearBand_entries : (s.clearBand).entries = s.entries := rfl
@[simp] theorem State.clearBand_queue : (s.clearBand).queue = s.queue := rfl
@[simp] theorem State.clearBand_placing : (s.clearBand).placing = s.placing := rfl
@[simp] theorem State.clearBand_portraits : (s.clearBand).portraits = s.portraits := rfl
@[simp] theorem State.clearBand_pool : (s.clearBand).pool = s.pool := rfl
@[simp] theorem State.clearBand_image : (s.clearBand).image = s.image := rfl
@[simp] theorem State.clearBand_jobs : (s.clearBand).jobs = s.jobs := rfl
@[simp] theorem State.clearBand_tagCounter : (s.clearBand).tagCounter = s.tagCounter := rfl
@[simp] theorem State.clearBand_renderer : (s.clearBand).renderer = { s.renderer with band := none } := rfl
@[simp] theorem State.clearBand_links : (s.clearBand).links = s.links := rfl
@[simp] theorem State.clearBand_counters : (s.clearBand).counters = s.counters := rfl
@[simp] theorem State.clearBand_settings : (s.clearBand).settings = s.settings := rfl

/-! ### `State.storeStall` -/

@[simp] theorem State.storeStall_pending (n : Nat) : (s.storeStall n).pending = s.pending := rfl
@[simp] theorem State.storeStall_ports (n : Nat) : (s.storeStall n).ports = s.ports := rfl
@[simp] theorem State.storeStall_arbiter (n : Nat) : (s.storeStall n).arbiter = s.arbiter := rfl
@[simp] theorem State.storeStall_books (n : Nat) : (s.storeStall n).books = s.books := rfl
@[simp] theorem State.storeStall_sections (n : Nat) : (s.storeStall n).sections = s.sections := rfl
@[simp] theorem State.storeStall_sheets (n : Nat) : (s.storeStall n).sheets = s.sheets := rfl
@[simp] theorem State.storeStall_epochs (n : Nat) : (s.storeStall n).epochs = s.epochs := rfl
@[simp] theorem State.storeStall_entries (n : Nat) : (s.storeStall n).entries = s.entries := rfl
@[simp] theorem State.storeStall_queue (n : Nat) : (s.storeStall n).queue = s.queue := rfl
@[simp] theorem State.storeStall_placing (n : Nat) : (s.storeStall n).placing = s.placing := rfl
@[simp] theorem State.storeStall_portraits (n : Nat) : (s.storeStall n).portraits = s.portraits := rfl
@[simp] theorem State.storeStall_pool (n : Nat) : (s.storeStall n).pool = s.pool := rfl
@[simp] theorem State.storeStall_image (n : Nat) : (s.storeStall n).image = s.image := rfl
@[simp] theorem State.storeStall_jobs (n : Nat) : (s.storeStall n).jobs = s.jobs := rfl
@[simp] theorem State.storeStall_tagCounter (n : Nat) : (s.storeStall n).tagCounter = s.tagCounter := rfl
@[simp] theorem State.storeStall_renderer (n : Nat) : (s.storeStall n).renderer = { s.renderer with stallWindow := n } := rfl
@[simp] theorem State.storeStall_links (n : Nat) : (s.storeStall n).links = s.links := rfl
@[simp] theorem State.storeStall_counters (n : Nat) : (s.storeStall n).counters = s.counters := rfl
@[simp] theorem State.storeStall_settings (n : Nat) : (s.storeStall n).settings = s.settings := rfl

end Sys2Proof.Machine
end

