-- ==== Sys2Proof/Laws/Ops.lean ====
section
/-! SUPPORT. What the shared operations over ports, links, slot tables and the pool's memory do, said once for each; and a string's field. -/

namespace Sys2Proof.Machine

open Sys2Proof

/-! ### Collections by port and by press -/

@[simp] theorem PerPort.get_set_self {α : Type} (v : PerPort α) (p : Port) (x : α) : (v.set p x).get p = x := by
  cases p <;> rfl

theorem PerPort.get_set_other {α : Type} (v : PerPort α) {p q : Port} (x : α) (h : q ≠ p) :
    (v.set p x).get q = v.get q := by
  cases p <;> cases q <;> first | rfl | exact absurd rfl h

@[simp] theorem PerPort.get_map {α β : Type} (v : PerPort α) (f : α → β) (p : Port) : (v.map f).get p = f (v.get p) := by
  cases p <;> rfl

@[simp] theorem PerPress.get_set_self {α : Type} (v : PerPress α) (q : Press) (x : α) : (v.set q x).get q = x := by
  cases q <;> rfl

theorem PerPress.get_set_other {α : Type} (v : PerPress α) {q r : Press} (x : α) (h : r ≠ q) :
    (v.set q x).get r = v.get r := by
  cases q <;> cases r <;> first | rfl | exact absurd rfl h

@[simp] theorem State.port_setPort_self (s : State) (p : Port) (d : DeskPort) : (s.setPort p d).port p = d :=
  PerPort.get_set_self _ _ _

theorem State.port_setPort_other (s : State) {p q : Port} (d : DeskPort) (h : q ≠ p) : (s.setPort p d).port q = s.port q :=
  PerPort.get_set_other _ _ h

@[simp] theorem State.port_mapPorts (s : State) (f : DeskPort → DeskPort) (p : Port) : (s.mapPorts f).port p = f (s.port p) :=
  PerPort.get_map _ _ _

@[simp] theorem State.link_setLink_self (s : State) (q : Press) (l : Link) : (s.setLink q l).link q = l :=
  PerPress.get_set_self _ _ _

theorem State.link_setLink_other (s : State) {q r : Press} (l : Link) (h : r ≠ q) : (s.setLink q l).link r = s.link r :=
  PerPress.get_set_other _ _ h

/-! ### Slot tables -/

variable {α : Type}

theorem tabFind_tabInsert (t : List (Nat × α)) (i j : Nat) (a : α) :
    tabFind (tabInsert t i a) j = if j = i then some a else tabFind t j := by
  induction t with
  | nil => simp [tabInsert, tabFind]
  | cons e t ih =>
    obtain ⟨k, b⟩ := e
    simp only [tabInsert]
    split
    · subst_vars; simp only [tabFind]; split <;> simp_all
    · split
      · simp only [tabFind]
      · simp only [tabFind, ih]; split <;> split <;> simp_all

theorem tabFind_tabErase (t : List (Nat × α)) (i j : Nat) :
    tabFind (tabErase t i) j = if j = i then none else tabFind t j := by
  induction t with
  | nil => simp [tabErase, tabFind]
  | cons e t ih =>
    obtain ⟨k, b⟩ := e
    simp only [tabErase] at ih
    by_cases h : k = i
    · subst h
      simp only [tabErase, List.filter_cons, ne_eq, not_true_eq_false, decide_false, Bool.false_eq_true, if_false, ih, tabFind]
      split <;> simp_all
    · simp only [tabErase, List.filter_cons, ne_eq, h, not_false_eq_true, decide_true, if_true, tabFind, ih]
      split <;> split <;> simp_all

/-- What a slot holds after a table is updated at a slot. -/
theorem tabFind_tabUpdate (t : List (Nat × α)) (i j : Nat) (o : Option α) :
    tabFind (tabUpdate t i o) j = if j = i then o else tabFind t j := by
  cases o with
  | none => exact tabFind_tabErase t i j
  | some a => exact tabFind_tabInsert t i j a

theorem tabSorted_iff (t : List (Nat × α)) : tabSorted t = true ↔ t.Pairwise (fun e f => e.1 < f.1) := by
  induction t with
  | nil => simp [tabSorted]
  | cons e t ih =>
    obtain ⟨i, a⟩ := e
    cases t with
    | nil => simp [tabSorted]
    | cons f t =>
      obtain ⟨j, b⟩ := f
      rw [tabSorted, Bool.and_eq_true, decide_eq_true_eq, ih]
      constructor
      · rintro ⟨hij, hp⟩
        refine List.pairwise_cons.2 ⟨?_, hp⟩
        intro g hg
        rcases List.mem_cons.1 hg with rfl | hg
        · exact hij
        · exact Nat.lt_trans hij (List.rel_of_pairwise_cons hp hg)
      · intro h
        exact ⟨(List.pairwise_cons.1 h).1 _ (List.mem_cons_self ..), (List.pairwise_cons.1 h).2⟩

theorem mem_tabInsert {t : List (Nat × α)} {i : Nat} {a : α} {e : Nat × α} (h : e ∈ tabInsert t i a) :
    e = (i, a) ∨ e ∈ t := by
  induction t with
  | nil => simpa [tabInsert] using h
  | cons f t ih =>
    obtain ⟨k, b⟩ := f
    simp only [tabInsert] at h
    split at h
    · rcases List.mem_cons.1 h with h | h
      · exact .inl h
      · exact .inr (List.mem_cons_of_mem _ h)
    · split at h
      · rcases List.mem_cons.1 h with h | h
        · exact .inl h
        · exact .inr h
      · rcases List.mem_cons.1 h with h | h
        · exact .inr (h ▸ List.mem_cons_self ..)
        · rcases ih h with h | h
          · exact .inl h
          · exact .inr (List.mem_cons_of_mem _ h)

theorem tabSorted_tabInsert {t : List (Nat × α)} (i : Nat) (a : α) (h : tabSorted t = true) :
    tabSorted (tabInsert t i a) = true := by
  rw [tabSorted_iff] at h ⊢
  induction t with
  | nil => simp [tabInsert]
  | cons f t ih =>
    obtain ⟨k, b⟩ := f
    have ht := (List.pairwise_cons.1 h).2
    have hk := (List.pairwise_cons.1 h).1
    simp only [tabInsert]
    split
    · subst_vars; exact List.pairwise_cons.2 ⟨hk, ht⟩
    · split
      · refine List.pairwise_cons.2 ⟨?_, h⟩
        intro g hg
        rcases List.mem_cons.1 hg with rfl | hg
        · assumption
        · exact Nat.lt_trans ‹_› (hk g hg)
      · refine List.pairwise_cons.2 ⟨?_, ih ht⟩
        intro g hg
        rcases mem_tabInsert hg with rfl | hg
        · simp only; omega
        · exact hk g hg

theorem tabSorted_tabErase {t : List (Nat × α)} (i : Nat) (h : tabSorted t = true) : tabSorted (tabErase t i) = true := by
  rw [tabSorted_iff] at h ⊢
  exact h.filter _

/-- An update keeps a table canonical. -/
theorem tabSorted_tabUpdate {t : List (Nat × α)} (i : Nat) (o : Option α) (h : tabSorted t = true) :
    tabSorted (tabUpdate t i o) = true := by
  cases o with
  | none => exact tabSorted_tabErase i h
  | some a => exact tabSorted_tabInsert i a h

/-! ### The pool's memory -/

theorem Memory.wf_iff (c : List Host.Cell) :
    Memory.wf c = true ↔ tabSorted c = true ∧
      ∀ e ∈ c, e.1 < Config.poolBlocks * Config.blockBytes ∧ e.2 ≠ Config.unwrittenPixel := by
  simp [Memory.wf, List.all_eq_true]

/-- Reading a byte after writing one (R70). -/
theorem Pool.readByte_writeByte (pl : Pool) (a b : Nat) (x : Byte) :
    (pl.writeByte a x).readByte b = if b = a then x else pl.readByte b := by
  simp only [Pool.readByte, Pool.writeByte, tabFind_tabUpdate]
  by_cases h : b = a
  · simp only [h, if_true]; split <;> simp_all
  · simp [h]

/-- A byte written inside the pool keeps its memory canonical. -/
theorem Memory.wf_writeByte (pl : Pool) (a : Nat) (x : Byte) (ha : a < Config.poolBlocks * Config.blockBytes)
    (h : Memory.wf pl.cells = true) : Memory.wf (pl.writeByte a x).cells = true := by
  rw [Memory.wf_iff] at h ⊢
  refine ⟨tabSorted_tabUpdate _ _ h.1, ?_⟩
  intro e he
  simp only [Pool.writeByte] at he
  split at he
  · exact h.2 e (List.mem_of_mem_filter he)
  · rcases mem_tabInsert he with rfl | he
    · exact ⟨ha, ‹_›⟩
    · exact h.2 e he

/-- An image's bytes lie inside the pool when its blocks do. -/
theorem imageAddress_lt (blocks : List Nat) (k : Nat) (h : ∀ b ∈ blocks, b < Config.poolBlocks) :
    imageAddress blocks k < Config.poolBlocks * Config.blockBytes := by
  have hb : blocks.getD (k / Config.blockBytes) 0 < Config.poolBlocks := by
    rw [List.getD_eq_getElem?_getD]
    cases hk : blocks[k / Config.blockBytes]? with
    | none => simp [Config.poolBlocks]
    | some b => simpa using h b (List.mem_of_getElem? hk)
  have hm : k % Config.blockBytes < Config.blockBytes := Nat.mod_lt _ (by simp [Config.blockBytes])
  unfold imageAddress
  simp only [Config.poolBlocks, Config.blockBytes] at *
  omega

/-- Writing a payload keeps the pool's memory canonical. -/
theorem Memory.wf_writeImage (blocks : List Nat) (limit : Nat) (h : ∀ b ∈ blocks, b < Config.poolBlocks) :
    ∀ (bs : List Byte) (k : Nat) (pl : Pool), Memory.wf pl.cells = true →
      Memory.wf (pl.writeImage blocks limit k bs).cells = true := by
  intro bs
  induction bs with
  | nil => intro k pl hw; exact hw
  | cons b bs ih =>
    intro k pl hw
    simp only [Pool.writeImage]
    split
    · exact ih _ _ (Memory.wf_writeByte _ _ _ (imageAddress_lt blocks k h) hw)
    · exact hw

/-- The other operations of the pool leave its memory as it is. -/
@[simp] theorem Pool.cells_reserve (pl : Pool) (n : Nat) : (pl.reserve n).cells = pl.cells := rfl
@[simp] theorem Pool.cells_giveBack (pl : Pool) (o : Owner) : (pl.giveBack o).cells = pl.cells := rfl
@[simp] theorem Pool.cells_pass (pl : Pool) (a b : Owner) : (pl.pass a b).cells = pl.cells := rfl

/-- Writing a payload moves no block and no count. -/
theorem Pool.writeImage_owned (blocks : List Nat) (limit : Nat) :
    ∀ (bs : List Byte) (k : Nat) (pl : Pool),
      (pl.writeImage blocks limit k bs).owned = pl.owned ∧ (pl.writeImage blocks limit k bs).freeCount = pl.freeCount := by
  intro bs
  induction bs with
  | nil => intro k pl; exact ⟨rfl, rfl⟩
  | cons b bs ih =>
    intro k pl
    simp only [Pool.writeImage]
    split
    · exact ih _ _
    · exact ⟨rfl, rfl⟩

/-- The blocks a reservation takes are blocks of the pool. -/
theorem freeBlocksFrom_lt (owned : List (Nat × α)) :
    ∀ (fuel n : Nat), fuel ≤ Config.poolBlocks → ∀ b ∈ freeBlocksFrom owned fuel n, b < Config.poolBlocks := by
  intro fuel
  induction fuel with
  | zero => intro n _ b hb; simp [freeBlocksFrom] at hb
  | succ fuel ih =>
    intro n hf b hb
    cases n with
    | zero => simp [freeBlocksFrom] at hb
    | succ n =>
      simp only [freeBlocksFrom] at hb
      split at hb
      · exact ih _ (by omega) b hb
      · rcases List.mem_cons.1 hb with rfl | hb
        · omega
        · exact ih _ (by omega) b hb

theorem Pool.lowestFree_lt (pl : Pool) (n : Nat) : ∀ b ∈ pl.lowestFree n, b < Config.poolBlocks :=
  freeBlocksFrom_lt pl.owned _ n (Nat.le_refl _)

/-! ### Fields -/

/-- A string whose length fits its byte (R189). -/
theorem byteStr_of_length_lt {s : Str} (h : s.length < 256) : byteStr s = byte1 s.length ++ s.flatMap byte1 := by
  simp only [byteStr, if_pos h]

end Sys2Proof.Machine
end

