-- ==== Sys2Proof/Laws/Desk.lean ====
section
/-! SUPPORT. Notices, counters, replies and the serving of a request, said once: what each may change, and what it leaves. -/

namespace Sys2Proof.Machine

open Sys2Proof

variable (s : State)

/-! ### Notices and counters -/

@[simp] theorem State.latchAt_pending (p : Port) (k : Notice) (x : Subject) : (s.latchAt p k x).pending = s.pending := rfl
@[simp] theorem State.latchAt_arbiter (p : Port) (k : Notice) (x : Subject) : (s.latchAt p k x).arbiter = s.arbiter := rfl
@[simp] theorem State.latchAt_books (p : Port) (k : Notice) (x : Subject) : (s.latchAt p k x).books = s.books := rfl
@[simp] theorem State.latchAt_sections (p : Port) (k : Notice) (x : Subject) : (s.latchAt p k x).sections = s.sections := rfl
@[simp] theorem State.latchAt_sheets (p : Port) (k : Notice) (x : Subject) : (s.latchAt p k x).sheets = s.sheets := rfl
@[simp] theorem State.latchAt_epochs (p : Port) (k : Notice) (x : Subject) : (s.latchAt p k x).epochs = s.epochs := rfl
@[simp] theorem State.latchAt_entries (p : Port) (k : Notice) (x : Subject) : (s.latchAt p k x).entries = s.entries := rfl
@[simp] theorem State.latchAt_queue (p : Port) (k : Notice) (x : Subject) : (s.latchAt p k x).queue = s.queue := rfl
@[simp] theorem State.latchAt_placing (p : Port) (k : Notice) (x : Subject) : (s.latchAt p k x).placing = s.placing := rfl
@[simp] theorem State.latchAt_portraits (p : Port) (k : Notice) (x : Subject) : (s.latchAt p k x).portraits = s.portraits := rfl
@[simp] theorem State.latchAt_pool (p : Port) (k : Notice) (x : Subject) : (s.latchAt p k x).pool = s.pool := rfl
@[simp] theorem State.latchAt_image (p : Port) (k : Notice) (x : Subject) : (s.latchAt p k x).image = s.image := rfl
@[simp] theorem State.latchAt_jobs (p : Port) (k : Notice) (x : Subject) : (s.latchAt p k x).jobs = s.jobs := rfl
@[simp] theorem State.latchAt_tagCounter (p : Port) (k : Notice) (x : Subject) : (s.latchAt p k x).tagCounter = s.tagCounter := rfl
@[simp] theorem State.latchAt_renderer (p : Port) (k : Notice) (x : Subject) : (s.latchAt p k x).renderer = s.renderer := rfl
@[simp] theorem State.latchAt_links (p : Port) (k : Notice) (x : Subject) : (s.latchAt p k x).links = s.links := rfl
@[simp] theorem State.latchAt_counters (p : Port) (k : Notice) (x : Subject) : (s.latchAt p k x).counters = s.counters := rfl
@[simp] theorem State.latchAt_settings (p : Port) (k : Notice) (x : Subject) : (s.latchAt p k x).settings = s.settings := rfl

@[simp] theorem State.latchAll_pending (k : Notice) (x : Subject) : (s.latchAll k x).pending = s.pending := rfl
@[simp] theorem State.latchAll_arbiter (k : Notice) (x : Subject) : (s.latchAll k x).arbiter = s.arbiter := rfl
@[simp] theorem State.latchAll_books (k : Notice) (x : Subject) : (s.latchAll k x).books = s.books := rfl
@[simp] theorem State.latchAll_sections (k : Notice) (x : Subject) : (s.latchAll k x).sections = s.sections := rfl
@[simp] theorem State.latchAll_sheets (k : Notice) (x : Subject) : (s.latchAll k x).sheets = s.sheets := rfl
@[simp] theorem State.latchAll_epochs (k : Notice) (x : Subject) : (s.latchAll k x).epochs = s.epochs := rfl
@[simp] theorem State.latchAll_entries (k : Notice) (x : Subject) : (s.latchAll k x).entries = s.entries := rfl
@[simp] theorem State.latchAll_queue (k : Notice) (x : Subject) : (s.latchAll k x).queue = s.queue := rfl
@[simp] theorem State.latchAll_placing (k : Notice) (x : Subject) : (s.latchAll k x).placing = s.placing := rfl
@[simp] theorem State.latchAll_portraits (k : Notice) (x : Subject) : (s.latchAll k x).portraits = s.portraits := rfl
@[simp] theorem State.latchAll_pool (k : Notice) (x : Subject) : (s.latchAll k x).pool = s.pool := rfl
@[simp] theorem State.latchAll_image (k : Notice) (x : Subject) : (s.latchAll k x).image = s.image := rfl
@[simp] theorem State.latchAll_jobs (k : Notice) (x : Subject) : (s.latchAll k x).jobs = s.jobs := rfl
@[simp] theorem State.latchAll_tagCounter (k : Notice) (x : Subject) : (s.latchAll k x).tagCounter = s.tagCounter := rfl
@[simp] theorem State.latchAll_renderer (k : Notice) (x : Subject) : (s.latchAll k x).renderer = s.renderer := rfl
@[simp] theorem State.latchAll_links (k : Notice) (x : Subject) : (s.latchAll k x).links = s.links := rfl
@[simp] theorem State.latchAll_counters (k : Notice) (x : Subject) : (s.latchAll k x).counters = s.counters := rfl
@[simp] theorem State.latchAll_settings (k : Notice) (x : Subject) : (s.latchAll k x).settings = s.settings := rfl

@[simp] theorem State.raise_pending (u i : Nat) : (s.raise u i).pending = s.pending := by unfold State.raise; split <;> rfl
@[simp] theorem State.raise_arbiter (u i : Nat) : (s.raise u i).arbiter = s.arbiter := by unfold State.raise; split <;> rfl
@[simp] theorem State.raise_books (u i : Nat) : (s.raise u i).books = s.books := by unfold State.raise; split <;> rfl
@[simp] theorem State.raise_sections (u i : Nat) : (s.raise u i).sections = s.sections := by unfold State.raise; split <;> rfl
@[simp] theorem State.raise_sheets (u i : Nat) : (s.raise u i).sheets = s.sheets := by unfold State.raise; split <;> rfl
@[simp] theorem State.raise_epochs (u i : Nat) : (s.raise u i).epochs = s.epochs := by unfold State.raise; split <;> rfl
@[simp] theorem State.raise_entries (u i : Nat) : (s.raise u i).entries = s.entries := by unfold State.raise; split <;> rfl
@[simp] theorem State.raise_queue (u i : Nat) : (s.raise u i).queue = s.queue := by unfold State.raise; split <;> rfl
@[simp] theorem State.raise_placing (u i : Nat) : (s.raise u i).placing = s.placing := by unfold State.raise; split <;> rfl
@[simp] theorem State.raise_portraits (u i : Nat) : (s.raise u i).portraits = s.portraits := by unfold State.raise; split <;> rfl
@[simp] theorem State.raise_pool (u i : Nat) : (s.raise u i).pool = s.pool := by unfold State.raise; split <;> rfl
@[simp] theorem State.raise_image (u i : Nat) : (s.raise u i).image = s.image := by unfold State.raise; split <;> rfl
@[simp] theorem State.raise_jobs (u i : Nat) : (s.raise u i).jobs = s.jobs := by unfold State.raise; split <;> rfl
@[simp] theorem State.raise_tagCounter (u i : Nat) : (s.raise u i).tagCounter = s.tagCounter := by unfold State.raise; split <;> rfl
@[simp] theorem State.raise_renderer (u i : Nat) : (s.raise u i).renderer = s.renderer := by unfold State.raise; split <;> rfl
@[simp] theorem State.raise_links (u i : Nat) : (s.raise u i).links = s.links := by unfold State.raise; split <;> rfl
@[simp] theorem State.raise_settings (u i : Nat) : (s.raise u i).settings = s.settings := by unfold State.raise; split <;> rfl

/-! ### Replies -/

@[simp] theorem State.countReply_pending (p : Port) (st : Status) : (s.countReply p st).pending = s.pending := by cases st <;> simp [State.countReply]
@[simp] theorem State.countReply_arbiter (p : Port) (st : Status) : (s.countReply p st).arbiter = s.arbiter := by cases st <;> simp [State.countReply]
@[simp] theorem State.countReply_books (p : Port) (st : Status) : (s.countReply p st).books = s.books := by cases st <;> simp [State.countReply]
@[simp] theorem State.countReply_sections (p : Port) (st : Status) : (s.countReply p st).sections = s.sections := by cases st <;> simp [State.countReply]
@[simp] theorem State.countReply_sheets (p : Port) (st : Status) : (s.countReply p st).sheets = s.sheets := by cases st <;> simp [State.countReply]
@[simp] theorem State.countReply_epochs (p : Port) (st : Status) : (s.countReply p st).epochs = s.epochs := by cases st <;> simp [State.countReply]
@[simp] theorem State.countReply_entries (p : Port) (st : Status) : (s.countReply p st).entries = s.entries := by cases st <;> simp [State.countReply]
@[simp] theorem State.countReply_queue (p : Port) (st : Status) : (s.countReply p st).queue = s.queue := by cases st <;> simp [State.countReply]
@[simp] theorem State.countReply_placing (p : Port) (st : Status) : (s.countReply p st).placing = s.placing := by cases st <;> simp [State.countReply]
@[simp] theorem State.countReply_portraits (p : Port) (st : Status) : (s.countReply p st).portraits = s.portraits := by cases st <;> simp [State.countReply]
@[simp] theorem State.countReply_pool (p : Port) (st : Status) : (s.countReply p st).pool = s.pool := by cases st <;> simp [State.countReply]
@[simp] theorem State.countReply_image (p : Port) (st : Status) : (s.countReply p st).image = s.image := by cases st <;> simp [State.countReply]
@[simp] theorem State.countReply_jobs (p : Port) (st : Status) : (s.countReply p st).jobs = s.jobs := by cases st <;> simp [State.countReply]
@[simp] theorem State.countReply_tagCounter (p : Port) (st : Status) : (s.countReply p st).tagCounter = s.tagCounter := by cases st <;> simp [State.countReply]
@[simp] theorem State.countReply_renderer (p : Port) (st : Status) : (s.countReply p st).renderer = s.renderer := by cases st <;> simp [State.countReply]
@[simp] theorem State.countReply_links (p : Port) (st : Status) : (s.countReply p st).links = s.links := by cases st <;> simp [State.countReply]
@[simp] theorem State.countReply_settings (p : Port) (st : Status) : (s.countReply p st).settings = s.settings := by cases st <;> simp [State.countReply]

@[simp] theorem State.formReply_pending (p : Port) (tag : Nat) (a : Answer) : (s.formReply p tag a).pending = s.pending := by simp [State.formReply, State.enqueueReply]
@[simp] theorem State.formReply_arbiter (p : Port) (tag : Nat) (a : Answer) : (s.formReply p tag a).arbiter = s.arbiter := by simp [State.formReply, State.enqueueReply]
@[simp] theorem State.formReply_books (p : Port) (tag : Nat) (a : Answer) : (s.formReply p tag a).books = s.books := by simp [State.formReply, State.enqueueReply]
@[simp] theorem State.formReply_sections (p : Port) (tag : Nat) (a : Answer) : (s.formReply p tag a).sections = s.sections := by simp [State.formReply, State.enqueueReply]
@[simp] theorem State.formReply_sheets (p : Port) (tag : Nat) (a : Answer) : (s.formReply p tag a).sheets = s.sheets := by simp [State.formReply, State.enqueueReply]
@[simp] theorem State.formReply_epochs (p : Port) (tag : Nat) (a : Answer) : (s.formReply p tag a).epochs = s.epochs := by simp [State.formReply, State.enqueueReply]
@[simp] theorem State.formReply_entries (p : Port) (tag : Nat) (a : Answer) : (s.formReply p tag a).entries = s.entries := by simp [State.formReply, State.enqueueReply]
@[simp] theorem State.formReply_queue (p : Port) (tag : Nat) (a : Answer) : (s.formReply p tag a).queue = s.queue := by simp [State.formReply, State.enqueueReply]
@[simp] theorem State.formReply_placing (p : Port) (tag : Nat) (a : Answer) : (s.formReply p tag a).placing = s.placing := by simp [State.formReply, State.enqueueReply]
@[simp] theorem State.formReply_portraits (p : Port) (tag : Nat) (a : Answer) : (s.formReply p tag a).portraits = s.portraits := by simp [State.formReply, State.enqueueReply]
@[simp] theorem State.formReply_pool (p : Port) (tag : Nat) (a : Answer) : (s.formReply p tag a).pool = s.pool := by simp [State.formReply, State.enqueueReply]
@[simp] theorem State.formReply_image (p : Port) (tag : Nat) (a : Answer) : (s.formReply p tag a).image = s.image := by simp [State.formReply, State.enqueueReply]
@[simp] theorem State.formReply_jobs (p : Port) (tag : Nat) (a : Answer) : (s.formReply p tag a).jobs = s.jobs := by simp [State.formReply, State.enqueueReply]
@[simp] theorem State.formReply_tagCounter (p : Port) (tag : Nat) (a : Answer) : (s.formReply p tag a).tagCounter = s.tagCounter := by simp [State.formReply, State.enqueueReply]
@[simp] theorem State.formReply_renderer (p : Port) (tag : Nat) (a : Answer) : (s.formReply p tag a).renderer = s.renderer := by simp [State.formReply, State.enqueueReply]
@[simp] theorem State.formReply_links (p : Port) (tag : Nat) (a : Answer) : (s.formReply p tag a).links = s.links := by simp [State.formReply, State.enqueueReply]
@[simp] theorem State.formReply_settings (p : Port) (tag : Nat) (a : Answer) : (s.formReply p tag a).settings = s.settings := by simp [State.formReply, State.enqueueReply]

@[simp] theorem State.finish_pending (p : Port) (tag : Nat) (a : Answer) : (s.finish p tag a).pending = s.pending := by unfold State.finish; split <;> simp
@[simp] theorem State.finish_books (p : Port) (tag : Nat) (a : Answer) : (s.finish p tag a).books = s.books := by unfold State.finish; split <;> simp
@[simp] theorem State.finish_sections (p : Port) (tag : Nat) (a : Answer) : (s.finish p tag a).sections = s.sections := by unfold State.finish; split <;> simp
@[simp] theorem State.finish_sheets (p : Port) (tag : Nat) (a : Answer) : (s.finish p tag a).sheets = s.sheets := by unfold State.finish; split <;> simp
@[simp] theorem State.finish_epochs (p : Port) (tag : Nat) (a : Answer) : (s.finish p tag a).epochs = s.epochs := by unfold State.finish; split <;> simp
@[simp] theorem State.finish_entries (p : Port) (tag : Nat) (a : Answer) : (s.finish p tag a).entries = s.entries := by unfold State.finish; split <;> simp
@[simp] theorem State.finish_queue (p : Port) (tag : Nat) (a : Answer) : (s.finish p tag a).queue = s.queue := by unfold State.finish; split <;> simp
@[simp] theorem State.finish_placing (p : Port) (tag : Nat) (a : Answer) : (s.finish p tag a).placing = s.placing := by unfold State.finish; split <;> simp
@[simp] theorem State.finish_portraits (p : Port) (tag : Nat) (a : Answer) : (s.finish p tag a).portraits = s.portraits := by unfold State.finish; split <;> simp
@[simp] theorem State.finish_pool (p : Port) (tag : Nat) (a : Answer) : (s.finish p tag a).pool = s.pool := by unfold State.finish; split <;> simp
@[simp] theorem State.finish_image (p : Port) (tag : Nat) (a : Answer) : (s.finish p tag a).image = s.image := by unfold State.finish; split <;> simp
@[simp] theorem State.finish_jobs (p : Port) (tag : Nat) (a : Answer) : (s.finish p tag a).jobs = s.jobs := by unfold State.finish; split <;> simp
@[simp] theorem State.finish_tagCounter (p : Port) (tag : Nat) (a : Answer) : (s.finish p tag a).tagCounter = s.tagCounter := by unfold State.finish; split <;> simp
@[simp] theorem State.finish_renderer (p : Port) (tag : Nat) (a : Answer) : (s.finish p tag a).renderer = s.renderer := by unfold State.finish; split <;> simp
@[simp] theorem State.finish_links (p : Port) (tag : Nat) (a : Answer) : (s.finish p tag a).links = s.links := by unfold State.finish; split <;> simp
@[simp] theorem State.finish_settings (p : Port) (tag : Nat) (a : Answer) : (s.finish p tag a).settings = s.settings := by unfold State.finish; split <;> simp

/-! ### The grant and the serving of a request (R170, R174) -/

/-- What a grant to a desk port can be: the port holds the engine already, or this decision goes to it. -/
theorem State.grantDesk_cases {s g : State} {p : Port} {h : HeldRequest} (hg : s.grantDesk p = some (g, h)) :
    (g = s ∧ (s.port p).slot = .granted h ∧ s.arbiter.engine = some (.desk p)) ∨
      ∃ run, g = (s.setPort p { s.port p with slot := .granted h }).hold (.desk p) run ∧ (s.port p).slot = .waiting h ∧
        s.settings.state ≠ .loading ∧ s.arbiter.engine = none ∧ s.decision = some (.desk p, run) := by
  unfold State.grantDesk at hg
  split at hg
  · cases hg
  · split at hg
    · cases hg; exact .inl ⟨rfl, ‹_›, ‹_›⟩
    · cases hg
  · split at hg
    · rename_i hd
      simp only [State.decides, Bool.and_eq_true, decide_eq_true_eq, Option.isNone_iff_eq_none] at hd
      split at hg
      · rename_i r run hdec
        split at hg
        · subst_vars; cases hg; exact .inr ⟨run, rfl, ‹_›, hd.1, hd.2, hdec⟩
        · cases hg
      · cases hg
    · cases hg

/-- A grant leaves the port's slot GRANTED with the request and the engine HELD for the port. -/
theorem State.grantDesk_granted {s g : State} {p : Port} {h : HeldRequest} (hg : s.grantDesk p = some (g, h)) :
    (g.port p).slot = .granted h ∧ g.arbiter.engine = some (.desk p) := by
  rcases State.grantDesk_cases hg with ⟨rfl, h1, h2⟩ | ⟨run, rfl, -⟩
  · exact ⟨h1, h2⟩
  · exact ⟨by simp [State.port], rfl⟩

/-- A command finds its request: the engine is the port's, and the request the port holds is `r` under `tag`. -/
theorem State.serve_of_grant {s g : State} {p : Port} {h : HeldRequest} (hg : s.grantDesk p = some (g, h))
    (row : Option Request → Option Effect) :
    s.serve p row =
      match row (requestOf h) with
      | none => s
      | some op => (op g).1.finish p h.tag (op g).2 := by
  cases hr : row (requestOf h) <;> simp [State.serve, hg, hr]

end Sys2Proof.Machine
end

