-- ==== Sys2Proof/Laws/Serving.lean ====
section
/-! SUPPORT. What a served request and a guarded change come to, and what sets a job aside or moves it, said once. -/

namespace Sys2Proof.Machine

open Sys2Proof

/-- A served request is granted, and is the request its slot holds. -/
theorem State.served_cases {s g : State} {p : Port} {r : Request} {tag : Nat} (h : s.served p r tag = some g) :
    ∃ k, s.grantDesk p = some (g, k) ∧ k.tag = tag ∧ requestOf k = some r := by
  unfold State.served at h
  split at h
  · split at h
    · rename_i hg hc
      cases h
      exact ⟨_, hg, hc.1, hc.2⟩
    · cases h
  · cases h

/-- A served request runs its row's effect and ends with the effect's answer. -/
theorem State.serve_served {s g : State} {p : Port} {r : Request} {tag : Nat} (h : s.served p r tag = some g)
    {row : Option Request → Option Effect} {op : Effect} (hr : row (some r) = some op) :
    s.serve p row = (op g).1.finish p tag (op g).2 := by
  obtain ⟨k, hg, rfl, hk⟩ := State.served_cases h
  simp only [State.serve_of_grant hg, hk, hr]

/-- A set with no locked sheet and none IN_PRESS passes the guard. -/
theorem guard_none {g : State} {set : List Nat} (h : ∀ i ∈ set, g.isLocked i = false ∧ g.isInPress i = false) :
    guard g set = none := by
  have hl : (g.folioOrder.filter set.contains).find? g.isLocked = none := by
    rw [List.find?_eq_none]
    intro i hi
    rw [List.mem_filter] at hi
    simp [(h i (by simpa using hi.2)).1]
  have hp : (g.folioOrder.filter set.contains).find? g.isInPress = none := by
    rw [List.find?_eq_none]
    intro i hi
    rw [List.mem_filter] at hi
    simp [(h i (by simpa using hi.2)).2]
  simp only [guard, hl, hp]

/-- An accepted change is applied. -/
theorem applyChange_accepts {g after : State} (h : g.accepts after) (ok : Answer) :
    applyChange g after ok = (after.staleAll (changeSet g after), ok) := by
  simp only [applyChange, guard_none h]

/-- A refused change moves nothing. -/
theorem applyChange_refused {g after : State} {r : Reason} {i : Nat} (h : guard g (changeSet g after) = some (r, i))
    (ok : Answer) : applyChange g after ok = (g, Answer.refuseAt r i) := by
  simp only [applyChange, h]

/-- A row whose effect is a guarded change. -/
theorem guarded_of_row {c : Instr} {s g after : State} {p : Port} {r : Request} {tag : Nat} {ok : Answer}
    {row : Option Request → Option Effect} {op : Effect} (h : s.served p r tag = some g)
    (hc : exec c s = .next (s.serve p row)) (hr : row (some r) = some op) (ho : op g = applyChange g after ok) :
    guarded c s g after p tag ok := by
  refine ⟨fun ha => ?_, fun r i hg => ?_⟩
  · rw [hc, State.serve_served h hr, ho, applyChange_accepts ha]
    rfl
  · rw [hc, State.serve_served h hr, ho, applyChange_refused hg]

/-- The lowest free slot of a table is what the table gives. -/
theorem tabFree_of_isLowestFree {α : Type} {n i : Nat} {t : List (Nat × α)} (h : isLowestFree n t i) :
    tabFree n t = some i := by
  obtain ⟨h1, h2, h3⟩ := h
  unfold tabFree
  rw [List.find?_range_eq_some]
  refine ⟨by simp [h2], by simpa using h1, fun j hj => ?_⟩
  have := h3 j hj
  cases hf : tabFind t j <;> simp_all

/-! ### The job table at a boundary -/

/-- Examining the proof suspension leaves the state, or sets the ACTIVE RUN job aside (R130): all that it can do. -/
theorem State.examineProof_mayYield (s : State) : s.mayYield s.examineProof := by
  unfold State.mayYield State.examineProof
  split
  · exact Or.inl rfl
  · rename_i j hj
    split
    · rename_i h
      exact Or.inr ⟨j, hj, h.1, h.2.1, h.2.2.2.1, h.2.2.1, h.2.2.2.2.1, h.2.2.2.2.2, rfl⟩
    · exact Or.inl rfl

/-- So does examining it again after a command. -/
theorem State.recheckWait_mayYield (s : State) : s.mayYield s.recheckWait := s.examineProof_mayYield

/-- The ACTIVE job is in the job table, and ACTIVE. -/
theorem State.activeJob_mem {s : State} {j : Job} (h : s.activeJob = some j) : j ∈ s.jobs ∧ j.state = .active :=
  ⟨List.mem_of_find?_eq_some h, by simpa using List.find?_some h⟩

/-- Storing a record for the tag of a job in the table moves that job alone. -/
theorem State.onlyJobMoves_putJob {s : State} {j k : Job} (hj : j ∈ s.jobs) (hk : k.tag = j.tag) :
    s.onlyJobMoves (s.putJob k) k :=
  ⟨List.mem_map.mpr ⟨j, hj, by simp [hk]⟩, rfl⟩

end Sys2Proof.Machine
end

