-- ==== Sys2Proof/Laws/Book.lean ====
section
/-! SUPPORT. What the updates of the book table, the portrait directory, the counters and the image grant can do, once each. -/

namespace Sys2Proof.Machine

open Sys2Proof

/-- The outcome of a desk row whose request is served: the row's effect, then its reply. -/
theorem exec_of_served {c : Instr} {s g : State} {p : Port} {r : Request} {tag : Nat}
    {row : Option Request → Option Effect} (h : s.served p r tag = some g)
    (hc : exec c s = .next (s.serve p row)) (op : Effect) (hr : row (some r) = some op) :
    exec c s = .next ((op g).1.finish p tag (op g).2) := by
  rw [hc, State.serve_served h hr]

/-- A string a station may send holds codes 0 to 94. -/
theorem sendable_iff (l : Str) : sendable l = true ↔ ∀ c ∈ l, c < 95 := by simp [sendable]

/-! ### The book table -/

theorem State.sheet_setSheet (s : State) (i j : Nat) (o : Option Sheet) :
    (s.setSheet i o).sheet j = if j = i then o else s.sheet j := by
  unfold State.setSheet State.sheet
  simp only [tabFind_tabUpdate]

theorem State.book_setBook (s : State) (i j : Nat) (o : Option Book) :
    (s.setBook i o).book j = if j = i then o else s.book j := by
  unfold State.setBook State.book
  simp only [tabFind_tabUpdate]

theorem State.sec_setSec (s : State) (i j : Nat) (o : Option Section) :
    (s.setSec i o).sec j = if j = i then o else s.sec j := by
  unfold State.setSec State.sec
  simp only [tabFind_tabUpdate]

theorem State.entry_setEntry (s : State) (i j : Nat) (o : Option Entry) :
    (s.setEntry i o).entry j = if j = i then o else s.entry j := by
  unfold State.setEntry State.entry
  simp only [tabFind_tabUpdate]

theorem State.epoch_bumpEpoch (s : State) (i j : Nat) :
    (s.bumpEpoch i).epoch j = if j = i then s.epoch i + 1 else s.epoch j := by
  unfold State.bumpEpoch State.epoch
  simp only [tabFind_tabUpdate]
  split
  · split
    · rename_i h; exact h.symm
    · simp
  · rfl

theorem State.portrait_setPortrait (s : State) (i j : Nat) (r : Portrait) :
    (s.setPortrait i r).portrait j = if j = i then r else s.portrait j := by
  unfold State.setPortrait State.portrait
  simp only [tabFind_tabUpdate]
  split
  · split <;> simp_all
  · rfl

/-- Staling sheets moves no portrait, no pool block, no counter, no entry, no job and no link (R18). -/
theorem State.staleAll_keeps (s : State) (set : List Nat) :
    (s.staleAll set).portraits = s.portraits ∧ (s.staleAll set).pool = s.pool ∧ (s.staleAll set).image = s.image ∧
      (s.staleAll set).arbiter = s.arbiter ∧ (s.staleAll set).counters = s.counters ∧ (s.staleAll set).ports = s.ports ∧
      (s.staleAll set).entries = s.entries ∧ (s.staleAll set).jobs = s.jobs ∧ (s.staleAll set).links = s.links := by
  unfold State.staleAll
  induction set generalizing s with
  | nil => simp
  | cons a l ih =>
    simp only [List.foldl_cons]
    obtain ⟨h1, h2, h3, h4, h5, h6, h7, h8, h9⟩ := ih (s.staleOne a)
    rw [h1, h2, h3, h4, h5, h6, h7, h8, h9]
    unfold State.staleOne
    split
    · simp
    · split <;> (try split) <;> exact ⟨rfl, rfl, rfl, rfl, rfl, rfl, rfl, rfl, rfl⟩

/-! ### Counters and the image grant -/

/-- The counters after a raise depend on the counters alone (R187). -/
theorem State.raise_counters_congr (s t : State) (u i : Nat) (h : s.counters = t.counters) :
    (s.raise u i).counters = (t.raise u i).counters := by
  have : s.counter u i = t.counter u i := by simp [State.counter, h]
  unfold State.raise
  rw [this]
  split <;> simp [State.setCounter, State.latchAll, State.mapPorts, h]

/-- A grant to the image port does no more than hold the engine (R174). -/
theorem State.grantImage_holds {s g : State} (h : s.grantImage = some g) : ∃ run, g = s.hold .image run := by
  unfold State.grantImage at h
  split at h
  · split at h
    · split at h
      · rename_i hh; cases h; exact ⟨_, by rw [hh]⟩
      · cases h
    · cases h
  · cases h

end Sys2Proof.Machine
end

