-- ==== Sys2Proof/Laws/Jobs.lean ====
section
/-! SUPPORT. What the job table's shared operations can do, once each. -/

namespace Sys2Proof.Machine

open Sys2Proof

/-- Storing a job keeps every tag and its place. -/
theorem State.putJob_tags (s : State) (j : Job) : (s.putJob j).jobs.map (·.tag) = s.jobs.map (·.tag) := by
  unfold State.putJob
  simp only [List.map_map]
  apply List.map_congr_left
  intro k _
  by_cases h : k.tag = j.tag <;> simp [h]

/-- After storing a job, every job of its tag is it. -/
theorem State.mem_putJob {s : State} {j k : Job} (h : k ∈ (s.putJob j).jobs) : k = j ∨ (k ∈ s.jobs ∧ k.tag ≠ j.tag) := by
  simp only [State.putJob, List.mem_map] at h
  obtain ⟨x, hx, hk⟩ := h
  by_cases ht : x.tag = j.tag
  · simp only [ht, if_true] at hk
    exact Or.inl hk.symm
  · simp only [ht, if_false] at hk
    subst hk
    exact Or.inr ⟨hx, ht⟩

/-- The proof suspension does nothing, or sets the ACTIVE RUN job aside (R130). -/
theorem State.examineProof_cases (s : State) :
    s.examineProof = s ∨ ∃ j, s.activeJob = some j ∧ j.kind = .run ∧ s.suspendedJob = none ∧ s.examineProof = s.suspend j := by
  unfold State.examineProof
  split
  · exact Or.inl rfl
  · rename_i j hj
    split
    · rename_i h
      exact Or.inr ⟨j, hj, h.1, h.2.2.2.2.1, rfl⟩
    · exact Or.inl rfl

/-- The same of a RUN job that stands at a copy boundary (assumption 10). -/
theorem State.recheckWait_cases (s : State) :
    s.recheckWait = s ∨ ∃ j, s.activeJob = some j ∧ j.kind = .run ∧ s.suspendedJob = none ∧ s.recheckWait = s.suspend j :=
  s.examineProof_cases

/-- Starting the stall timer moves the timer alone (R129). -/
theorem State.startStall_frame (s : State) :
    ∃ t, s.startStall = { s with renderer := { s.renderer with stallTimer := t } } := by
  unfold State.startStall
  split
  · split
    · exact ⟨_, rfl⟩
    · exact ⟨_, rfl⟩
  · exact ⟨_, rfl⟩

/-- A report for a job that is gone or ending changes nothing (R134, R135). -/
theorem State.takeSpoil_none {s : State} {tag : Nat} (h : s.reportJob tag = none) (q : Press) (copy : Nat) (counted : Bool) :
    s.takeSpoil q tag copy counted = s ∧ s.takeConfirmation tag = s := by
  simp [State.takeSpoil, State.takeConfirmation, h]

/-- The next tag is the counter's own while no job has it, and lies in 1 to 4095 (R118). -/
theorem freeTag_range (s : State) : ∀ fuel t, 1 ≤ t → t ≤ Config.maxTag →
    1 ≤ freeTag s fuel t ∧ freeTag s fuel t ≤ Config.maxTag
  | 0, _, h1, h2 => ⟨h1, h2⟩
  | fuel + 1, t, h1, h2 => by
    unfold freeTag
    split
    · refine freeTag_range s fuel (tagAfter t) ?_ ?_ <;> (unfold tagAfter; unfold Config.maxTag at *; split <;> omega)
    · exact ⟨h1, h2⟩

/-! ### Records of a link's attempt list -/

/-- Where the last member that `hit` names stands after `before`, it alone is changed. -/
theorem updateLast_split {α : Type} {hit : α → Bool} {f : α → α} {a : α} {after : List α} (ha : hit a = true)
    (hl : ∀ b ∈ after, hit b = false) : ∀ before, updateLast hit f (before ++ a :: after) = before ++ f a :: after
  | [] => by
    have h : after.any hit = false := List.any_eq_false.2 fun b hb => by simp [hl b hb]
    simp [updateLast, ha, h]
  | b :: l => by simp [updateLast, ha, updateLast_split ha hl l]

/-- A change of the last member that `hit` names keeps the list's length. -/
@[simp] theorem updateLast_length {α : Type} (hit : α → Bool) (f : α → α) (l : List α) :
    (updateLast hit f l).length = l.length := by
  induction l with
  | nil => rfl
  | cons a l ih => unfold updateLast; split <;> simp [ih]

/-- The records kept are records of the list, in its order. -/
theorem keepDue_sublist (own : Attempt → Bool) (l : List Attempt) : (keepDue own l).Sublist l := by
  induction l with
  | nil => exact .slnil
  | cons a l ih => unfold keepDue; split <;> [exact ih.cons_cons a; exact ih.cons a]

/-- With no record of its own to keep, the list keeps the records with a report due. -/
theorem keepDue_of_none {own : Attempt → Bool} {l : List Attempt} (h : ∀ a ∈ l, own a = false) :
    keepDue own l = l.filter (fun a => decide (a.received < a.sent)) := by
  induction l with
  | nil => rfl
  | cons a l ih =>
    have hl := ih fun b hb => h b (List.mem_cons_of_mem _ hb)
    simp only [keepDue, h a (List.mem_cons_self ..), Bool.false_and, Bool.or_false, List.filter_cons, hl]

/-- The own record and the records with a report due stay, and no other. -/
theorem keepDue_split {own : Attempt → Bool} {a : Attempt} {after : List Attempt} (ha : own a = true)
    (hl : ∀ b ∈ after, own b = false) : ∀ before, keepDue own (before ++ a :: after) =
      before.filter (fun b => decide (b.received < b.sent)) ++ a :: after.filter (fun b => decide (b.received < b.sent))
  | [] => by
    have h : after.any own = false := List.any_eq_false.2 fun b hb => by simp [hl b hb]
    simp [keepDue, ha, keepDue_of_none hl, h]
  | b :: l => by
    simp only [List.cons_append, keepDue, List.any_append, List.any_cons, ha, Bool.true_or, Bool.or_true, Bool.not_true,
      Bool.and_false, Bool.or_false, List.filter_cons, keepDue_split ha hl l]
    split <;> simp

/-- A spoil that the job table does not take leaves the job's rule with no serial, at the spoiled copy or a lower one (R150). -/
theorem Link.spoilRule_ignored (l : Link) (tag copy : Nat) :
    l.spoilRule tag copy false = l.setRule { tag := tag, copy := l.ruleCopy tag copy, serial := none } := by
  simp [Link.spoilRule]

end Sys2Proof.Machine
end

