-- ==== Sys2Proof/Laws/PerInstr.lean ====
section
/-! SUPPORT. The per-command family `SpelledByNoWord`: no word of the opcode table's bits spells a command, since the table
gives no row bits; the part's commands arrive as frames, transfers, lane words and events. -/

namespace Sys2Proof.Laws

/-- No word, of any number of bits, spells the command. -/
def SpelledByNoWord.Statement (i : Instr) : Prop := ∀ nbits w : Nat, decodeTableWord nbits w ≠ some i

theorem SpelledByNoWord.requestFrame (p : Port) (bytes : List Byte) : SpelledByNoWord.Statement (.requestFrame p bytes) := fun _ _ h => nomatch h
theorem SpelledByNoWord.replyFrameSent (p : Port) : SpelledByNoWord.Statement (.replyFrameSent p) := fun _ _ h => nomatch h
theorem SpelledByNoWord.lineBreak (p : Port) : SpelledByNoWord.Statement (.lineBreak p) := fun _ _ h => nomatch h
theorem SpelledByNoWord.breakEnd (p : Port) : SpelledByNoWord.Statement (.breakEnd p) := fun _ _ h => nomatch h
theorem SpelledByNoWord.unknownRequestCode (p : Port) : SpelledByNoWord.Statement (.unknownRequestCode p) := fun _ _ h => nomatch h
theorem SpelledByNoWord.openBook (p : Port) : SpelledByNoWord.Statement (.openBook p) := fun _ _ h => nomatch h
theorem SpelledByNoWord.setBook (p : Port) : SpelledByNoWord.Statement (.setBook p) := fun _ _ h => nomatch h
theorem SpelledByNoWord.closeBook (p : Port) : SpelledByNoWord.Statement (.closeBook p) := fun _ _ h => nomatch h
theorem SpelledByNoWord.addSection (p : Port) : SpelledByNoWord.Statement (.addSection p) := fun _ _ h => nomatch h
theorem SpelledByNoWord.setSection (p : Port) : SpelledByNoWord.Statement (.setSection p) := fun _ _ h => nomatch h
theorem SpelledByNoWord.dropSection (p : Port) : SpelledByNoWord.Statement (.dropSection p) := fun _ _ h => nomatch h
theorem SpelledByNoWord.addSheet (p : Port) : SpelledByNoWord.Statement (.addSheet p) := fun _ _ h => nomatch h
theorem SpelledByNoWord.dropSheet (p : Port) : SpelledByNoWord.Statement (.dropSheet p) := fun _ _ h => nomatch h
theorem SpelledByNoWord.setLayout (p : Port) : SpelledByNoWord.Statement (.setLayout p) := fun _ _ h => nomatch h
theorem SpelledByNoWord.approveSheet (p : Port) : SpelledByNoWord.Statement (.approveSheet p) := fun _ _ h => nomatch h
theorem SpelledByNoWord.unlockSheet (p : Port) : SpelledByNoWord.Statement (.unlockSheet p) := fun _ _ h => nomatch h
theorem SpelledByNoWord.addEntry (p : Port) : SpelledByNoWord.Statement (.addEntry p) := fun _ _ h => nomatch h
theorem SpelledByNoWord.dropEntry (p : Port) : SpelledByNoWord.Statement (.dropEntry p) := fun _ _ h => nomatch h
theorem SpelledByNoWord.editEntryName (p : Port) : SpelledByNoWord.Statement (.editEntryName p) := fun _ _ h => nomatch h
theorem SpelledByNoWord.editEntryRole (p : Port) : SpelledByNoWord.Statement (.editEntryRole p) := fun _ _ h => nomatch h
theorem SpelledByNoWord.editEntryStatus (p : Port) : SpelledByNoWord.Statement (.editEntryStatus p) := fun _ _ h => nomatch h
theorem SpelledByNoWord.editEntryPortrait (p : Port) : SpelledByNoWord.Statement (.editEntryPortrait p) := fun _ _ h => nomatch h
theorem SpelledByNoWord.moveEntry (p : Port) : SpelledByNoWord.Statement (.moveEntry p) := fun _ _ h => nomatch h
theorem SpelledByNoWord.swapPortraits (p : Port) : SpelledByNoWord.Statement (.swapPortraits p) := fun _ _ h => nomatch h
theorem SpelledByNoWord.reservePortrait (p : Port) : SpelledByNoWord.Statement (.reservePortrait p) := fun _ _ h => nomatch h
theorem SpelledByNoWord.releasePortrait (p : Port) : SpelledByNoWord.Statement (.releasePortrait p) := fun _ _ h => nomatch h
theorem SpelledByNoWord.setFaceBox (p : Port) : SpelledByNoWord.Statement (.setFaceBox p) := fun _ _ h => nomatch h
theorem SpelledByNoWord.submitRun (p : Port) : SpelledByNoWord.Statement (.submitRun p) := fun _ _ h => nomatch h
theorem SpelledByNoWord.submitProof (p : Port) : SpelledByNoWord.Statement (.submitProof p) := fun _ _ h => nomatch h
theorem SpelledByNoWord.cancelJob (p : Port) : SpelledByNoWord.Statement (.cancelJob p) := fun _ _ h => nomatch h
theorem SpelledByNoWord.forceResync (p : Port) : SpelledByNoWord.Statement (.forceResync p) := fun _ _ h => nomatch h
theorem SpelledByNoWord.setPress (p : Port) : SpelledByNoWord.Statement (.setPress p) := fun _ _ h => nomatch h
theorem SpelledByNoWord.setArbiter (p : Port) : SpelledByNoWord.Statement (.setArbiter p) := fun _ _ h => nomatch h
theorem SpelledByNoWord.readBook (p : Port) : SpelledByNoWord.Statement (.readBook p) := fun _ _ h => nomatch h
theorem SpelledByNoWord.readSection (p : Port) : SpelledByNoWord.Statement (.readSection p) := fun _ _ h => nomatch h
theorem SpelledByNoWord.readSheet (p : Port) : SpelledByNoWord.Statement (.readSheet p) := fun _ _ h => nomatch h
theorem SpelledByNoWord.readEntry (p : Port) : SpelledByNoWord.Statement (.readEntry p) := fun _ _ h => nomatch h
theorem SpelledByNoWord.readRosterIndex (p : Port) : SpelledByNoWord.Statement (.readRosterIndex p) := fun _ _ h => nomatch h
theorem SpelledByNoWord.readPortrait (p : Port) : SpelledByNoWord.Statement (.readPortrait p) := fun _ _ h => nomatch h
theorem SpelledByNoWord.readImagePort (p : Port) : SpelledByNoWord.Statement (.readImagePort p) := fun _ _ h => nomatch h
theorem SpelledByNoWord.readPlacementUnit (p : Port) : SpelledByNoWord.Statement (.readPlacementUnit p) := fun _ _ h => nomatch h
theorem SpelledByNoWord.readPlacementResult (p : Port) : SpelledByNoWord.Statement (.readPlacementResult p) := fun _ _ h => nomatch h
theorem SpelledByNoWord.readTile (p : Port) : SpelledByNoWord.Statement (.readTile p) := fun _ _ h => nomatch h
theorem SpelledByNoWord.readJob (p : Port) : SpelledByNoWord.Statement (.readJob p) := fun _ _ h => nomatch h
theorem SpelledByNoWord.readPressJobCollections (p : Port) : SpelledByNoWord.Statement (.readPressJobCollections p) := fun _ _ h => nomatch h
theorem SpelledByNoWord.readRenderer (p : Port) : SpelledByNoWord.Statement (.readRenderer p) := fun _ _ h => nomatch h
theorem SpelledByNoWord.readPressLink (p : Port) : SpelledByNoWord.Statement (.readPressLink p) := fun _ _ h => nomatch h
theorem SpelledByNoWord.readDeskPort (p : Port) : SpelledByNoWord.Statement (.readDeskPort p) := fun _ _ h => nomatch h
theorem SpelledByNoWord.readArbiter (p : Port) : SpelledByNoWord.Statement (.readArbiter p) := fun _ _ h => nomatch h
theorem SpelledByNoWord.readCounters (p : Port) : SpelledByNoWord.Statement (.readCounters p) := fun _ _ h => nomatch h
theorem SpelledByNoWord.readSettingsPort (p : Port) : SpelledByNoWord.Statement (.readSettingsPort p) := fun _ _ h => nomatch h
theorem SpelledByNoWord.readNotices (p : Port) : SpelledByNoWord.Statement (.readNotices p) := fun _ _ h => nomatch h
theorem SpelledByNoWord.setNoticeMask (p : Port) : SpelledByNoWord.Statement (.setNoticeMask p) := fun _ _ h => nomatch h
theorem SpelledByNoWord.clearCounters (p : Port) : SpelledByNoWord.Statement (.clearCounters p) := fun _ _ h => nomatch h
theorem SpelledByNoWord.saveSettings (p : Port) : SpelledByNoWord.Statement (.saveSettings p) := fun _ _ h => nomatch h
theorem SpelledByNoWord.settingsSaveComplete (readBack : List Byte) : SpelledByNoWord.Statement (.settingsSaveComplete readBack) := fun _ _ h => nomatch h
theorem SpelledByNoWord.imageHeader (words : List Word32) : SpelledByNoWord.Statement (.imageHeader words) := fun _ _ h => nomatch h
theorem SpelledByNoWord.imageHeaderGrant : SpelledByNoWord.Statement .imageHeaderGrant := fun _ _ h => nomatch h
theorem SpelledByNoWord.imagePayload (count : Nat) (words : List Word32) : SpelledByNoWord.Statement (.imagePayload count words) := fun _ _ h => nomatch h
theorem SpelledByNoWord.imageEndMark (check : Word32) : SpelledByNoWord.Statement (.imageEndMark check) := fun _ _ h => nomatch h
theorem SpelledByNoWord.imageEndMarkGrant : SpelledByNoWord.Statement .imageEndMarkGrant := fun _ _ h => nomatch h
theorem SpelledByNoWord.imageAbort : SpelledByNoWord.Statement .imageAbort := fun _ _ h => nomatch h
theorem SpelledByNoWord.loadTimerExpiry : SpelledByNoWord.Statement .loadTimerExpiry := fun _ _ h => nomatch h
theorem SpelledByNoWord.placementTake : SpelledByNoWord.Statement .placementTake := fun _ _ h => nomatch h
theorem SpelledByNoWord.placementCompletion : SpelledByNoWord.Statement .placementCompletion := fun _ _ h => nomatch h
theorem SpelledByNoWord.rendererGrant : SpelledByNoWord.Statement .rendererGrant := fun _ _ h => nomatch h
theorem SpelledByNoWord.bandBegin : SpelledByNoWord.Statement .bandBegin := fun _ _ h => nomatch h
theorem SpelledByNoWord.bandCompletion : SpelledByNoWord.Statement .bandCompletion := fun _ _ h => nomatch h
theorem SpelledByNoWord.stallTimerExpiry : SpelledByNoWord.Statement .stallTimerExpiry := fun _ _ h => nomatch h
theorem SpelledByNoWord.markReport (q : Press) (found stray : Bool) (offset : BitVec 12) : SpelledByNoWord.Statement (.markReport q found stray offset) := fun _ _ h => nomatch h
theorem SpelledByNoWord.frameRequest (q : Press) : SpelledByNoWord.Statement (.frameRequest q) := fun _ _ h => nomatch h
theorem SpelledByNoWord.statusReport (q : Press) (checkError : Bool) : SpelledByNoWord.Statement (.statusReport q checkError) := fun _ _ h => nomatch h
theorem SpelledByNoWord.onlineFall (q : Press) : SpelledByNoWord.Statement (.onlineFall q) := fun _ _ h => nomatch h
theorem SpelledByNoWord.onlineRise (q : Press) : SpelledByNoWord.Statement (.onlineRise q) := fun _ _ h => nomatch h
theorem SpelledByNoWord.badReturnWord (q : Press) (word : Word32) : SpelledByNoWord.Statement (.badReturnWord q word) := fun _ _ h => nomatch h
theorem SpelledByNoWord.reset : SpelledByNoWord.Statement .reset := fun _ _ h => nomatch h
theorem SpelledByNoWord.settingsLoadComplete (image : Option (List Byte)) : SpelledByNoWord.Statement (.settingsLoadComplete image) := fun _ _ h => nomatch h
theorem SpelledByNoWord.requestFrameStart (p : Port) : SpelledByNoWord.Statement (.requestFrameStart p) := fun _ _ h => nomatch h

end Sys2Proof.Laws
end

