-- ==== Sys2Proof/Tests/Slice0.lean ====
section
/-! SUPPORT. Tests by evaluation: ill-formed commands, and the worked examples of the reference. Each expected value is the
reference's own; the section stands in the docstring. -/

namespace Sys2Proof.Tests

open Sys2Proof Sys2Proof.Machine

/-! ### Ill-formed commands -/

/-- Each check of `Instr.wellFormed` refuses an ill-formed term (R191 to R196). -/
theorem test_ill_formed_refused :
    [Instr.requestFrame .dp0 [], .settingsSaveComplete [1], .imageHeader [],
      .imagePayload 268435456 [], .imagePayload 5 [0], .imagePayload 1 [0xFF000001#32], .imagePayload 2 [0xFFFF0100#32],
      .imagePayload 3 [0xFFFFFF01#32], .badReturnWord .a 0x10000000#32, .badReturnWord .b 0x20003FFF#32,
      .badReturnWord .a 0x30000001#32, .settingsLoadComplete (some [])].all (fun c => !c.wellFormed) = true := by
  decide +kernel

/-- Commands as their senders bring them are well formed. -/
theorem test_well_formed_accepted :
    [Instr.requestFrame .dp0 [0xA5#8], .imageHeader [0x10000007#32, 0, 0, 0], .imagePayload 5 [0x01020304#32, 0x05000000#32],
      .badReturnWord .a 0x10000001#32, .badReturnWord .b 0x20004000#32, .badReturnWord .a 0x40000000#32,
      .settingsLoadComplete none, .openBook .dp3, .reset].all (fun c => c.wellFormed) = true := by
  decide +kernel

/-- No word spells a command: the table gives its rows no bits. -/
theorem test_no_word_spells_a_command : decodeTableWord 16 1 = none ∧ State.reset.withFetchWord 16 1 = State.reset := by
  decide +kernel

/-- Bits 31 to 28 of a transfer's first word pick what it does (R192): payload 2, an end mark 3, ABORT 4, a header 1; 5 is none
of them, and bits 27 to 0 of a payload word are its byte count. -/
theorem test_first_word_picks_the_transfer :
    let s : State := { State.reset with image := { State.reset.image with state := .receiving } }
    transferKind [0x20000005#32, 0] = 2 ∧ transferCount [0x20000005#32, 0] = 5 ∧
      exec (.imageHeader [0x20000005#32, 0, 0]) s = exec (.imagePayload 5 [0, 0]) s ∧
      exec (.imageHeader [0x30000000#32, 7]) s = exec (.imageEndMark 7) s ∧
      exec (.imageHeader [0x40000000#32]) s = exec .imageAbort s ∧ transferKind [0x50000000#32] = 5 ∧
      headerOf [0x50000000#32, 0, 0, 0] = none ∧ (headerOf [0x10000FFF#32, 0, 0, 0]).isSome := by
  refine ⟨by decide +kernel, by decide +kernel, rfl, rfl, rfl, by decide +kernel, by decide +kernel, by decide +kernel⟩

/-! ### Checks and formats (R190, R191) -/

/-- The check values of R190, over the digits 1 to 9 as bytes 31h to 39h. -/
theorem test_check_values :
    crc16 [0x31#8, 0x32#8, 0x33#8, 0x34#8, 0x35#8, 0x36#8, 0x37#8, 0x38#8, 0x39#8] = 0x29B1#16 ∧
      crc32From crc32Init [0x31#8, 0x32#8, 0x33#8, 0x34#8, 0x35#8, 0x36#8, 0x37#8, 0x38#8, 0x39#8] = 0x0376E6E7#32 := by
  decide +kernel

/-! ### Collation (section 2.2) -/

/-- A student under an id, for comparison. -/
def student (surname given : Str) : Entry :=
  { section_ := 0, surname := surname, given := given, role := .student, status := .present, portrait := none }

/-- The worked comparisons of section 2.2: Delacroix and de la Cruz, O'Neil and Oneal, Smith and Smith-Jones, Mac Donald and
MacDonald, Park Jae 2 and Park Jaeho. -/
theorem test_worked_comparisons :
    collate 222 (student [46, 73, 80, 69, 71, 86, 83, 77, 92] []) 219 (student [72, 73, 0, 80, 69, 0, 45, 86, 89, 94] []) = .lt ∧
      collate 5 (student [57, 4, 56, 73, 77, 80] []) 6 (student [57, 82, 73, 69, 80] []) = .gt ∧
      collate 40 (student [61, 81, 77, 88, 76] []) 41 (student [61, 81, 77, 88, 76, 3, 52, 83, 82, 73, 87] []) = .lt ∧
      collate 300 (student [55, 69, 71, 0, 46, 83, 82, 69, 80, 72] []) 120 (student [55, 69, 71, 46, 83, 82, 69, 80, 72] []) = .gt ∧
      collate 61 (student [] [52, 69, 73, 0, 35]) 60 (student [] [52, 69, 73, 76, 83]) = .lt := by
  decide +kernel

/-- A title-page teacher sorts before a student whatever the names (section 2.2, first row). -/
theorem test_role_first :
    collate 90 { student [68, 73, 80, 80, 73, 86] [] with role := .teacher } 12 (student [43, 70, 70, 83, 88, 88] []) = .lt := by
  decide +kernel

/-! ### The worked grid (section 5.7) -/

/-- The layout of sheet 72. -/
def layout57 : Layout :=
  { sheetWidth := 2400, sheetHeight := 4200, bodyLeft := 200, bodyTop := 300, bodyWidth := 2200, bodyHeight := 3400, columns := 6
    cellWidth := 300, cellHeight := 375, captionHeight := 70, lineHeight := 32, advance := 14, gutterAcross := 40
    gutterDown := 30, headHeight := 160, eyeRow := 150, listLines := 2, featureFirst := true, centreLast := true, pattern := 1 }

/-- Its derived quantities. -/
theorem test_grid_quantities :
    layout57.valid = true ∧ layout57.pitchX = 340 ∧ layout57.pitchY = 475 ∧ layout57.rowsMax = 7 ∧ layout57.capacity = 39 ∧
      layout57.bands = 33 ∧ layout57.rowsUsed 25 = 5 ∧ layout57.shift 25 = 340 ∧ layout57.listTop = 3636 ∧
      layout57.areaWidth true = 640 ∧ layout57.areaHeight true = 850 ∧ (layout57.footerLine []).y = 3700 := by
  decide +kernel

/-- Its tiles: the feature, the ends of rows 0 to 3, and the shifted last row. -/
theorem test_grid_tiles :
    [0, 1, 4, 5, 8, 9, 20, 21, 24].map (fun i => (layout57.areaX 25 i, layout57.areaY 25 i)) =
      [(200, 300), (880, 300), (1900, 300), (880, 775), (1900, 775), (200, 1250), (1900, 1725), (540, 2200), (1560, 2200)] := by
  decide +kernel

/-! ### The worked fits (section 6.2) -/

/-- A fit with the standard tolerance of 24. -/
def fitCase (width height crown eye chin centre areaWidth areaHeight head target : Nat) : FitInput :=
  { width := width, height := height, face := ⟨crown, eye, chin, centre⟩, areaWidth := areaWidth, areaHeight := areaHeight
    head := head, eye := target, tolerance := 24 }

/-- The summary table of section 6.2: scale, corner, window and drift of the five cases. -/
theorem test_worked_fits :
    (fitCase 1200 1500 300 520 780 610 300 375 160 150).fit = ⟨1365, 160, 70, 900, 1125, -1⟩ ∧
      (fitCase 1200 1500 40 200 520 610 300 375 160 150).fit = ⟨1365, 160, 0, 900, 1125, -84⟩ ∧
      (fitCase 64 2560 1000 1100 1200 32 640 850 320 300).fit = ⟨16384, -48, 1025, 160, 212, 0⟩ ∧
      (fitCase 2048 2560 400 900 1400 1024 300 375 160 150).fit = ⟨1024, 424, 300, 1200, 1500, 0⟩ ∧
      (fitCase 500 625 60 280 540 250 300 375 160 150).fit = ⟨2458, 1, 1, 499, 624, 17⟩ := by
  decide +kernel

/-- The flags of the five cases, in the order RAISED, CLAMPED, PADDED, INEXACT, DRIFT. -/
theorem test_worked_fit_flags :
    (fitCase 1200 1500 300 520 780 610 300 375 160 150).flags = ⟨false, false, false, true, false⟩ ∧
      (fitCase 1200 1500 40 200 520 610 300 375 160 150).flags = ⟨false, false, false, true, true⟩ ∧
      (fitCase 64 2560 1000 1100 1200 32 640 850 320 300).flags = ⟨true, true, true, true, false⟩ ∧
      (fitCase 2048 2560 400 900 1400 1024 300 375 160 150).flags = ⟨false, true, false, true, false⟩ ∧
      (fitCase 500 625 60 280 540 250 300 375 160 150).flags = ⟨true, false, false, true, false⟩ := by
  decide +kernel

/-! ### The worked captions and list filling (sections 6.3, 6.4) -/

/-- The table of worked captions, row by row: the lines, their offsets, and the CUT mark. -/
theorem test_worked_captions :
    captionOf { layout57 with captionHeight := 70 } 300 [55, 69, 92, 77, 81, 77, 80, 77, 69, 82, 69]
        [57, 93, 73, 80, 69, 86, 69, 82, 3, 65, 76, 77, 88, 71, 83, 81, 70, 73] =
        ([⟨[55, 69, 92, 77, 81, 77, 80, 77, 69, 82, 69], 73⟩,
          ⟨[57, 93, 73, 80, 69, 86, 69, 82, 3, 65, 76, 77, 88, 71, 83, 81, 70, 73], 24⟩], false) ∧
    captionOf { layout57 with captionHeight := 70 } 640 [55, 69, 92, 77, 81, 77, 80, 77, 69, 82, 69]
        [57, 93, 73, 80, 69, 86, 69, 82, 3, 65, 76, 77, 88, 71, 83, 81, 70, 73] =
        ([⟨[55, 69, 92, 77, 81, 77, 80, 77, 69, 82, 69, 0, 57, 93, 73, 80, 69, 86, 69, 82, 3, 65, 76, 77, 88, 71, 83, 81, 70, 73], 110⟩], false) ∧
    captionOf { layout57 with captionHeight := 40 } 300 [55, 69, 92, 77, 81, 77, 80, 77, 69, 82, 69]
        [57, 93, 73, 80, 69, 86, 69, 82, 3, 65, 76, 77, 88, 71, 83, 81, 70, 73] =
        ([⟨[55, 1, 0, 57, 93, 73, 80, 69, 86, 69, 82, 3, 65, 76, 77, 88, 71, 83, 81, 70, 73], 3⟩], false) ∧
    captionOf { layout57 with captionHeight := 70 } 300 [43, 80, 73, 92, 69, 82, 72, 86, 77, 82, 69]
        [58, 69, 84, 69, 72, 83, 84, 83, 89, 80, 83, 89, 3, 48, 69, 77, 86, 91, 73, 69, 88, 76, 73, 86] =
        ([⟨[43, 80, 73, 92, 69, 82, 72, 86, 77, 82, 69], 73⟩,
          ⟨[58, 69, 84, 69, 72, 83, 84, 83, 89, 80, 83, 89, 3, 48, 69, 77, 86, 91, 73, 69, 95], 3⟩], true) ∧
    captionOf { layout57 with captionHeight := 40 } 300 [43, 80, 73, 92, 69, 82, 72, 86, 77, 82, 69]
        [58, 69, 84, 69, 72, 83, 84, 83, 89, 80, 83, 89, 3, 48, 69, 77, 86, 91, 73, 69, 88, 76, 73, 86] =
        ([⟨[43, 1, 0, 58, 69, 84, 69, 72, 83, 84, 83, 89, 80, 83, 89, 3, 48, 69, 77, 86, 95], 3⟩], true) ∧
    captionOf { layout57 with captionHeight := 40 } 300 [52, 83]
        [56, 75] =
        ([⟨[52, 83, 0, 56, 75], 115⟩], false) ∧
    captionOf { layout57 with captionHeight := 70 } 300 []
        [58, 69, 84, 69, 72, 83, 84, 83, 89, 80, 83, 89, 3, 48, 69, 77, 86, 91, 73, 69, 88, 76, 73, 86] =
        ([⟨[58, 69, 84, 69, 72, 83, 84, 83, 89, 80, 83, 89, 3, 48, 69, 77, 86, 91, 73, 69, 95], 3⟩], true) := by
  decide +kernel

/-- The five LISTED names of section 6.4. -/
def listedFive : List (Str × Str) :=
  [([55, 77, 82], [45, 76, 83]),
    ([43, 72, 69], [48, 83, 92]),
    ([53, 77, 88], [52, 73, 87, 87, 89, 84]),
    ([44, 83], [56, 75]),
    ([54, 89], [58, 69, 86, 79])]

/-- The last sheet of section 6.4: body width 700 and advance 32, with a number of list lines. -/
def layoutList (lines : Nat) : Layout := { layout57 with bodyWidth := 700, advance := 32, listLines := lines }

/-- Two list lines, one list line, and the lengths of three. -/
theorem test_worked_list_filling :
    notPicturedLines (layoutList 2) listedFive =
      [[56, 83, 88, 0, 84, 77, 71, 88, 89, 86, 73, 72, 6, 0, 55, 77, 82, 0, 45, 76, 83],
        [43, 72, 69, 0, 48, 83, 92, 0, 18, 36]] ∧
    notPicturedLines (layoutList 1) listedFive = [[56, 83, 88, 0, 84, 77, 71, 88, 89, 86, 73, 72, 6, 0, 18, 38]] ∧
    (notPicturedLines (layoutList 3) listedFive).map List.length = [21, 19, 14] := by
  decide +kernel

/-- The long name first: line 1 keeps the lead alone, and the refilled line 2 is 19 characters long. -/
theorem test_worked_long_name :
    notPicturedLines (layoutList 2) (([55, 69, 92, 77, 81, 77, 80, 77, 69, 82, 69], [57, 93, 73, 80, 69, 86, 69, 82, 3, 65, 76, 77, 88, 71, 83, 81, 70, 73]) :: listedFive) =
      [[56, 83, 88, 0, 84, 77, 71, 88, 89, 86, 73, 72, 6, 0],
        [55, 69, 92, 77, 81, 77, 80, 77, 69, 82, 69, 0, 57, 93, 73, 95, 0, 18, 38]] := by
  decide +kernel

/-! ### Registration (section 9.8) -/

/-- The state a command leaves; the state before it when it stops. -/
def after (c : Instr) (s : State) : State :=
  match exec c s with
  | .next t => t
  | _ => s

/-- The engine after start-up with both presses online. -/
def ready : State :=
  after (.onlineRise .b) (after (.onlineRise .a) { State.reset with settings := { SettingsPort.reset with state := .idle } })

/-- Mark reports of press A in turn: found, stray, offset. -/
def reports (l : List (Bool × Bool × Int)) (s : State) : State :=
  l.foldl (fun s r => after (.markReport .a r.1 r.2.1 (BitVec.ofInt 12 r.2.2)) s) s

/-- What section 9.8 shows of a lock: state, search, confirm and bad counts, correction. -/
def lockRow (s : State) : RegState × Nat × Nat × Nat × Int :=
  ((s.link .a).reg.state, (s.link .a).reg.search, (s.link .a).reg.confirm, (s.link .a).reg.bad, (s.link .a).reg.correction)

/-- Reports 1 to 6 of section 9.8. -/
def toLock : List (Bool × Bool × Int) :=
  [(true, false, 30), (true, false, 18), (false, false, 0), (true, false, 12), (true, false, 10), (true, false, 9)]

/-- Reports 7 to 13 of section 9.8. -/
def toLoss : List (Bool × Bool × Int) :=
  [(true, false, 31), (true, false, 52), (true, true, 4), (true, false, 20), (false, false, 0), (true, false, -60), (true, false, 70)]

/-- The capture of section 9.8, after reports 1, 5 and 6. -/
theorem test_lock_gained :
    lockRow (reports (toLock.take 1) ready) = (.search, 1, 0, 0, 0) ∧
      lockRow (reports (toLock.take 5) ready) = (.confirm, 5, 2, 0, 0) ∧
      lockRow (reports toLock ready) = (.locked, 0, 0, 0, 9) := by
  decide +kernel

/-- The hold and the loss of section 9.8, after reports 9, 10, 12 and 13, with 5 bad mark reports and 1 lock lost counted. -/
theorem test_lock_lost :
    lockRow (reports (toLock ++ toLoss.take 3) ready) = (.locked, 0, 0, 2, 31) ∧
      lockRow (reports (toLock ++ toLoss.take 4) ready) = (.locked, 0, 0, 0, 20) ∧
      lockRow (reports (toLock ++ toLoss.take 6) ready) = (.locked, 0, 0, 2, 20) ∧
      lockRow (reports (toLock ++ toLoss) ready) = (.search, 0, 0, 0, 20) ∧
      ((reports (toLock ++ toLoss) ready).counter 0 5).value = 5 ∧ ((reports (toLock ++ toLoss) ready).counter 0 4).value = 1 := by
  decide +kernel

/-! ### Arbitration (section 10.6) -/

/-- A state in which some requesters ask, with the turn pointer and run count as given and the default weights. -/
def asking (turn : Requester) (run : Nat) (ports : List Port) (image : Bool) : State :=
  ports.foldl (fun s p => s.setPort p { s.port p with slot := .waiting { code := 0x31, tag := 0, fields := [] } })
    { ready with
      arbiter := { ready.arbiter with turn := turn, run := run }
      image := { ready.image with state := if image then .headerWait else .idle } }

/-- The decisions 1 to 7 of section 10.6. -/
theorem test_worked_arbitration :
    (asking (.desk .dp0) 0 [.dp0, .dp2] false).decision = some (.desk .dp0, 1) ∧
      (asking (.desk .dp0) 1 [.dp0, .dp2, .dp3] false).decision = some (.desk .dp0, 2) ∧
      (asking (.desk .dp0) 2 [.dp0, .dp2, .dp3] false).decision = some (.desk .dp2, 1) ∧
      (asking (.desk .dp2) 1 [.dp0, .dp2, .dp3] false).decision = some (.desk .dp2, 2) ∧
      (asking (.desk .dp2) 2 [.dp0, .dp2, .dp3] true).decision = some (.desk .dp3, 1) ∧
      (asking (.desk .dp3) 1 [.dp0, .dp2] true).decision = some (.image, 1) ∧
      (asking .image 1 [.dp0, .dp2] false).decision = some (.desk .dp0, 1) := by
  decide +kernel

/-! ### Witnesses: for every statement with hypotheses, a state and operands that meet them, clause by clause -/

/-- A tile that shows portrait `p`, and its portrait's box and fit. -/
def shows (p : Nat) : Tile :=
  { entry := 7, row := 0, col := 0, feature := false, x := 200, y := 300, width := 300, height := 375
    kind := .portrait p 3 ⟨4096, 0, 0, 300, 375, 0⟩ ⟨false, false, false, false, false⟩, caption := [], cut := false }

/-- A placement result with one tile for each portrait of a list. -/
def shown (ps : List Nat) : PlacementResult :=
  { tiles := ps.map shows, notPictured := [], footer := [], footerLine := ⟨[], 0, 0, false⟩, featureActive := false, rows := 1
    shift := 0, firstTile := some 0, overflow := 0, driftCount := 0, paddedCount := 0, clampedCount := 0, inexactCount := 0
    cutCount := 0 }

/-- A sheet of a section in a state, with the layout of section 5.7. -/
def sheetIn (k : Nat) (st : SheetState) : Sheet :=
  { Sheet.fresh k with state := st, layout := some layout57, result := some (shown [5, 5, 6]) }

/-- A portrait slot that holds an image of 64 by 64. -/
def portrait64 : Portrait :=
  { Portrait.reset with state := .ready, current := some ⟨64, 64, ⟨10, 20, 40, 32⟩, 1, 0⟩ }

/-- A small table: book 2 with sections 14 and 9, a sheet in each, two entries, and portrait 5. -/
def small : State :=
  { ready with
    books := [(2, ⟨[54], 12, .list, .silhouette, 24, false, [14, 9]⟩)]
    sections := [(9, ⟨2, 20, [49], [7, 8], [41]⟩), (14, ⟨2, 10, [44], [], [40]⟩)]
    sheets := [(40, sheetIn 14 .placed), (41, sheetIn 9 .placed)]
    entries := [(7, student [43, 69] [44]), (8, { student [45] [] with section_ := 9, portrait := some 5 })].map
      (fun e => (e.1, { e.2 with section_ := 9 }))
    portraits := [(5, portrait64)] }

/-- Port DP0 of a state with a request waiting under tag 3. -/
def ask (r : Request) (s : State) : State := s.setPort .dp0 { s.port .dp0 with slot := .waiting (heldOf 3 r) }

/-- The request is served in the state, and the state at its grant meets a condition. -/
def meets (r : Request) (s : State) (c : State → Bool) : Bool := ((ask r s).served .dp0 r 3).any c

/-- A sheet slot of a state with its record changed. -/
def reSheet (i : Nat) (f : Sheet → Sheet) (s : State) : State := s.setSheet i ((s.sheet i).map f)

/-- A job on a sheet of press A, waiting. -/
def job (tag i : Nat) (k : JobKind) : Job :=
  { tag := tag, sheet := i, press := .a, kind := k, copies := 2, done := 0, port := .dp1, state := .waiting, started := false
    resumeCopy := 1, resumeBand := 0, serial := 255, spoils := 0, ending := .none, rewind := none }

/-- `small` with jobs, each sheet named holding its job's tag. -/
def withJobs (js : List Job) : State :=
  js.foldl (fun s j => reSheet j.sheet (fun sh => { sh with job := some j.tag }) s) { small with jobs := js }

/-- AnEmptyQueueLetsTimePass. -/
theorem test_meets_time :
    let held : State := { ready with arbiter := { ready.arbiter with engine := some .image } }
    let load (n : Nat) (s : State) : State := { s with image := { s.image with timer := some n } }
    let stall (n : Nat) (s : State) : State := { s with renderer := { s.renderer with stallTimer := some n } }
    held.pending = [] ∧ held.decides = false ∧ held.image.timer = none ∧ held.renderer.stallTimer = none ∧
      (load 2000 held).decides = false ∧ (load 2000 held).image.timer = some (1998 + 2) ∧
      (stall 2 held).renderer.stallTimer = some (0 + 2) ∧ (load 1 held).arbiter.engine.isSome ∧
      (asking (.desk .dp0) 0 [.dp0] false).decision = some (.desk .dp0, 1) ∧
      (asking (.desk .dp0) 0 [.dp0] false).arbiter.engine = none := by
  decide +kernel

/-- DeskLineRowsFollowTheReceiver and ABreakClearsTheSession. -/
theorem test_meets_desk_lines :
    let reply : Reply := Answer.ok.reply 1
    let d (r : Receiver) (sl : Slot) (n : Nat) : State :=
      ready.setPort .dp0 { ready.port .dp0 with receiver := r, slot := sl, replies := List.replicate n reply }
    frameRequestOf (requestFrameBytes (heldOf 3 .readArbiter)) = some (heldOf 3 .readArbiter) ∧
      frameRequestOf [0xA5#8, 0, 2, 0x31#8, 0x10#8, 0, 0, 0x5A#8] = none ∧
      ((d .idle .empty 3).port .dp0).slot = .empty ∧ 0 < (d .idle .empty 3).arbiter.weights.get .dp0 ∧
      ((d .idle .empty 3).port .dp0).replies.length < 4 ∧
      ((d .idle (.waiting (heldOf 3 .readArbiter)) 2).port .dp0).replies.length + 1 < 4 ∧
      ((d .idle (.waiting (heldOf 3 .readArbiter)) 2).port .dp0).slot ≠ .empty ∧
      4 ≤ ((d .receiving .empty 4).port .dp0).replies.length ∧
      ({ ready.arbiter with weights := ⟨0, 2, 2, 2⟩ } : Arbiter).weights.get .dp0 = 0 ∧
      ((d .idle .empty 1).port .dp0).replies = reply :: [] ∧ ((d .idle .empty 1).port .dp0).receiver = .idle ∧
      ((d .atBreak .empty 0).port .dp0).receiver = .atBreak := by
  decide +kernel

/-- TheArbiterFollowsTheRing, its four clauses. -/
theorem test_meets_ring :
    (asking (.desk .dp0) 1 [.dp0] false).asking (.desk .dp0) = true ∧
      (asking (.desk .dp0) 1 [.dp0] false).arbiter.run < (asking (.desk .dp0) 1 [.dp0] false).arbiter.weight (.desk .dp0) ∧
      ringAfter (.desk .dp0) = [.desk .dp1] ++ .desk .dp2 :: [.desk .dp3, .image] ∧
      (∀ x ∈ [Requester.desk .dp1], (asking (.desk .dp0) 2 [.dp0, .dp2] false).asking x = false) ∧
      (asking (.desk .dp0) 2 [.dp0, .dp2] false).arbiter.weight (.desk .dp0) ≤ 2 ∧
      (∀ x ∈ ringAfter (.desk .dp0), (asking (.desk .dp0) 2 [.dp0] false).asking x = false) ∧
      ready.decision = none := by
  decide +kernel

/-- AServedRequestHoldsTheEngine: waiting, granted, and each way of not being served; the row a slot stands for, and others;
UnknownRequestsAreRefused: no request, a group code outside the four with and without its entry, and a request that is one. -/
theorem test_meets_serving :
    let raw (c : Nat) (f : List Byte) : State :=
      small.setPort .dp0 { small.port .dp0 with slot := .waiting { code := c, tag := 3, fields := f } }
    let taken : State := { ask .readArbiter ready with arbiter := { ready.arbiter with engine := some .image } }
    let loose : State := ready.setPort .dp0 { ready.port .dp0 with slot := .granted (heldOf 3 .readArbiter) }
    meets .readArbiter ready (fun _ => true) = true ∧
      ((ask .readArbiter ready).served .dp0 .readArbiter 3).any (fun g => (g.served .dp0 .readArbiter 3).isSome) = true ∧
      ((ready.port .dp0).slot = .empty) ∧ (ask .readArbiter State.reset).settings.state = .loading ∧
      taken.arbiter.engine.isSome ∧ (taken.port .dp0).slot.isWaiting = true ∧
      (asking (.desk .dp1) 0 [.dp0, .dp1] false).decision = some (.desk .dp1, 1) ∧ loose.arbiter.engine = none ∧
      rowOf .dp0 (requestOf (heldOf 3 .readArbiter)) = .readArbiter .dp0 ∧
      rowOf .dp0 none = .unknownRequestCode .dp0 ∧ rowOf .dp0 (some (.readBook 0)) ≠ rowOf .dp0 (some .readArbiter) ∧
      ((raw 0xFF []).grantDesk .dp0).any (fun g => (requestOf g.2).isNone) = true ∧
      ((raw 0x12 [0, 7, 4]).grantDesk .dp0).any
        (fun g => decide (requestOf g.2 = some (.editOther 7)) && (g.1.entry 7).isSome) = true ∧
      ((raw 0x12 [0, 9, 9, 1]).grantDesk .dp0).any
        (fun g => decide (requestOf g.2 = some (.editOther 9)) && (g.1.entry 9).isNone) = true ∧
      ((raw 0x31 []).grantDesk .dp0).any (fun g => decide (requestOf g.2 = some .readNotices)) = true := by
  decide +kernel

/-- SenderFormatsRoundTrip and RequestFieldsRoundTrip: a frame of the longest body, the default settings, and operands at the ends
of their fields. -/
theorem test_meets_formats :
    (heldOf 15 .readArbiter).code < 256 ∧ Settings.default.valid = true ∧
      [Request.readTile 65535 0, .setArbiter 255 0 8 1 4, .editPortrait 3071 none, .clearCounters 6 (some 65534),
        .openBook 5 [94, 255] 0, .setLayout 191 layout57 true, .readNotices].all (·.fits) = true := by
  decide +kernel

/-- ReadRowsAnswerWithWhatStands: the clauses over the tables. -/
theorem test_meets_reads :
    let s : State := { small with jobs := [job 4095 40 .run] }
    [meets (.readBook 2) s (fun g => (g.book 2).isSome), meets (.readBook 5) s (fun g => (g.book 5).isNone),
      meets (.readBook 6) s (fun _ => true), meets (.readSection 95) s (fun _ => true), meets (.readSection 96) s (fun _ => true),
      meets (.readSheet 191) s (fun _ => true), meets (.readSheet 192) s (fun _ => true), meets (.readEntry 3071) s (fun _ => true),
      meets (.readEntry 3072) s (fun _ => true),
      meets (.readRosterIndex 9 1) s (fun g => (g.sec 9).any (fun c => decide (c.roster[1]? = some 8))),
      meets (.readRosterIndex 9 2) s (fun g => (g.sec 9).any (fun c => decide (c.roster.length ≤ 2))),
      meets (.readRosterIndex 95 0) s (fun g => (g.sec 95).isNone),
      meets (.readPlacementResult 0) s (fun g => (g.sheet 0).isNone), meets (.readTile 192 0) s (fun g => (g.sheet 192).isNone),
      meets (.readPressJobCollections 2) s (fun _ => true), meets (.readPressLink 255) s (fun _ => true),
      meets (.readPortrait 3071) s (fun _ => true), meets (.readPortrait 3072) s (fun _ => true),
      meets .readImagePort s (fun _ => true), meets .readPlacementUnit s (fun _ => true),
      meets (.readPlacementResult 40) s (fun g => ((g.sheet 40).bind (·.result)).isSome),
      meets (.readPlacementResult 40) (reSheet 40 (fun x => { x with result := none }) s)
        (fun g => (g.sheet 40).any (fun x => x.result.isNone)),
      meets (.readTile 40 2) s (fun g => ((g.sheet 40).bind (·.result)).any (fun r => decide (r.tiles.length = 3))),
      meets (.readTile 40 3) s (fun g => ((g.sheet 40).bind (·.result)).any (fun r => decide (r.tiles.length ≤ 3))),
      meets (.readJob 4095) s (fun g => (g.jobOf 4095).isSome), meets (.readJob 1) s (fun g => (g.jobOf 1).isNone),
      meets (.readPressJobCollections 1) s (fun _ => true), meets .readRenderer s (fun _ => true),
      meets (.readPressLink 0) s (fun _ => true), meets (.readDeskPort 3) s (fun _ => true), meets (.readDeskPort 4) s (fun _ => true),
      meets .readArbiter s (fun _ => true), meets (.readCounters 6) s (fun _ => true), meets (.readCounters 7) s (fun _ => true),
      meets .readSettingsPort s (fun _ => true)].all id = true := by
  decide +kernel

/-- OpenBookFollowsItsRule and AddSectionFollowsItsRule. -/
theorem test_meets_books :
    let full : State := { small with sections := (List.range 96).map (fun k => (k, ⟨2, 300 + k, [], [], []⟩)) }
    let long : State := small.setBook 2 ((small.book 2).map (fun b => { b with sections := List.replicate 32 14 }))
    [meets (.openBook 6 [] 1) small (fun _ => true), meets (.openBook 2 [] 1) small (fun g => (g.book 2).isSome),
      meets (.openBook 5 [95] 1) small (fun g => (g.book 5).isNone), meets (.openBook 0 [94] 0) small (fun g => (g.book 0).isNone),
      meets (.addSection 5 0 []) small (fun g => (g.book 5).isNone), meets (.addSection 2 0 [95]) small (fun g => (g.book 2).isSome),
      meets (.addSection 2 10 []) small (fun g => (g.book 2).any (fun b => b.sections.any (fun j => g.keyOf j == 10))),
      meets (.addSection 2 255 []) long (fun g => (g.book 2).any (fun b =>
        decide (32 ≤ b.sections.length) && b.sections.all (fun j => g.keyOf j != 255))),
      meets (.addSection 2 255 []) full (fun g => (List.range 96).all (fun k => (g.sec k).isSome)),
      meets (.addSection 2 255 []) small (fun g => decide (0 < 96 ∧ tabFind g.sections 0 = none))].all id = true := by
  decide +kernel

/-- The guard accepts the change a request makes from the state at its grant, and the change stales a sheet or none. -/
def accepted (g after : State) : Bool := (changeSet g after).all (fun i => !g.isLocked i && !g.isInPress i)

/-- The guard refuses it. -/
def refused (g after : State) : Bool := (guard g (changeSet g after)).isSome

/-- `small` with sheet 41 locked. -/
def locked41 : State := reSheet 41 (fun x => { x with lock := true }) small

/-- `small` with sheet 41 IN_PRESS. -/
def press41 : State := reSheet 41 (fun x => { x with state := .inPress }) small

/-- BookChangesPassTheGuard: each row's own conditions, with a change the guard accepts and one it refuses. -/
theorem test_meets_book_changes :
    let set (g : State) : State := g.setBook 2 ((g.book 2).map (fun b => { b with firstFolio := 1 }))
    let moved (g : State) : State :=
      ((g.setSec 14 ((g.sec 14).map (fun c => { c with key := 255 }))).setBook 2
        ((g.book 2).map (fun b => { b with sections := [9, 14] })))
    let lay (g : State) : State := g.setSheet 41 ((g.sheet 41).map (fun x => { x with layout := some { layout57 with pattern := 0 } }))
    let added (g : State) : State :=
      ((g.bumpEpoch 0).setSheet 0 (some (Sheet.fresh 14))).setSec 14 ((g.sec 14).map (fun c => { c with sheets := [0, 40] }))
    let dropped (g : State) : State := (g.removeSheet 40).setSec 14 ((g.sec 14).map (fun c => { c with sheets := [] }))
    let gone (g : State) : State :=
      (g.removeSection 14).setBook 2 ((g.book 2).map (fun b => { b with sections := [9] }))
    [meets (.setBook 2 [54] 0 1 0 24 0) small (fun g => accepted g (set g)),
      meets (.setBook 2 [54] 0 1 0 24 0) locked41 (fun g => refused g (set g)),
      meets (.setSection 14 [44] 255) small (fun g => accepted g (moved g)),
      meets (.setSection 14 [44] 255) press41 (fun g => refused g (moved g)),
      meets (.dropSection 14) small (fun g => accepted g (gone g) && !g.isLocked 40),
      meets (.dropSection 14) locked41 (fun g => refused g (gone g)),
      meets (.addSheet 14 0) small (fun g => accepted g (added g) && (tabFind g.sheets 0).isNone),
      meets (.addSheet 14 0) press41 (fun g => refused g (added g)),
      meets (.dropSheet 40) small (fun g => accepted g (dropped g)),
      meets (.dropSheet 40) locked41 (fun g => refused g (dropped g)),
      meets (.setLayout 41 { layout57 with pattern := 0 } true) small (fun g => accepted g (lay g)),
      meets (.setLayout 41 { layout57 with pattern := 0 } true) locked41 (fun g => refused g (lay g))].all id = true := by
  decide +kernel

/-- RemovalsFreeWhatTheyName, the removals: a close that goes on; a close, a section and a sheet that meet a locked sheet and that
meet a job; and requests on records that are not there. -/
theorem test_meets_removals :
    let jobbed : State := withJobs [job 1 41 .run]
    [meets (.closeBook 2) small (fun g => decide (g.folioOrder = [40, 41])),
      meets (.closeBook 2) locked41 (fun g => decide (g.folioOrder = [40] ++ 41 :: []) && g.isLocked 41 && !g.isLocked 40 &&
        (g.book 2).any (fun b => decide (g.bookSheets b = [40, 41]))),
      meets (.dropSection 9) locked41 (fun g => (g.sec 9).any (fun c => decide (c.book = 2 ∧ c.sheets = [41]))),
      meets (.dropSheet 41) locked41 (fun g => (g.sheet 41).any (fun x => decide (x.section_ = 9) && x.lock)),
      meets (.closeBook 2) jobbed (fun g => ((g.sheet 41).bind (·.job)).isSome && ((g.sheet 40).bind (·.job)).isNone),
      meets (.dropSection 9) jobbed (fun g => !g.isLocked 41), meets (.dropSheet 41) jobbed (fun g => !g.isLocked 41),
      meets (.closeBook 6) small (fun _ => true), meets (.closeBook 5) small (fun g => (g.book 5).isNone),
      meets (.dropSection 95) small (fun g => (g.sec 95).isNone), meets (.dropSheet 0) small (fun g => (g.sheet 0).isNone),
      meets (.approveSheet 0 0) small (fun g => (g.sheet 0).isNone), meets (.unlockSheet 0) small (fun g => (g.sheet 0).isNone),
      (small.entry 8).any (fun e => decide (e.portrait = some 5)),
      (small.entry 7).any (fun e => decide (e.portrait ≠ some 5))].all id = true := by
  decide +kernel

/-- RemovalsFreeWhatTheyName, the refusals of SET BOOK, ADD SECTION, SET SECTION, ADD SHEET, ADD ENTRY, the edits and the
moves. -/
theorem test_meets_refusals :
    let eight : State := small.setSec 14 ((small.sec 14).map (fun c => { c with sheets := List.replicate 8 40 }))
    let sheets : State := { small with sheets := (List.range 192).map (fun i => (i, sheetIn 14 .placed)) }
    let roster : State := small.setSec 14 ((small.sec 14).map (fun c => { c with roster := List.replicate 256 7 }))
    let entries : State := { small with entries := (List.range 3072).map (fun i => (i, student [43] [])) }
    [meets (.setBook 6 [] 1 0 0 0 0) small (fun _ => true), meets (.setBook 5 [] 1 0 0 0 0) small (fun g => (g.book 5).isNone),
      meets (.setBook 2 [] 1 3 0 0 0) small (fun g => (g.book 2).isSome), meets (.setBook 2 [95] 1 0 0 256 2) small (fun _ => true),
      meets (.addSection 6 0 []) small (fun _ => true), meets (.addSection 2 256 [94]) small (fun g => (g.book 2).isSome),
      meets (.setSection 95 [] 0) small (fun g => (g.sec 95).isNone), meets (.setSection 14 [95] 0) small (fun _ => true),
      meets (.setSection 14 [94] 256) small (fun _ => true),
      meets (.setSection 14 [94] 20) small (fun g => decide (g.keyOf 9 = 20)),
      meets (.addSheet 95 0) small (fun g => (g.sec 95).isNone),
      meets (.addSheet 14 2) small (fun g => (g.sec 14).any (fun c => decide (c.sheets.length < 2))),
      meets (.addSheet 14 8) eight (fun g => (g.sec 14).any (fun c => decide (8 ≤ c.sheets.length))),
      meets (.addSheet 14 1) sheets (fun g => (List.range 192).all (fun j => (g.sheet j).isSome)),
      meets (.addEntry 95 [43] [] 0 0 none) small (fun g => (g.sec 95).isNone),
      meets (.addEntry 14 [43] [] 3 0 none) small (fun _ => true), meets (.addEntry 14 [] [43] 0 0 none) small (fun _ => !nameFits [] [43]),
      meets (.addEntry 14 [43] [] 0 0 (some 3072)) small (fun g => !g.portraitUsable (some 3072) && nameFits [43] []),
      meets (.addEntry 14 [43] [] 2 2 (some 6)) small (fun g => !g.portraitUsable (some 6)),
      meets (.addEntry 14 [43] [] 2 2 (some 5)) roster (fun g => g.portraitUsable (some 5)),
      meets (.addEntry 14 [43] [] 2 2 none) entries (fun g => (g.entry 0).isSome && (g.entry 3071).isSome),
      meets (.dropEntry 3071) small (fun g => (g.entry 3071).isNone), meets (.editName 9 [43] []) small (fun g => (g.entry 9).isNone),
      meets (.editName 7 [95] []) small (fun g => (g.entry 7).isSome), meets (.editRole 9 0) small (fun g => (g.entry 9).isNone),
      meets (.editRole 7 3) small (fun _ => true), meets (.editStatus 3072 0) small (fun g => (g.entry 3072).isNone),
      meets (.editStatus 7 3) small (fun _ => true), meets (.editPortrait 9 none) small (fun g => (g.entry 9).isNone),
      meets (.editPortrait 7 (some 6)) small (fun g => !g.portraitUsable (some 6)),
      meets (.moveEntry 9 14) small (fun g => (g.entry 9).isNone), meets (.moveEntry 7 95) small (fun g => (g.sec 95).isNone),
      meets (.moveEntry 7 3) (small.setSec 3 (some ⟨1, 0, [], [], []⟩)) (fun g => (g.sec 3).any (fun c => decide (c.book ≠ 2))),
      meets (.swapPortraits 7 3071) small (fun g => (g.entry 3071).isNone)].all id = true := by
  decide +kernel

/-- SetLayoutRefusesABadRecord: a flag byte that is no flag, a record out of range, and a good record for a free slot. -/
theorem test_meets_layout_checks :
    [meets (.setLayout 41 layout57 true) small (fun _ => layout57.valid),
      meets (.setLayout 0 layout57 true) small (fun g => (g.sheet 0).isNone && layout57.valid),
      meets (.setLayout 41 { layout57 with columns := 9 } true) small (fun _ => !({ layout57 with columns := 9 } : Layout).valid),
      (requestOf { (heldOf 3 (.setLayout 41 layout57 true)) with
        fields := (heldOf 3 (.setLayout 41 layout57 true)).fields.dropLast.dropLast ++ [2, 1] }).any
          (fun r => decide (r = .setLayout 41 { layout57 with centreLast := false } false))].all id = true := by
  decide +kernel

/-- TheGuardRefusesLockedBeforeInPress and StalingFollowsTheSheetState: a locked and an IN_PRESS sheet of a set, and a sheet in each
state that staling meets. -/
theorem test_meets_guard_and_staling :
    locked41.folioOrder = [40] ++ 41 :: [] ∧ locked41.isLocked 41 = true ∧ locked41.isLocked 40 = false ∧
      press41.isInPress 41 = true ∧ press41.isInPress 40 = false ∧ press41.isLocked 41 = false ∧ press41.isLocked 40 = false ∧
      (small.sheet 0).isNone = true ∧ (small.book 2).any (fun b => decide (small.bookSheets b = [40] ++ 41 :: [])) = true ∧
      (small.sec 9).any (fun c => decide (c.sheets = [] ++ 41 :: [] ∧ small.lastSheet c = some 41)) = true ∧
      small.laid 41 = true ∧ (small.inputs 41).isSome = true ∧
      (let two : State := small.setSec 9 ((small.sec 9).map (fun c => { c with sheets := [41, 40] }))
       (two.sec 9).any (fun c => decide (two.lastSheet c ≠ some 41)) = true ∧
        (two.sheet 41).any (fun x => decide (x.section_ = 9) && x.layout.isSome) = true) ∧
      [SheetState.placed, .held, .placing, .stale].all (fun st =>
        ((reSheet 41 (fun x => { x with state := st }) small).sheet 41).any (fun x => decide (x.state = st))) = true ∧
      ((reSheet 41 (fun x => { x with state := .unlaid }) small).sheet 41).any (fun x => x.layout.isSome) = true ∧
      ((reSheet 41 (fun x => { x with state := .unlaid, layout := none }) small).sheet 41).any (fun x => x.layout.isNone) = true := by
  decide +kernel

/-- CollationKeepsRostersInStrictOrder: a roster in strict order and an entry that is not in it. -/
theorem test_meets_collation :
    let e (n : Nat) : Option Entry := if n < 4 then some (student [40 + n] []) else none
    [1, 3].Pairwise (fun a b => collate a (student [40 + a] []) b (student [40 + b] []) = .lt) ∧ 2 ∉ [1, 3] ∧
      (∀ j ∈ [1, 3], (e j).isSome) ∧ rosterInsert e 2 (student [42] []) [1, 3] = [1] ++ 2 :: [3] ∧
      collate 1 (student [41] []) 1 (student [41] []) = .eq := by
  decide +kernel

/-- RosterChangesPassTheGuard: an entry added, dropped and moved, accepted and refused, and the two short ways of a move. -/
theorem test_meets_roster_changes :
    let new : Entry := { student [46] [] with portrait := some 5 }
    let added (g : State) : State :=
      ((g.setEntry 0 (some { new with section_ := 9 })).joinRoster 9 0 { new with section_ := 9 }).useUp (some 5)
    let dropped (g : State) : State := (g.leaveRoster 9 7).freeEntry 7
    let moved (g : State) : State := match g.entry 7 with
      | some e => ((g.leaveRoster 9 7).setEntry 7 (some { e with section_ := 14 })).joinRoster 14 7 { e with section_ := 14 }
      | none => g
    let full : State := small.setSec 14 ((small.sec 14).map (fun c => { c with roster := List.replicate 256 7 }))
    [meets (.addEntry 9 [46] [] 2 0 (some 5)) small (fun g => accepted g (added g) && (tabFind g.entries 0).isNone &&
        decide ((g.portrait 5).state ≠ .free)),
      meets (.addEntry 9 [46] [] 2 0 (some 5)) locked41 (fun g => refused g (added g)),
      meets (.dropEntry 7) small (fun g => accepted g (dropped g)), meets (.dropEntry 7) press41 (fun g => refused g (dropped g)),
      meets (.moveEntry 7 14) small (fun g => accepted g (moved g)), meets (.moveEntry 7 14) locked41 (fun g => refused g (moved g)),
      meets (.moveEntry 7 9) small (fun g => (g.entry 7).any (fun e => decide (e.section_ = 9))),
      meets (.moveEntry 7 14) full (fun g => (g.sec 14).any (fun c => decide (256 ≤ c.roster.length)))].all id = true := by
  decide +kernel

/-- EntryEditsPassTheGuard: each edit with the stored values, with new ones accepted, and with new ones refused. -/
theorem test_meets_edits :
    let e7 : Entry := { student [43, 69] [44] with section_ := 9 }
    let named (g : State) : State := g.rewriteEntry 7 { e7 with surname := [94], given := [] }
    let cast (g : State) : State := g.rewriteEntry 7 { e7 with role := .teacher }
    let absent (g : State) : State := g.setEntry 7 (some { e7 with status := .absent })
    let shown5 (g : State) : State := ((g.useDown none).useUp (some 5)).setEntry 7 (some { e7 with portrait := some 5 })
    let swapped (g : State) : State := match g.entry 8 with
      | some f => (g.setEntry 7 (some { e7 with portrait := f.portrait })).setEntry 8 (some { f with portrait := none })
      | none => g
    let twin : State := small.setEntry 8 ((small.entry 8).map (fun f => { f with portrait := none }))
    (small.entry 7 = some e7) ∧
    [meets (.editName 7 [43, 69] [44]) small (fun _ => true), meets (.editName 7 [94] []) small (fun g => accepted g (named g)),
      meets (.editName 7 [94] []) locked41 (fun g => refused g (named g)), meets (.editRole 7 2) small (fun _ => true),
      meets (.editRole 7 0) small (fun g => accepted g (cast g)), meets (.editRole 7 0) press41 (fun g => refused g (cast g)),
      meets (.editStatus 7 0) small (fun _ => true), meets (.editStatus 7 1) small (fun g => accepted g (absent g)),
      meets (.editStatus 7 1) locked41 (fun g => refused g (absent g)), meets (.editPortrait 7 none) small (fun _ => true),
      meets (.editPortrait 7 (some 5)) small (fun g => accepted g (shown5 g)),
      meets (.editPortrait 7 (some 5)) locked41 (fun g => refused g (shown5 g)),
      meets (.swapPortraits 7 7) small (fun _ => true), meets (.swapPortraits 7 8) twin (fun g => (g.entry 8).isSome),
      meets (.swapPortraits 7 8) small (fun g => accepted g (swapped g)),
      meets (.swapPortraits 7 8) locked41 (fun g => refused g (swapped g))].all id = true := by
  decide +kernel

/-- ApprovalLocksTheSheetAndItsPortraits: approvals that draw NOT_ELIGIBLE, that find the lock, and that lock; unlocks; and a portrait
that promotes and one that does not. -/
theorem test_meets_approval :
    let held : State := reSheet 41 (fun x => { x with state := .held }) small
    let ready5 : State := small.setPortrait 5 { portrait64 with pendingImage := portrait64.current }
    [meets (.approveSheet 41 0) held (fun g => (g.sheet 41).isSome), meets (.approveSheet 41 1) small (fun g => decide (g.epoch 41 = 0)),
      meets (.approveSheet 41 0) locked41 (fun g => g.isLocked 41), meets (.approveSheet 41 0) small (fun g => !g.isLocked 41),
      meets (.unlockSheet 41) small (fun g => !g.isLocked 41), meets (.unlockSheet 41) locked41 (fun g => g.isLocked 41),
      ready5.promotes 5, !small.promotes 5, decide ((ready5.examine [5]).epoch 41 = 1),
      decide ((ready5.folioOrder.filter (fun i => [5].any (fun q => ready5.promotes q && (ready5.imageSet q).contains i))) = [41])].all
        id = true ∧ [5].Nodup := by
  decide +kernel

/-- PortraitRequestsFollowTheirRules: each refusal and each effect. -/
theorem test_meets_portraits :
    let used : State := small.setPortrait 5 { portrait64 with useCount := 1 }
    let froze : State := small.setPortrait 5 { portrait64 with lockCount := 1 }
    let void : State := small.setPortrait 5 { Portrait.reset with state := .empty }
    [meets (.reservePortrait 3072) small (fun _ => true), meets (.reservePortrait 5) small (fun g => decide ((g.portrait 5).state ≠ .free)),
      meets (.reservePortrait 3071) small (fun g => decide ((g.portrait 3071).state = .free)),
      meets (.releasePortrait 3072) small (fun _ => true), meets (.releasePortrait 5) used (fun g => decide (0 < (g.portrait 5).useCount)),
      meets (.releasePortrait 5) small (fun g => decide ((g.portrait 5).useCount = 0) && !g.isLoadTarget 5),
      meets (.setFaceBox 3072 ⟨10, 20, 40, 32⟩) small (fun _ => true),
      meets (.setFaceBox 6 ⟨10, 20, 40, 32⟩) small (fun g => decide ((g.portrait 6).state = .free)),
      meets (.setFaceBox 5 ⟨0, 20, 63, 63⟩) press41 (fun g => decide (guard g (g.imageSet 5) = some (.inPress, 41))),
      meets (.setFaceBox 5 ⟨0, 20, 63, 63⟩) locked41 (fun g => decide (guard g (g.imageSet 5) = some (.locked, 41))),
      meets (.setFaceBox 5 ⟨10, 20, 40, 32⟩) void (fun g => (g.portrait 5).current.isNone),
      meets (.setFaceBox 5 ⟨10, 20, 25, 32⟩) small (fun _ => !faceFits 64 64 ⟨10, 20, 25, 32⟩),
      meets (.setFaceBox 5 ⟨0, 20, 63, 63⟩) froze (fun g => faceFits 64 64 ⟨0, 20, 63, 63⟩ && decide (0 < (g.portrait 5).lockCount)),
      meets (.setFaceBox 5 ⟨10, 20, 40, 32⟩) small (fun _ => faceFits 64 64 ⟨10, 20, 40, 32⟩),
      meets (.setFaceBox 5 ⟨0, 20, 63, 63⟩) small (fun g =>
        (g.imageSet 5).all (fun j => !g.isLocked j && !g.isInPress j) && decide (g.imageSet 5 = [41]))].all id = true := by
  decide +kernel

/-! ### Witnesses: image port, placement, jobs, links, notices, settings -/

/-- A load record for portrait 5: 64 by 64 into block 0, `n` bytes received. -/
def load5 (n : Nat) : LoadRecord :=
  { header := ⟨5, 64, 64, ⟨10, 20, 40, 32⟩⟩, blockCount := 1, blocks := [0], received := n, check := 7 }

/-- A state with its image port in a state, with a header or a load record. -/
def imageAt (st : ImagePortState) (h : Option LoadHeader) (r : Option LoadRecord) (s : State) : State :=
  { s with image := { s.image with state := st, header := h, load := r } }

/-- HeadersReserveOrRefuse: transfers of each kind, well formed and not, and at a busy port; a grant for each of the four checks,
and one accepted with the pool's last block. -/
theorem test_meets_headers :
    let at5 (h : LoadHeader) (s : State) : State := imageAt .headerWait (some h) none s
    let frozen : State := small.mapPortrait 5 (fun q => { q with lockCount := 1 })
    let left (n : Nat) : State := { small with pool := { small.pool with freeCount := n } }
    let h : LoadHeader := (load5 0).header
    headerOf [0x10000005#32, 0x00400040#32, 0x000A0014#32, 0x00280020#32] = some h ∧
      headerOf [0x10001005#32, 0, 0, 0] = none ∧ headerOf [0x10000005#32] = none ∧ small.image.state = .idle ∧
      (at5 h small).image.state ≠ .idle ∧ transferKind [0x10000005#32] = 1 ∧ transferKind [0x2FFFFFFF#32] = 2 ∧
      transferKind [0x30000000#32, 0] = 3 ∧ transferKind [0x4FFFFFFF#32] = 4 ∧ transferKind [0x50000000#32] = 5 ∧
      [at5 h small, at5 { h with slot := 3071 } small, at5 { h with slot := 3072 } small, at5 h frozen, at5 h (left 0),
        at5 h (left 1), at5 { h with width := 63 } small].all (fun s => s.grantImage.isSome) = true ∧
      (small.portrait 3071).state = .free ∧ (small.portrait 5).state ≠ .free ∧ 0 < (frozen.portrait 5).lockCount ∧
      (left 0).pool.freeCount < (64 * 64 * 3 + 65535) / 65536 ∧ (64 * 64 * 3 + 65535) / 65536 ≤ (left 1).pool.freeCount ∧
      (h.face.crown < h.face.eye ∧ h.face.eye < h.face.chin ∧ h.face.chin < h.height ∧ h.face.crown + 16 ≤ h.face.chin ∧
        h.face.centre < h.width) := by
  decide +kernel

/-- PayloadBytesFillTheReservedBlocks: a first byte, the last of the image, and bytes beyond it. -/
theorem test_meets_payload :
    (imageAt .receiving none (some (load5 0)) small).image.load = some (load5 0) ∧ (load5 0).blocks.Nodup ∧
      (load5 0).header.width * (load5 0).header.height * 3 ≤ 65536 * (load5 0).blocks.length ∧
      (payloadBytes 5 [0x01020304#32, 0x05000000#32])[4]? = some 5#8 ∧ 12284 + 3 < 64 * 64 * 3 ∧ ¬12284 + 4 < 64 * 64 * 3 ∧
      imageAddress [0] 0 ≠ 1 := by
  decide +kernel

/-- EndMarksCommitPendOrRefuse: each judgement of the port, and the four outcomes of a grant. -/
theorem test_meets_end_marks :
    let wait (s : State) : State := imageAt .endWait none (some (load5 12288)) s
    let with5 (f : Portrait → Portrait) : State := wait (small.mapPortrait 5 f)
    let locked := with5 (fun q => { q with lockCount := 1 })
    let pinned := with5 (fun q => { q with pinCount := 1 })
    (load5 12287).received ≠ (load5 0).header.width * (load5 0).header.height * 3 ∧
      (load5 12288).received = (load5 0).header.width * (load5 0).header.height * 3 ∧ (0 : Word32) ≠ (load5 0).check ∧
      (imageAt .receiving none (some (load5 12288)) small).image.load = some (load5 12288) ∧ small.image.state = .idle ∧
      [locked, pinned, wait press41, wait small].all (fun s => s.grantImage.isSome) = true ∧
      0 < (locked.portrait 5).lockCount ∧ (pinned.portrait 5).lockCount = 0 ∧ 0 < (pinned.portrait 5).pinCount ∧
      ((wait small).portrait 5).pinCount = 0 ∧ ((wait press41).imageSet 5).any (wait press41).isInPress = true ∧
      ((wait small).imageSet 5).all (fun j => !(wait small).isInPress j) = true := by
  decide +kernel

/-- PlacementTakesAndPosts: a take, and completions that post a result, that hold, that drop a RUN job, and that come too late. -/
theorem test_meets_placement :
    let absent : State := small.setEntry 7 ((small.entry 7).map (fun e => { e with status := .absent }))
    let queued : State := { reSheet 41 (fun x => { x with state := .stale }) absent with queue := [41] }
    let taken : State := after .placementTake queued
    let late : State := taken.bumpEpoch 41
    let odd (b : Bool) (js : List Job) : State :=
      { taken with placing := taken.placing.map (fun u => { u with inputs := { u.inputs with overflow := if b then some 1 else some 0 } })
                   jobs := js }
    queued.placing = none ∧ (queued.sheet 41).isSome ∧ (queued.copySheet 41).isSome ∧
      (taken.sheet 41).any (fun x => decide (x.state = .placing)) = true ∧
      taken.placing.any (fun u => decide (taken.epoch 41 = u.epoch ∧ u.inputs.holdReason = none)) = true ∧
      (odd true []).placing.any (fun u => decide (u.inputs.holdReason = some .overflow)) = true ∧
      (odd true [job 4 41 .run]).jobs.all (fun j => decide (j.kind = .run ∧ j.started = false)) = true ∧
      late.placing.any (fun u => decide (late.epoch 41 ≠ u.epoch)) = true := by
  decide +kernel

/-- SharesDivideTheTileSequence and WindowsCaptionsAndListLinesFit: windows inside their sources and padded on either axis, areas
with no caption strip, with one line and with two. -/
theorem test_meets_shares_windows_lines :
    (∀ c ∈ small.sec 9, c.sheets.Nodup) ∧
      (let i := fitCase 1200 1500 300 520 780 610 300 375 160 150
       i.w ≤ i.width ∧ i.h ≤ i.height ∧ i.flags.padded = false ∧ i.flags.clamped = false) ∧
      (let i := fitCase 64 2560 1000 1100 1200 32 640 850 320 300
       i.width < i.w ∧ i.flags.padded = true) ∧
      (let i := fitCase 2560 64 1 30 60 1000 850 640 640 300
       i.height < i.h) ∧
      (1 ≤ 21 ∧ 1 ≤ 2 ∧ ([94] : Str) ≠ [] ∧ ∀ c ∈ ([94] : Str), c < 95) ∧ listedFive.length ≤ 256 ∧
      (0 < layout57.advance ∧ layout57.advance ≤ 14 ∧ 0 < layout57.lineHeight ∧ layout57.lineHeight ≤ layout57.captionHeight ∧
        2 * layout57.lineHeight ≤ layout57.captionHeight ∧ ({ layout57 with captionHeight := 0 } : Layout).captionHeight = 0) ∧
      (fullName [52, 83] [56, 75]).length ≤ min 48 (300 / layout57.advance) ∧
      min 48 (300 / layout57.advance) < (fullName (List.replicate 21 43) (List.replicate 21 44)).length ∧
      21 ≤ min 48 (300 / layout57.advance) := by
  decide +kernel

/-- GridFooterAndBandFramesFollowTheResult: layouts with feature active and not, full and with one tile; footers that fit and that
are cut; and in a band frame an item of each kind that crosses the band. -/
theorem test_meets_grid_and_frames :
    let plain : Layout := { layout57 with featureFirst := false }
    let empty : Tile := { shows 6 with kind := .placeholder 1, x := 900 }
    let text : Tile := { shows 5 with caption := [⟨[44, 0, 43], 129⟩] }
    let r : PlacementResult :=
      { shown [] with tiles := [text, empty], notPictured := [[56, 83]], footerLine := ⟨[54], 1193, 3700, false⟩ }
    let s : State := (reSheet 40 (fun x => { x with result := some r }) small).setPortrait 5
      { portrait64 with current := some ⟨300, 375, ⟨10, 20, 40, 32⟩, 6, 0⟩ }
    let f (n : Nat) : Option BandFrame := s.bandFrame (job 4 40 .run) ⟨1, n, 0⟩
    layout57.valid = true ∧ plain.valid = true ∧ layout57.capacity = 39 ∧ plain.capacity = 42 ∧ layout57.cellOf 39 38 = (6, 5) ∧
      layout57.cellOf 2 0 = (0, 0) ∧ layout57.cellOf 2 1 = (0, 2) ∧ plain.cellOf 42 41 = (6, 5) ∧ plain.cellOf 1 0 = (0, 0) ∧
      ((small.inputs 41).any (fun i => (i.tileList[0]?).isSome)) = true ∧
      ([] : Str).length ≤ layout57.sheetWidth / layout57.advance ∧
      layout57.sheetWidth / layout57.advance < (List.replicate 172 43).length ∧
      (s.sheet 40).any (fun x => decide (x.layout = some layout57 ∧ x.result = some r)) = true ∧
      [2, 5, 28, 29, 32].all (fun n => (f n).isSome) = true ∧
      (f 2).any (fun b => decide (b.spans.length = 2)) = true ∧ (f 5).any (fun b => decide (b.spans.length = 3)) = true ∧
      (f 28).any (fun b => decide (b.spans.map (·.body) = [.text .list 2 14 32 false, .text .footer 1 14 32 false])) = true ∧
      ((s.portrait 5).current).any (fun m => decide ((0 : Int) + 300 ≤ m.width ∧ (0 : Int) + 375 ≤ m.height)) = true := by
  decide +kernel

/-- SubmittingMakesAWaitingJob, with a RUN job ACTIVE and without, and the tag of a new job at the end of the circle. -/
theorem test_meets_submitting :
    let held : State := reSheet 41 (fun x => { x with state := .held }) small
    let full (k : JobKind) (n : Nat) : State := { small with jobs := (List.range n).map (fun t => job (t + 1) 50 k) }
    let busy : State := withJobs [{ job 4 40 .run with state := .active, started := true }]
    let last : State := { withJobs [job 4095 40 .run] with tagCounter := 4095 }
    pressOf 0 = some .a ∧
    [meets (.submitRun 0 0 1) small (fun g => (g.sheet 0).isNone), meets (.submitProof 0 0) small (fun g => (g.sheet 0).isNone),
      meets (.submitRun 41 2 1) small (fun g => (g.sheet 41).isSome), meets (.submitProof 41 2) small (fun g => (g.sheet 41).isSome),
      meets (.submitRun 41 0 0) small (fun _ => true), meets (.submitRun 40 0 1) (withJobs [job 4 40 .run]) (fun g =>
        (g.sheet 40).any (fun x => x.job.isSome)),
      meets (.submitRun 41 0 1) held (fun g => (g.sheet 41).any (fun x => decide (x.state ≠ .placed))),
      meets (.submitRun 41 0 1) (full .run 12) (fun g => decide (12 ≤ (g.collection .a .run).length)),
      meets (.submitRun 41 0 1000) small (fun g => (g.sheet 41).any (fun x => decide (x.state = .placed) && x.job.isNone)),
      meets (.submitProof 41 1) press41 (fun g => (g.sheet 41).any (fun x => decide (x.state = .inPress) && x.job.isNone)),
      meets (.submitProof 41 0) (full .proof 4) (fun g => decide (4 ≤ (g.collection .a .proof).length)),
      meets (.submitProof 41 0) held (fun g => g.activeJob.isNone), meets (.submitProof 41 0) busy (fun g => g.activeJob.isSome),
      meets (.submitProof 40 0) (withJobs [job 4 40 .run]) (fun g => (g.sheet 40).any (fun x => x.job.isSome))].all id = true ∧
    busy.activeJob.any (fun a => decide (a.kind = .run ∧ a.resumeBand = 0 ∧ a.ending = .none)) = true ∧ busy.suspendedJob = none ∧
    busy.nextTag = 1 ∧ small.jobOf small.tagCounter = none ∧ last.jobs.length < 4095 ∧ last.nextTag = 1 ∧
    (4095 - 1 + 1) % 4095 + 1 = 1 ∧ (last.jobOf 4095).isSome := by
  decide +kernel

/-- CancelEndsTheJobOrMarksIt and AJobEndReleasesWhatTheJobHeld. -/
theorem test_meets_job_ends :
    let active : Job := { job 4 40 .run with state := .active, started := true }
    let banded (j : Job) : State :=
      let s := withJobs [j]
      { s with renderer := { s.renderer with band := some ⟨1, 0, 255⟩ } }
    [meets (.cancelJob 0) small (fun _ => true), meets (.cancelJob 9) small (fun g => (g.jobOf 9).isNone),
      meets (.cancelJob 4) (withJobs [{ job 4 40 .run with ending := .aborted }]) (fun g => (g.jobOf 4).isSome),
      meets (.cancelJob 4) (banded active) (fun g => (g.jobOf 4).any (fun j => decide (j.state = .active)) && g.renderer.band.isSome),
      meets (.cancelJob 4) (withJobs [job 4 40 .run]) (fun g => (g.jobOf 4).any (fun j => decide (j.ending = .none)))].all id = true ∧
    (press41.sheet 41).any (fun x => decide (x.state = .inPress ∧ x.pins = [5, 5, 6]) && x.hold.isNone) = true ∧
    (let s := press41.setPortrait 5 { portrait64 with pendingImage := portrait64.current, pinCount := 2 }
     (s.portrait 5).pinCount ≤ [5, 5, 6].count 5 ∧ (s.portrait 5).pendingImage.isSome ∧ (s.portrait 5).lockCount = 0 ∧
      41 ∈ s.imageSet 5 ∧ (s.sheet 41).any (fun x => decide (x.state = .inPress)) = true ∧
      ∀ q ∈ [5, 5, 6], (press41.portrait q).pendingImage = none) ∧
    [withJobs [job 4 40 .run], withJobs [{ job 4 40 .run with done := 1 }]].all (fun s => (s.reportJob 4).isSome) = true ∧
    (job 4 40 .run).done + 1 ≠ (job 4 40 .run).copies ∧ 1 + 1 = (job 4 40 .run).copies := by
  decide +kernel

/-- TheGrantOrderIsKept, BandsBeginAndMeetTheirBoundaries and AStallSuspendsOrRestarts. -/
theorem test_meets_grants_bands_stalls :
    let act (j : Job) : Job := { j with state := .active, started := true }
    let frame : BandFrame :=
      { tag := 9, serial := 0, copy := 1, band := 0, bandCount := 2, bandHeight := 128, sheetWidth := 2400, proof := false
        startCorrection := 0, spans := [], payload := [] }
    let fill (n : Nat) (s : State) : State := s.setLink .a { s.link .a with fifo := List.replicate n frame }
    let band (c b : Nat) (s : State) : State := { s with renderer := { s.renderer with band := some ⟨c, b, 255⟩ } }
    let timed (s : State) : State := { s with renderer := { s.renderer with stallTimer := some 1 } }
    let two (f : Job → Job) : State := withJobs [act (f (job 4 40 .run)), job 5 41 .proof]
    (withJobs [job 4 40 .run, job 5 41 .proof]).grantOrder = some (job 5 41 .proof) ∧
      ((withJobs [{ job 4 40 .run with state := .suspended, started := true }]).grantOrder).isSome ∧
      ((withJobs [{ job 4 40 .run with press := .a }]).oldestRun .a).isSome ∧
      (withJobs [job 4 40 .run]).oldestRun .b = none ∧ (fill 6 (withJobs [job 5 41 .proof])).proofToGrant = none ∧
      ((withJobs [job 4 40 .run]).grantOrder).isSome ∧ (withJobs [job 4 40 .run]).activeJob = none ∧
      (two id).activeJob.isSome ∧ (fill 5 (two id)).hasRoom .a = true ∧ (fill 6 (two id)).hasRoom .a = false ∧
      [(1, 0), (1, 32), (2, 32)].all (fun c => (((band c.1 c.2 (two id)).clearBand.bandFrame
        (act (job 4 40 .run)) ⟨c.1, c.2, 255⟩).isSome && decide ((two id).bandsOf (job 4 40 .run) = 33))) = true ∧
      (act { job 4 40 .run with rewind := some 2 }).rewind = some 2 ∧
      (timed (fill 6 (withJobs [act (job 4 40 .run), { job 6 41 .run with press := .b }]))).otherGrantable .a = true ∧
      (timed (fill 6 (withJobs [act (job 4 40 .run)]))).otherGrantable .a = false := by
  decide +kernel

/-- ASpoilRewindsOrAborts: each state a spoiled job may be in, with and without a band in production and by its spoil count; a
report for no job; a rule with and without a serial, and what it kills. -/
theorem test_meets_spoils :
    let act (b : Option BandInProduction) (n : Nat) : State :=
      let s := withJobs [{ job 4 40 .run with state := .active, started := true, spoils := n }]
      { s with renderer := { s.renderer with band := b } }
    [JobState.waiting, .active, .suspended, .draining].all (fun st => [0, 1, 2].all (fun n =>
        ((withJobs [{ job 4 40 .run with state := st, spoils := n }]).reportJob 4).any (fun j => decide (j.state = st ∧ j.spoils = n)))) =
        true ∧ small.reportJob 4 = none ∧ (withJobs [{ job 4 40 .run with ending := .cancelled }]).reportJob 4 = none ∧
      ((act (some ⟨1, 0, 255⟩) 1).reportJob 4).isSome ∧ (act (some ⟨1, 0, 255⟩) 2).renderer.band.isSome ∧
      (act none 1).renderer.band = none ∧ ((act none 1).reportJob 4).isSome ∧ (act none 1).activeJob = (act none 1).reportJob 4 ∧
      (∃ o ∈ [(⟨4, 1, some 1⟩ : DeadRule)], o.tag = 4 ∧ o.copy < 2) ∧ (∀ o ∈ [(⟨4, 1, some 1⟩ : DeadRule)], o.tag = 4 → 1 ≤ o.copy) ∧
      ((act none 1).takeSpoil .a 4 1 true).reportJob 4 ≠ none ∧
      (⟨4, 2, none⟩ : DeadRule).kills 4 2 0 = true ∧ (⟨4, 2, some 1⟩ : DeadRule).kills 4 2 1 = false ∧
      (⟨4, 2, none⟩ : DeadRule).kills 4 1 0 = false := by
  decide +kernel

/-- MarkReportsJudgeTheLock, ForceResyncRestartsTheSearch and SetPressStoresValuesInRange: good and bad reports in each state, a
search count at its end with the condition clear and set, an attempt in transmission and none. -/
theorem test_meets_registration :
    let lock (f : Registration → Registration) : State := small.setReg .a (f (small.link .a).reg)
    let locked := lock (fun r => { r with state := .locked, bad := 2 })
    let sending := locked.setLink .a { locked.link .a with transmission := some ⟨4, 1, 0, 33, 32⟩ }
    let off : State := after (.onlineFall .a) small
    goodFor 24 true false 24 = true ∧ goodFor 24 true false (-25) = false ∧ goodFor 48 true true 0 = false ∧
      (small.link .a).reg.state = .search ∧ ((lock (fun r => { r with state := .confirm, confirm := 2 })).link .a).reg.confirm = 2 ∧
      ((lock (fun r => { r with search := 11 })).link .a).reg.searchTimeout ≤ 11 + 1 ∧
      ((lock (fun r => { r with search := 12, timedOut := true })).link .a).reg.timedOut = true ∧
      (locked.link .a).reg.state = .locked ∧ (locked.link .a).reg.policy = .auto ∧ 2 ≤ (locked.link .a).reg.bad ∧
      (locked.link .a).transmission = none ∧ (sending.link .a).transmission.isSome ∧
      ((sending.judgeReport .a true false 48).link .a).transmission.isSome ∧
      ((lock (fun r => { r with state := .locked, bad := 2, policy := .manual })).link .a).reg.policy = .manual ∧
      (small.link .a).online = true ∧ small.settings.state ≠ .loading ∧ (off.link .a).online = false ∧
      [meets (.forceResync 2) small (fun _ => true), meets (.forceResync 0) off (fun _ => true),
        meets (.forceResync 0) small (fun _ => true), meets (.forceResync 0) locked (fun _ => true),
        meets (.forceResync 0) sending (fun g => (g.link .a).transmission.isSome),
        meets (.setPress 2 24 48 12 0 250) small (fun _ => true), meets (.setPress 0 65 16 3 1 2551) small (fun _ => true),
        meets (.setPress 0 8 16 4 0 10) (lock (fun r => { r with search := 4 })) (fun g => decide (4 ≤ (g.link .a).reg.search)),
        meets (.setPress 1 24 48 12 2 250) small (fun _ => true)].all id = true ∧
      pressOf 0 = some .a ∧ pressOf 2 = none ∧ policyOf 1 = some .manual ∧ policyOf 2 = none := by
  decide +kernel

/-- FrameRequestsBeginAndContinueAttempts, AStatusReportMatchesTheOldestDue, TheOnlineLineOpensAndFlushesTheLink and
BadReturnWordsAreDiscarded: first requests that begin and that draw fill, later ones that continue, spoil and draw fill, a dead and
a stray head before a live band 0, and records due, void, marked, whole and in transmission. -/
theorem test_meets_links :
    let frame (t b : Nat) : BandFrame :=
      { tag := t, serial := 0, copy := 1, band := b, bandCount := 2, bandHeight := 128, sheetWidth := 2400, proof := false
        startCorrection := 0, spans := [], payload := [] }
    let att : Attempt := { tag := 9, copy := 1, serial := 0, bandCount := 2, sent := 2, received := 1, error := false, voided := false }
    let x : Transmission := { tag := 9, copy := 1, serial := 0, bandCount := 2, next := 1 }
    let link (f : Link → Link) : State := small.setLink .a (f (small.link .a))
    let first := link (fun l => { l with period := .opened false, fifo := [frame 8 0, frame 9 1, frame 9 0], rules := [⟨8, 1, none⟩]
                                         reg := { l.reg with state := .locked } })
    let later (b : Nat) := link (fun l => { l with
      period := .opened true, fifo := [frame 9 b], transmission := some x, attempts := [{ att with voided := true }, { att with sent := 1 }] })
    let loading : State := { small with settings := { small.settings with state := .loading } }
    (first.link .a).fifo.dropWhile (fun f => (first.link .a).isDead f ||
        (decide (f.band ≠ 0) && !(first.link .a).inTransmission f.tag f.copy f.serial)) = frame 9 0 :: [] ∧
      (first.link .a).attempts.length < 4 ∧ (first.link .a).reg.state = .locked ∧
      4 ≤ (List.replicate 4 att).length ∧ ((link (fun l => { l with period := .opened false })).link .a).reg.state ≠ .locked ∧
      ((later 1).link .a).isDead (frame 9 1) = false ∧ (frame 9 1).band = x.next ∧ (frame 9 1).tag = x.tag ∧
      ((later 1).link .a).attempts = [{ att with voided := true }] ++ { att with sent := 1 } :: [] ∧
      ((later 0).link .a).transmission = some x ∧ ¬(frame 9 0).band = x.next ∧
      ((link (fun l => { l with period := .opened true })).link .a).fifo = [] ∧ (small.link .a).period = .closed ∧
      ((link (fun l => { l with attempts := [att], fifo := [frame 9 0, frame 4 0], rules := [⟨9, 1, some 1⟩] })).link .a).unconfirmed =
        [(9, 1, 0), (4, 1, 0)] ∧ ((withJobs [job 4 40 .run]).reportJob 4).isSome ∧
      ((after (.onlineFall .a) small).link .a).online = false ∧ loading.settings.state = .loading ∧ (loading.link .a).online = true ∧
      att.received < att.sent ∧ att.received + 1 = att.bandCount ∧ ({ att with voided := true } : Attempt).voided = true ∧
      ({ att with received := 0 } : Attempt).received + 1 ≠ att.bandCount ∧ ({ att with error := true } : Attempt).error = true ∧
      (∀ y ∈ [{ att with received := 2 }], y.sent ≤ y.received) ∧ returnWordGood 0x40000000#32 = false ∧
      returnWordGood 0x20000000#32 = true := by
  decide +kernel

/-- SetArbiterStoresTheWeights, SetNoticeMaskStoresTheMask, ReadNoticesClearsTheSet, ALatchCountsAndKeepsTheLatestSubject,
ACounterWrapsWithItsFlag and ClearCountersZeroesWhatItNames. -/
theorem test_meets_desk_rows :
    let waits : State := small.setPort .dp1 { small.port .dp1 with slot := .waiting (heldOf 5 .readArbiter) }
    let d : DeskPort := { small.port .dp0 with notices := [(6, ⟨255, .press .a⟩)] }
    [meets (.setArbiter 0 0 0 0 4) small (fun _ => true), meets (.setArbiter 9 0 0 0 0) waits (fun _ => true),
      meets (.setNoticeMask 32767) small (fun _ => true), meets (.setNoticeMask 32768) small (fun _ => true),
      meets .readNotices small (fun _ => true), meets (.clearCounters 7 none) small (fun _ => true),
      meets (.clearCounters 1 (some 6)) small (fun _ => true), meets (.clearCounters 2 (some 3)) small (fun _ => true),
      meets (.clearCounters 1 (some 5)) small (fun _ => true), meets (.clearCounters 6 (some 2)) small (fun _ => true),
      meets (.clearCounters 0 none) small (fun _ => true)].all id = true ∧
    ((⟨8, 0, 0, 0⟩ : PerPort Nat).get .dp1 = 0 ∧ (waits.port .dp1).slot = .waiting (heldOf 5 .readArbiter)) ∧
    tabFind d.notices Notice.copySpoiled.flag = none ∧ tabFind d.notices 6 = some ⟨255, .press .a⟩ ∧ tabSorted d.notices = true ∧
    ((small.setCounter 1 5 { value := 0xFFFFFFFF#32, overflow := false }).counter 1 5).value = 4294967295#32 ∧
    (small.counter 1 5).value ≠ 4294967295#32 := by
  decide +kernel

/-- SettingsAreSavedAndLoaded: a save that starts, one that meets a save, its end, and a start-up load with a good, a bad and no
image. -/
theorem test_meets_settings :
    let saving : State := { small with settings := { small.settings with state := .saving } }
    meets .saveSettings saving (fun g => decide (g.settings.state = .saving)) = true ∧
      meets .saveSettings small (fun g => decide (g.settings.state ≠ .saving)) = true ∧
      ((some (settingsBytes Settings.default)).bind settingsOf = some Settings.default) ∧ ((some [0#8]).bind settingsOf = none) ∧
      State.reset.settings.state = .loading ∧ small.settings.state ≠ .loading := by
  decide +kernel

/-! ### Rules that a review asked for -/

/-- A payload transfer told by its first word counts its bytes (R70, R192). -/
theorem test_payload_by_first_word :
    (after (.imageHeader [0x20000005#32, 0x01020304#32, 0x05000000#32])
      (imageAt .receiving none (some (load5 0)) small)).image.load.map (·.received) = some 5 := by
  decide +kernel

/-- READ of a sheet begins with its section and its position (R10, R47), here section 9 and position 1. -/
theorem test_sheet_read_names_its_section :
    let s : State := (small.setSheet 42 (some (Sheet.fresh 9))).setSec 9
      ((small.sec 9).map (fun c => { c with sheets := [41, 42] }))
    (s.sheet 42).map (fun x => (sheetBytes s 42 x).take 5) = some [0, 9, 0, 1, 0] := by
  decide +kernel

/-- A sheet that takes the role of last sheet from another puts it in the change set, with overflow 0 and no LISTED name (R15). -/
theorem test_former_last_sheet_is_in_the_set :
    let s : State := (small.setSheet 42 (some (Sheet.fresh 9))).setSec 9
      ((small.sec 9).map (fun c => { c with sheets := [41, 42] }))
    (changeSet s (reSheet 42 (fun x => { x with layout := some layout57 }) s)).contains 41 = true := by
  decide +kernel

/-- A spoil above a rule with a live serial leaves the rule with no serial when the job is ending (R150), and every frame at its
copy or later is dead (R148). -/
theorem test_ignored_spoil_leaves_no_serial :
    let s : State := small.setLink .a { small.link .a with rules := [⟨2, 2, some 1⟩] }
    let t : State := { s with jobs := [{ job 2 40 .run with ending := .cancelled }] }.linkSpoil .a 2 5
    (t.link .a).rules = [⟨2, 2, none⟩] := by
  decide +kernel

/-- The sent count of the attempt in transmission rises in its own record, not in a void one of an ended job whose tag was given
again (R118, R146). -/
theorem test_own_record_is_the_last :
    let a : Attempt := { tag := 9, copy := 1, serial := 0, bandCount := 2, sent := 1, received := 0, error := false, voided := true }
    let l : Link := (small.link .a).advance ⟨9, 1, 0, 2, 1⟩
    l.attempts = [] ∧
      ({ small.link .a with attempts := [a, { a with voided := false }] }.advance ⟨9, 1, 0, 2, 1⟩).attempts =
        [a, { a with voided := false, sent := 2 }] := by
  decide +kernel

/-- A proof that becomes grantable suspends the RUN job at a copy boundary, though that job's own FIFO has room (R128, R130). -/
theorem test_proof_before_band :
    let s : State := withJobs [{ job 4 40 .run with state := .active, started := true }, job 5 41 .proof]
    s.hasRoom .a = true ∧ (s.recheckWait.jobOf 4).map (·.state) = some .suspended := by
  decide +kernel

/-- `small` with the use count that its entries give portrait 5, and sheet 41 STALE and queued. -/
def sound : State :=
  { small with
    sheets := [(40, { sheetIn 14 .placed with lock := true }), (41, sheetIn 9 .stale)]
    queue := [41]
    portraits := [(5, { portrait64 with useCount := 1 })] }

/-- Every member of a table has what its slot's record has. -/
theorem tabFind_mem {α : Type} : ∀ (t : List (Nat × α)) (i : Nat) (a : α), tabFind t i = some a → (i, a) ∈ t
  | (j, b) :: t, i, a, h => by
    unfold tabFind at h
    split at h
    · cases h
      simp [*]
    · exact List.mem_cons_of_mem _ (tabFind_mem t i a h)

/-- The premises of EveryStepKeepsTheTablesSound: a state with a book, entries, a locked sheet and a STALE one is sound in the
three ways, no portrait of it holds a pending image, and a step leads on from it. -/
theorem test_meets_tables_sound :
    sound.booksSound ∧ sound.directorySound ∧ sound.locksSound ∧ (∀ i, (sound.portrait i).pendingImage = none) ∧
      sound.pending.head? ≠ some .imageEndMarkGrant ∧ goesOn sound := by
  have port : ∀ i, i = 5 ∨ sound.portrait i = Portrait.reset := fun i => by
    by_cases h : i = 5
    · exact .inl h
    · exact .inr (by simp [State.portrait, sound, tabFind, h])
  have sheets : ∀ i sh, sound.sheet i = some sh →
      i = 40 ∧ sh = { sheetIn 14 .placed with lock := true } ∨ i = 41 ∧ sh = sheetIn 9 .stale := fun i sh h => by
    simpa [sound] using tabFind_mem _ _ _ h
  have secs : ∀ k c, sound.sec k = some c → k = 9 ∧ c = ⟨2, 20, [49], [7, 8], [41]⟩ ∨ k = 14 ∧ c = ⟨2, 10, [44], [], [40]⟩ :=
    fun k c h => by simpa [sound, small] using tabFind_mem _ _ _ h
  refine ⟨⟨fun k c h => ?_, fun i sh h => ?_, fun k c h => ?_, by decide, fun i => ⟨fun h => ?_, fun ⟨sh, h, e⟩ => ?_⟩,
      fun j h => nomatch (h : j ∈ ([] : List Job))⟩, ⟨by decide, fun i => ?_, by decide, by decide, by decide +kernel⟩, fun i sh h => ?_,
      fun i => ?_, by decide, ⟨_, rfl⟩⟩
  · obtain ⟨rfl, rfl⟩ | ⟨rfl, rfl⟩ := secs k c h <;> exact ⟨_, rfl, by decide⟩
  · obtain ⟨rfl, rfl⟩ | ⟨rfl, rfl⟩ := sheets i sh h <;> exact ⟨⟨_, rfl, by decide⟩, fun _ => rfl⟩
  · obtain ⟨rfl, rfl⟩ | ⟨rfl, rfl⟩ := secs k c h
    · refine ⟨?_, fun i hi => ?_⟩
      · exact List.Pairwise.cons (fun a ha => by
          obtain rfl : a = 8 := by simpa using ha
          exact ⟨_, _, rfl, rfl, by decide +kernel⟩) (List.pairwise_singleton _ _)
      · obtain rfl | rfl : i = 7 ∨ i = 8 := by simpa using hi
        · exact ⟨_, rfl, rfl⟩
        · exact ⟨_, rfl, rfl⟩
    · exact ⟨List.Pairwise.nil, fun i hi => nomatch hi⟩
  · obtain rfl : i = 41 := by simpa [sound] using h
    exact ⟨_, rfl, rfl⟩
  · obtain ⟨rfl, rfl⟩ | ⟨rfl, rfl⟩ := sheets i sh h
    · cases e
    · exact by decide
  · obtain rfl | h := port i
    · decide +kernel
    · by_cases h5 : i = 5
      · subst h5
        decide +kernel
      · rw [h]
        have : ∀ n : Nat, n = 5 → n ≠ i := fun n e e' => h5 (e' ▸ e)
        simp [Portrait.reset, sound, small, student, Ne.symm h5]
  · obtain ⟨rfl, rfl⟩ | ⟨rfl, rfl⟩ := sheets i sh h <;> decide
  · obtain rfl | h := port i
    · rfl
    · rw [h]
      rfl

/-- The premises of EveryStepKeepsTheLinksSound, EveryStepKeepsPortsAndPoolSound and EveryStepKeepsTheJobsSound: a state with
sheets, a job and both presses online is sound in the four ways, and a step leads on from it. -/
theorem test_meets_soundness :
    let s : State := withJobs [{ job 4 40 .run with state := .active, started := true }]
    s.linksSound ∧ s.portsSound ∧ s.poolSound ∧ s.jobsSound ∧ goesOn s := by
  refine ⟨fun q => ?_, fun p => ?_, ⟨by decide +kernel, ?_⟩, ⟨by decide +kernel, ?_, by decide +kernel, by decide +kernel⟩, ⟨_, rfl⟩⟩
  · cases q <;> (unfold Link.sound Registration.inRange; decide +kernel)
  · cases p <;> (unfold DeskPort.sound; decide +kernel)
  · intro r h
    exact nomatch (h : (none : Option LoadRecord) = some r)
  · intro q k
    cases q <;> cases k <;> decide +kernel
end Sys2Proof.Tests
end

section
/-! The tables that the soundness conditions speak of, and the operations that leave them as they are. -/

namespace Sys2Proof.Machine

open Sys2Proof

/-- The parts of the state that the soundness of the books, the directory and the locks speaks of. -/
def State.tables (s : State) :=
  (s.books, s.sections, s.sheets, s.entries, s.queue, s.jobs, s.portraits, s.pool.owned, s.pool.freeCount)

/-- The tables agree exactly when each of their parts does. -/
theorem State.tables_eq_iff {s t : State} : t.tables = s.tables ↔
    t.books = s.books ∧ t.sections = s.sections ∧ t.sheets = s.sheets ∧ t.entries = s.entries ∧ t.queue = s.queue ∧
      t.jobs = s.jobs ∧ t.portraits = s.portraits ∧ t.pool.owned = s.pool.owned ∧ t.pool.freeCount = s.pool.freeCount := by
  simp [State.tables]

section
variable (s : State)

/-! ### Ports, links, counters and replies -/

@[simp] theorem State.setPort_tables (p : Port) (d : DeskPort) : (s.setPort p d).tables = s.tables := rfl
@[simp] theorem State.mapPorts_tables (f : DeskPort → DeskPort) : (s.mapPorts f).tables = s.tables := rfl
@[simp] theorem State.setLink_tables (q : Press) (l : Link) : (s.setLink q l).tables = s.tables := rfl
@[simp] theorem State.setReg_tables (q : Press) (r : Registration) : (s.setReg q r).tables = s.tables := rfl
@[simp] theorem State.setCounter_tables (u i : Nat) (c : Counter) : (s.setCounter u i c).tables = s.tables := rfl
@[simp] theorem State.bumpEpoch_tables (i : Nat) : (s.bumpEpoch i).tables = s.tables := rfl
@[simp] theorem State.latchAt_tables (p : Port) (k : Notice) (x : Subject) : (s.latchAt p k x).tables = s.tables := rfl
@[simp] theorem State.latchAll_tables (k : Notice) (x : Subject) : (s.latchAll k x).tables = s.tables := rfl
@[simp] theorem State.clearNotices_tables (p : Port) : (s.clearNotices p).tables = s.tables := rfl
@[simp] theorem State.clearCounter_tables (u i : Nat) : (s.clearCounter u i).tables = s.tables := rfl
@[simp] theorem State.hold_tables (r : Requester) (n : Nat) : (s.hold r n).tables = s.tables := rfl
@[simp] theorem State.freeEngine_tables : s.freeEngine.tables = s.tables := rfl
@[simp] theorem State.stopStall_tables : s.stopStall.tables = s.tables := rfl
@[simp] theorem State.clearBand_tables : s.clearBand.tables = s.tables := rfl
@[simp] theorem State.storeStall_tables (n : Nat) : (s.storeStall n).tables = s.tables := rfl

@[simp] theorem State.raise_tables (u i : Nat) : (s.raise u i).tables = s.tables := by simp [State.tables]
@[simp] theorem State.countReply_tables (p : Port) (st : Status) : (s.countReply p st).tables = s.tables := by
  simp [State.tables]
@[simp] theorem State.formReply_tables (p : Port) (tag : Nat) (a : Answer) : (s.formReply p tag a).tables = s.tables := by
  simp [State.tables]
@[simp] theorem State.finish_tables (p : Port) (tag : Nat) (a : Answer) : (s.finish p tag a).tables = s.tables := by
  simp [State.tables]

@[simp] theorem State.raiseTimes_tables (u i n : Nat) : (s.raiseTimes u i n).tables = s.tables := by
  induction n generalizing s with
  | zero => rfl
  | succ n ih => simp [State.raiseTimes, ih]

/-- A fold of operations that leave the tables leaves them. -/
theorem foldl_tables {α : Type} {f : State → α → State} (hf : ∀ s a, (f s a).tables = s.tables) (l : List α) :
    (l.foldl f s).tables = s.tables := by
  induction l generalizing s with
  | nil => rfl
  | cons a l ih => rw [List.foldl_cons, ih, hf]

/-! ### The desk -/

theorem State.grantDesk_tables {s g : State} {p : Port} {h : HeldRequest} (hg : s.grantDesk p = some (g, h)) :
    g.tables = s.tables := by
  obtain ⟨rfl, -⟩ | ⟨run, rfl, -⟩ := State.grantDesk_cases hg <;> rfl

theorem State.grantImage_tables {s g : State} (hg : s.grantImage = some g) : g.tables = s.tables := by
  obtain ⟨run, rfl⟩ := State.grantImage_holds hg
  rfl

@[simp] theorem State.discardFrame_tables (p : Port) : (s.discardFrame p).tables = s.tables := s.raise_tables _ _

@[simp] theorem State.takeFrame_tables (p : Port) (h : HeldRequest) : (s.takeFrame p h).tables = s.tables := by
  unfold State.takeFrame
  split
  · split
    · split <;> simp
    · simp
  · split <;> simp

@[simp] theorem State.withdrawDisabled_tables (p : Port) : (s.withdrawDisabled p).tables = s.tables := by
  unfold State.withdrawDisabled
  split
  · split <;> simp
  · rfl

@[simp] theorem State.storeWeights_tables (w : PerPort Nat) (wi : Nat) : (s.storeWeights w wi).tables = s.tables := by
  unfold State.storeWeights
  rw [foldl_tables _ State.withdrawDisabled_tables]
  rfl

@[simp] theorem State.tickArbiter_tables : s.tickArbiter.tables = s.tables := by
  unfold State.tickArbiter
  split
  · split
    · split
      · exact State.grantDesk_tables ‹_›
      · rfl
    · rfl
  · rfl

/-! ### Registration, settings and the links -/

@[simp] theorem State.checkTimeout_tables (q : Press) : (s.checkTimeout q).tables = s.tables := by
  simp only [State.checkTimeout]
  split <;> simp

@[simp] theorem State.judgeCapture_tables (q : Press) (found stray : Bool) (x : Int) :
    (s.judgeCapture q found stray x).tables = s.tables := by
  simp only [State.judgeCapture]
  split
  · split <;> simp
  · simp

@[simp] theorem State.storePress_tables (q : Press) (v : PressSettings) : (s.storePress q v).tables = s.tables := by
  simp only [State.storePress]
  split <;> simp

@[simp] theorem State.loadMasks_tables (m : PerPort (BitVec 16)) : (s.loadMasks m).tables = s.tables :=
  foldl_tables _ (fun s _ => s.setPort_tables _ _) _

@[simp] theorem State.applySettings_tables (v : Settings) : (s.applySettings v).tables = s.tables := by
  have h : ∀ t : State, ∀ x, ({ t with settings := x } : State).tables = t.tables := fun _ _ => rfl
  simp [State.applySettings, h, State.loadPress]

@[simp] theorem State.completeLoad_tables (image : Option (List Byte)) : (s.completeLoad image).tables = s.tables := by
  unfold State.completeLoad
  split <;> simp

@[simp] theorem State.dropReported_tables (q : Press) : (s.dropReported q).tables = s.tables := rfl

@[simp] theorem State.answerFirst_tables (q : Press) : (s.answerFirst q).tables = s.tables := by
  simp only [State.answerFirst]
  split <;> simp

@[simp] theorem State.frameJoins_tables (j : Job) (b : BandInProduction) : (s.frameJoins j b).tables = s.tables := by
  unfold State.frameJoins
  split <;> simp

@[simp] theorem State.startStall_tables : s.startStall.tables = s.tables := by
  obtain ⟨t, h⟩ := s.startStall_frame
  rw [h]
  rfl

/-! ### The image port -/

@[simp] theorem State.imageReply_tables (st : Status) (r : Option Reason) (o : LoadOutcome) (v : Option Nat) :
    (s.imageReply st r o v).tables = s.tables := rfl
@[simp] theorem State.imageBusy_tables : s.imageBusy.tables = s.tables := rfl
@[simp] theorem State.imageIdle_tables : s.imageIdle.tables = s.tables := rfl
@[simp] theorem State.imageRefuse_tables (r : Reason) : (s.imageRefuse r).tables = s.tables := by
  simp [State.imageRefuse]
@[simp] theorem State.imageRefuseLatch_tables (r : Reason) (i : Option Nat) : (s.imageRefuseLatch r i).tables = s.tables := by
  simp [State.imageRefuseLatch]
@[simp] theorem State.abortReply_tables : s.abortReply.tables = s.tables := by simp [State.abortReply]

@[simp] theorem State.takeHeader_tables (words : List Word32) : (s.takeHeader words).tables = s.tables := by
  unfold State.takeHeader
  split
  · split
    · simp
    · rfl
  · simp

@[simp] theorem State.takePayload_tables (r : LoadRecord) (bytes : List Byte) : (s.takePayload r bytes).tables = s.tables := by
  simp [State.takePayload, State.tables, Pool.writeImage_owned]

@[simp] theorem State.takePayloadTransfer_tables (n : Nat) (words : List Word32) :
    (s.takePayloadTransfer n words).tables = s.tables := by
  unfold State.takePayloadTransfer
  split <;> simp

end

end Sys2Proof.Machine
end

section
/-! What each update of a table leaves readable in the others, and what the table operations do to members and order. -/

namespace Sys2Proof.Machine

open Sys2Proof

section
variable (s : State)

/-! ### `State.setBook` -/

@[simp] theorem State.sec_setBook (i : Nat) (o : Option Book) (j : Nat) : (s.setBook i o).sec j = s.sec j := rfl
@[simp] theorem State.sheet_setBook (i : Nat) (o : Option Book) (j : Nat) : (s.setBook i o).sheet j = s.sheet j := rfl
@[simp] theorem State.entry_setBook (i : Nat) (o : Option Book) (j : Nat) : (s.setBook i o).entry j = s.entry j := rfl
@[simp] theorem State.epoch_setBook (i : Nat) (o : Option Book) (j : Nat) : (s.setBook i o).epoch j = s.epoch j := rfl
@[simp] theorem State.portrait_setBook (i : Nat) (o : Option Book) (j : Nat) : (s.setBook i o).portrait j = s.portrait j := rfl

/-! ### `State.setSec` -/

@[simp] theorem State.book_setSec (i : Nat) (o : Option Section) (j : Nat) : (s.setSec i o).book j = s.book j := rfl
@[simp] theorem State.sheet_setSec (i : Nat) (o : Option Section) (j : Nat) : (s.setSec i o).sheet j = s.sheet j := rfl
@[simp] theorem State.entry_setSec (i : Nat) (o : Option Section) (j : Nat) : (s.setSec i o).entry j = s.entry j := rfl
@[simp] theorem State.epoch_setSec (i : Nat) (o : Option Section) (j : Nat) : (s.setSec i o).epoch j = s.epoch j := rfl
@[simp] theorem State.portrait_setSec (i : Nat) (o : Option Section) (j : Nat) : (s.setSec i o).portrait j = s.portrait j := rfl

/-! ### `State.setSheet` -/

@[simp] theorem State.book_setSheet (i : Nat) (o : Option Sheet) (j : Nat) : (s.setSheet i o).book j = s.book j := rfl
@[simp] theorem State.sec_setSheet (i : Nat) (o : Option Sheet) (j : Nat) : (s.setSheet i o).sec j = s.sec j := rfl
@[simp] theorem State.entry_setSheet (i : Nat) (o : Option Sheet) (j : Nat) : (s.setSheet i o).entry j = s.entry j := rfl
@[simp] theorem State.epoch_setSheet (i : Nat) (o : Option Sheet) (j : Nat) : (s.setSheet i o).epoch j = s.epoch j := rfl
@[simp] theorem State.portrait_setSheet (i : Nat) (o : Option Sheet) (j : Nat) : (s.setSheet i o).portrait j = s.portrait j := rfl

/-! ### `State.setEntry` -/

@[simp] theorem State.book_setEntry (i : Nat) (o : Option Entry) (j : Nat) : (s.setEntry i o).book j = s.book j := rfl
@[simp] theorem State.sec_setEntry (i : Nat) (o : Option Entry) (j : Nat) : (s.setEntry i o).sec j = s.sec j := rfl
@[simp] theorem State.sheet_setEntry (i : Nat) (o : Option Entry) (j : Nat) : (s.setEntry i o).sheet j = s.sheet j := rfl
@[simp] theorem State.epoch_setEntry (i : Nat) (o : Option Entry) (j : Nat) : (s.setEntry i o).epoch j = s.epoch j := rfl
@[simp] theorem State.portrait_setEntry (i : Nat) (o : Option Entry) (j : Nat) : (s.setEntry i o).portrait j = s.portrait j := rfl

/-! ### `State.setPortrait` -/

@[simp] theorem State.book_setPortrait (i : Nat) (r : Portrait) (j : Nat) : (s.setPortrait i r).book j = s.book j := rfl
@[simp] theorem State.sec_setPortrait (i : Nat) (r : Portrait) (j : Nat) : (s.setPortrait i r).sec j = s.sec j := rfl
@[simp] theorem State.sheet_setPortrait (i : Nat) (r : Portrait) (j : Nat) : (s.setPortrait i r).sheet j = s.sheet j := rfl
@[simp] theorem State.entry_setPortrait (i : Nat) (r : Portrait) (j : Nat) : (s.setPortrait i r).entry j = s.entry j := rfl
@[simp] theorem State.epoch_setPortrait (i : Nat) (r : Portrait) (j : Nat) : (s.setPortrait i r).epoch j = s.epoch j := rfl

/-! ### `State.mapPortrait` -/

@[simp] theorem State.book_mapPortrait (i : Nat) (f : Portrait → Portrait) (j : Nat) : (s.mapPortrait i f).book j = s.book j := rfl
@[simp] theorem State.sec_mapPortrait (i : Nat) (f : Portrait → Portrait) (j : Nat) : (s.mapPortrait i f).sec j = s.sec j := rfl
@[simp] theorem State.sheet_mapPortrait (i : Nat) (f : Portrait → Portrait) (j : Nat) : (s.mapPortrait i f).sheet j = s.sheet j := rfl
@[simp] theorem State.entry_mapPortrait (i : Nat) (f : Portrait → Portrait) (j : Nat) : (s.mapPortrait i f).entry j = s.entry j := rfl
@[simp] theorem State.epoch_mapPortrait (i : Nat) (f : Portrait → Portrait) (j : Nat) : (s.mapPortrait i f).epoch j = s.epoch j := rfl

/-! ### `State.bumpEpoch` -/

@[simp] theorem State.book_bumpEpoch (i : Nat) (j : Nat) : (s.bumpEpoch i).book j = s.book j := rfl
@[simp] theorem State.sec_bumpEpoch (i : Nat) (j : Nat) : (s.bumpEpoch i).sec j = s.sec j := rfl
@[simp] theorem State.sheet_bumpEpoch (i : Nat) (j : Nat) : (s.bumpEpoch i).sheet j = s.sheet j := rfl
@[simp] theorem State.entry_bumpEpoch (i : Nat) (j : Nat) : (s.bumpEpoch i).entry j = s.entry j := rfl
@[simp] theorem State.portrait_bumpEpoch (i : Nat) (j : Nat) : (s.bumpEpoch i).portrait j = s.portrait j := rfl

/-! ### `State.joinQueue` -/

@[simp] theorem State.book_joinQueue (i : Nat) (j : Nat) : (s.joinQueue i).book j = s.book j := rfl
@[simp] theorem State.sec_joinQueue (i : Nat) (j : Nat) : (s.joinQueue i).sec j = s.sec j := rfl
@[simp] theorem State.sheet_joinQueue (i : Nat) (j : Nat) : (s.joinQueue i).sheet j = s.sheet j := rfl
@[simp] theorem State.entry_joinQueue (i : Nat) (j : Nat) : (s.joinQueue i).entry j = s.entry j := rfl
@[simp] theorem State.epoch_joinQueue (i : Nat) (j : Nat) : (s.joinQueue i).epoch j = s.epoch j := rfl
@[simp] theorem State.portrait_joinQueue (i : Nat) (j : Nat) : (s.joinQueue i).portrait j = s.portrait j := rfl

/-! ### `State.latchAll` -/

@[simp] theorem State.book_latchAll (k : Notice) (x : Subject) (j : Nat) : (s.latchAll k x).book j = s.book j := rfl
@[simp] theorem State.sec_latchAll (k : Notice) (x : Subject) (j : Nat) : (s.latchAll k x).sec j = s.sec j := rfl
@[simp] theorem State.sheet_latchAll (k : Notice) (x : Subject) (j : Nat) : (s.latchAll k x).sheet j = s.sheet j := rfl
@[simp] theorem State.entry_latchAll (k : Notice) (x : Subject) (j : Nat) : (s.latchAll k x).entry j = s.entry j := rfl
@[simp] theorem State.epoch_latchAll (k : Notice) (x : Subject) (j : Nat) : (s.latchAll k x).epoch j = s.epoch j := rfl
@[simp] theorem State.portrait_latchAll (k : Notice) (x : Subject) (j : Nat) : (s.latchAll k x).portrait j = s.portrait j := rfl

/-! ### `State.latchAt` -/

@[simp] theorem State.book_latchAt (p : Port) (k : Notice) (x : Subject) (j : Nat) : (s.latchAt p k x).book j = s.book j := rfl
@[simp] theorem State.sec_latchAt (p : Port) (k : Notice) (x : Subject) (j : Nat) : (s.latchAt p k x).sec j = s.sec j := rfl
@[simp] theorem State.sheet_latchAt (p : Port) (k : Notice) (x : Subject) (j : Nat) : (s.latchAt p k x).sheet j = s.sheet j := rfl
@[simp] theorem State.entry_latchAt (p : Port) (k : Notice) (x : Subject) (j : Nat) : (s.latchAt p k x).entry j = s.entry j := rfl
@[simp] theorem State.epoch_latchAt (p : Port) (k : Notice) (x : Subject) (j : Nat) : (s.latchAt p k x).epoch j = s.epoch j := rfl
@[simp] theorem State.portrait_latchAt (p : Port) (k : Notice) (x : Subject) (j : Nat) : (s.latchAt p k x).portrait j = s.portrait j := rfl

/-! ### `State.mapPortrait` and its fields -/

@[simp] theorem State.mapPortrait_pending (i : Nat) (f : Portrait → Portrait) : (s.mapPortrait i f).pending = s.pending := rfl
@[simp] theorem State.mapPortrait_ports (i : Nat) (f : Portrait → Portrait) : (s.mapPortrait i f).ports = s.ports := rfl
@[simp] theorem State.mapPortrait_arbiter (i : Nat) (f : Portrait → Portrait) : (s.mapPortrait i f).arbiter = s.arbiter := rfl
@[simp] theorem State.mapPortrait_books (i : Nat) (f : Portrait → Portrait) : (s.mapPortrait i f).books = s.books := rfl
@[simp] theorem State.mapPortrait_sections (i : Nat) (f : Portrait → Portrait) : (s.mapPortrait i f).sections = s.sections := rfl
@[simp] theorem State.mapPortrait_sheets (i : Nat) (f : Portrait → Portrait) : (s.mapPortrait i f).sheets = s.sheets := rfl
@[simp] theorem State.mapPortrait_epochs (i : Nat) (f : Portrait → Portrait) : (s.mapPortrait i f).epochs = s.epochs := rfl
@[simp] theorem State.mapPortrait_entries (i : Nat) (f : Portrait → Portrait) : (s.mapPortrait i f).entries = s.entries := rfl
@[simp] theorem State.mapPortrait_queue (i : Nat) (f : Portrait → Portrait) : (s.mapPortrait i f).queue = s.queue := rfl
@[simp] theorem State.mapPortrait_placing (i : Nat) (f : Portrait → Portrait) : (s.mapPortrait i f).placing = s.placing := rfl
@[simp] theorem State.mapPortrait_pool (i : Nat) (f : Portrait → Portrait) : (s.mapPortrait i f).pool = s.pool := rfl
@[simp] theorem State.mapPortrait_image (i : Nat) (f : Portrait → Portrait) : (s.mapPortrait i f).image = s.image := rfl
@[simp] theorem State.mapPortrait_jobs (i : Nat) (f : Portrait → Portrait) : (s.mapPortrait i f).jobs = s.jobs := rfl
@[simp] theorem State.mapPortrait_tagCounter (i : Nat) (f : Portrait → Portrait) : (s.mapPortrait i f).tagCounter = s.tagCounter := rfl
@[simp] theorem State.mapPortrait_renderer (i : Nat) (f : Portrait → Portrait) : (s.mapPortrait i f).renderer = s.renderer := rfl
@[simp] theorem State.mapPortrait_links (i : Nat) (f : Portrait → Portrait) : (s.mapPortrait i f).links = s.links := rfl
@[simp] theorem State.mapPortrait_counters (i : Nat) (f : Portrait → Portrait) : (s.mapPortrait i f).counters = s.counters := rfl
@[simp] theorem State.mapPortrait_settings (i : Nat) (f : Portrait → Portrait) : (s.mapPortrait i f).settings = s.settings := rfl
/-! ### Portraits -/

theorem State.portrait_mapPortrait (i j : Nat) (f : Portrait → Portrait) :
    (s.mapPortrait i f).portrait j = if j = i then f (s.portrait i) else s.portrait j :=
  s.portrait_setPortrait i j _

/-- The use counts after one rises (R61). -/
theorem State.portrait_useUp (o : Option Nat) (j : Nat) :
    (s.useUp o).portrait j =
      { s.portrait j with useCount := (s.portrait j).useCount + if o = some j then 1 else 0 } := by
  cases o with
  | none => simp [State.useUp]
  | some i =>
    simp only [State.useUp, State.portrait_mapPortrait, Option.some.injEq]
    by_cases h : j = i
    · simp [h]
    · simp [h, Ne.symm h]

/-- The use counts after one falls (R61). -/
theorem State.portrait_useDown (o : Option Nat) (j : Nat) :
    (s.useDown o).portrait j =
      { s.portrait j with useCount := (s.portrait j).useCount - if o = some j then 1 else 0 } := by
  cases o with
  | none => simp [State.useDown]
  | some i =>
    simp only [State.useDown, State.portrait_mapPortrait, Option.some.injEq]
    by_cases h : j = i
    · simp [h]
    · simp [h, Ne.symm h]

/-- A count's rise or fall moves the directory alone. -/
theorem State.useUp_eq (o : Option Nat) : s.useUp o = { s with portraits := (s.useUp o).portraits } := by
  cases o <;> rfl

theorem State.useDown_eq (o : Option Nat) : s.useDown o = { s with portraits := (s.useDown o).portraits } := by
  cases o <;> rfl

@[simp] theorem State.book_useUp (o : Option Nat) (j : Nat) : (s.useUp o).book j = s.book j := by cases o <;> rfl
@[simp] theorem State.sec_useUp (o : Option Nat) (j : Nat) : (s.useUp o).sec j = s.sec j := by cases o <;> rfl
@[simp] theorem State.sheet_useUp (o : Option Nat) (j : Nat) : (s.useUp o).sheet j = s.sheet j := by cases o <;> rfl
@[simp] theorem State.entry_useUp (o : Option Nat) (j : Nat) : (s.useUp o).entry j = s.entry j := by cases o <;> rfl
@[simp] theorem State.book_useDown (o : Option Nat) (j : Nat) : (s.useDown o).book j = s.book j := by cases o <;> rfl
@[simp] theorem State.sec_useDown (o : Option Nat) (j : Nat) : (s.useDown o).sec j = s.sec j := by cases o <;> rfl
@[simp] theorem State.sheet_useDown (o : Option Nat) (j : Nat) : (s.useDown o).sheet j = s.sheet j := by cases o <;> rfl
@[simp] theorem State.entry_useDown (o : Option Nat) (j : Nat) : (s.useDown o).entry j = s.entry j := by cases o <;> rfl

/-! ### Rosters -/

/-- An entry leaves a section's roster: that roster alone moves. -/
theorem State.sec_leaveRoster (k i j : Nat) : (s.leaveRoster k i).sec j =
    if j = k then (s.sec k).map (fun c => { c with roster := rosterRemove c.roster i }) else s.sec j := by
  unfold State.leaveRoster
  cases hk : s.sec k with
  | none => by_cases h : j = k <;> simp [h, hk]
  | some c => simp [State.sec_setSec]

/-- An entry joins a section's roster: that roster alone moves. -/
theorem State.sec_joinRoster (k i j : Nat) (e : Entry) : (s.joinRoster k i e).sec j =
    if j = k then (s.sec k).map (fun c => { c with roster := rosterInsert s.entry i e c.roster }) else s.sec j := by
  unfold State.joinRoster
  cases hk : s.sec k with
  | none => by_cases h : j = k <;> simp [h, hk]
  | some c => simp [State.sec_setSec]

/-- Leaving a roster moves the sections alone. -/
theorem State.leaveRoster_eq (k i : Nat) : s.leaveRoster k i = { s with sections := (s.leaveRoster k i).sections } := by
  unfold State.leaveRoster
  split <;> rfl

/-- Joining a roster moves the sections alone. -/
theorem State.joinRoster_eq (k i : Nat) (e : Entry) :
    s.joinRoster k i e = { s with sections := (s.joinRoster k i e).sections } := by
  unfold State.joinRoster
  split <;> rfl

@[simp] theorem State.book_leaveRoster (k i j : Nat) : (s.leaveRoster k i).book j = s.book j := by
  rw [State.leaveRoster_eq]; rfl
@[simp] theorem State.sheet_leaveRoster (k i j : Nat) : (s.leaveRoster k i).sheet j = s.sheet j := by
  rw [State.leaveRoster_eq]; rfl
@[simp] theorem State.entry_leaveRoster (k i j : Nat) : (s.leaveRoster k i).entry j = s.entry j := by
  rw [State.leaveRoster_eq]; rfl
@[simp] theorem State.portrait_leaveRoster (k i j : Nat) : (s.leaveRoster k i).portrait j = s.portrait j := by
  rw [State.leaveRoster_eq]; rfl
@[simp] theorem State.book_joinRoster (k i j : Nat) (e : Entry) : (s.joinRoster k i e).book j = s.book j := by
  rw [State.joinRoster_eq]; rfl
@[simp] theorem State.sheet_joinRoster (k i j : Nat) (e : Entry) : (s.joinRoster k i e).sheet j = s.sheet j := by
  rw [State.joinRoster_eq]; rfl
@[simp] theorem State.entry_joinRoster (k i j : Nat) (e : Entry) : (s.joinRoster k i e).entry j = s.entry j := by
  rw [State.joinRoster_eq]; rfl
@[simp] theorem State.portrait_joinRoster (k i j : Nat) (e : Entry) : (s.joinRoster k i e).portrait j = s.portrait j := by
  rw [State.joinRoster_eq]; rfl

/-- An entry freed leaves the entry table, and its portrait's use count falls (R35, R61). -/
theorem State.entry_freeEntry (i j : Nat) : (s.freeEntry i).entry j = if j = i then none else s.entry j := by
  unfold State.freeEntry
  split
  · by_cases h : j = i <;> simp_all
  · simp [State.entry_setEntry]

/-- Freeing an entry moves the entry table and the directory alone. -/
theorem State.freeEntry_eq (i : Nat) : s.freeEntry i =
    { s with entries := (s.freeEntry i).entries, portraits := (s.freeEntry i).portraits } := by
  unfold State.freeEntry
  split
  · rfl
  · rw [State.useDown_eq]; rfl

@[simp] theorem State.book_freeEntry (i j : Nat) : (s.freeEntry i).book j = s.book j := by rw [State.freeEntry_eq]; rfl
@[simp] theorem State.sec_freeEntry (i j : Nat) : (s.freeEntry i).sec j = s.sec j := by rw [State.freeEntry_eq]; rfl
@[simp] theorem State.sheet_freeEntry (i j : Nat) : (s.freeEntry i).sheet j = s.sheet j := by rw [State.freeEntry_eq]; rfl

/-- A sheet removed leaves the sheet table (R22). -/
theorem State.sheet_removeSheet (i j : Nat) : (s.removeSheet i).sheet j = if j = i then none else s.sheet j :=
  State.sheet_setSheet _ i j none

@[simp] theorem State.queue_removeSheet (i : Nat) : (s.removeSheet i).queue = s.queue.filter (fun j => decide (j ≠ i)) := rfl
@[simp] theorem State.book_removeSheet (i j : Nat) : (s.removeSheet i).book j = s.book j := rfl
@[simp] theorem State.sec_removeSheet (i j : Nat) : (s.removeSheet i).sec j = s.sec j := rfl
@[simp] theorem State.entry_removeSheet (i j : Nat) : (s.removeSheet i).entry j = s.entry j := rfl
@[simp] theorem State.portrait_removeSheet (i j : Nat) : (s.removeSheet i).portrait j = s.portrait j := rfl

end

/-! ### Members of lists -/

theorem mem_rosterRemove {l : List Nat} {i j : Nat} : j ∈ rosterRemove l i ↔ j ∈ l ∧ j ≠ i := by
  simp [rosterRemove]

theorem mem_rosterInsert (entry : Nat → Option Entry) (i j : Nat) (e : Entry) (l : List Nat) :
    j ∈ rosterInsert entry i e l ↔ j = i ∨ j ∈ l := by
  induction l with
  | nil => simp [rosterInsert]
  | cons a l ih =>
    unfold rosterInsert
    split
    · simp [ih]; tauto
    · split
      · simp
      · simp [ih]; tauto

/-- A list of sections after one is put at the place of its key holds that one and the others (R6). -/
theorem mem_placeSection (s : State) (k key j : Nat) (l : List Nat) : j ∈ s.placeSection k key l ↔ j = k ∨ j ∈ l := by
  simp only [State.placeSection, List.mem_append, List.mem_filter, List.mem_cons, decide_eq_true_eq]
  by_cases h : s.keyOf j < key <;> simp [h]; tauto

theorem mem_insertAt {α : Type} (l : List α) (n : Nat) (x y : α) : y ∈ insertAt l n x ↔ y = x ∨ y ∈ l := by
  have h : y ∈ l ↔ y ∈ l.take n ∨ y ∈ l.drop n := by rw [← List.mem_append, List.take_append_drop]
  simp only [insertAt, List.mem_append, List.mem_cons, h]
  tauto

/-- The slot a table gives is free (R1). -/
theorem tabFind_of_tabFree {α : Type} {n i : Nat} {t : List (Nat × α)} (h : tabFree n t = some i) :
    i < n ∧ tabFind t i = none := by
  rw [tabFree, List.find?_range_eq_some] at h
  exact ⟨by simpa using h.2.1, by simpa using h.1⟩

/-- A job that is found by its tag is in the table. -/
theorem State.jobOf_mem {s : State} {tag : Nat} {j : Job} (h : s.jobOf tag = some j) : j ∈ s.jobs ∧ j.tag = tag :=
  ⟨List.mem_of_find?_eq_some h, by simpa using List.find?_some h⟩

theorem State.reportJob_mem {s : State} {tag : Nat} {j : Job} (h : s.reportJob tag = some j) : j ∈ s.jobs ∧ j.tag = tag := by
  unfold State.reportJob at h
  rw [Option.filter_eq_some_iff] at h
  exact State.jobOf_mem h.1

theorem State.suspendedJob_mem {s : State} {j : Job} (h : s.suspendedJob = some j) : j ∈ s.jobs ∧ j.state = .suspended :=
  ⟨List.mem_of_find?_eq_some h, by simpa using List.find?_some h⟩

/-! ### Collation (R27, R28) -/

theorem compareNum_lt (a b : Nat) : compareNum a b = .lt ↔ a < b := by
  unfold compareNum
  split <;> [simp [*]; (split <;> simp [*])]

theorem compareNum_eq (a b : Nat) : compareNum a b = .eq ↔ a = b := by
  unfold compareNum
  split
  · simp; omega
  · split
    · simp; omega
    · simp; omega

/-- The order of folded strings is the lexicographic one. -/
theorem compareStr_lt (s t : Str) : compareStr s t = .lt ↔ s < t := by
  induction s generalizing t with
  | nil => cases t <;> simp [compareStr]
  | cons a s ih =>
    cases t with
    | nil => simp [compareStr]
    | cons b t =>
      unfold compareStr
      rw [List.cons_lt_cons_iff]
      split
      · simp [*]
      · split
        · simp; omega
        · rw [ih]; constructor
          · exact fun h => .inr ⟨by omega, h⟩
          · rintro (h | h)
            · omega
            · exact h.2

theorem compareStr_eq (s t : Str) : compareStr s t = .eq ↔ s = t := by
  induction s generalizing t with
  | nil => cases t <;> simp [compareStr]
  | cons a s ih =>
    cases t with
    | nil => simp [compareStr]
    | cons b t =>
      unfold compareStr
      rw [List.cons.injEq]
      split
      · simp; omega
      · split
        · simp; omega
        · rw [ih]; constructor
          · exact fun h => ⟨by omega, h⟩
          · exact fun h => h.2

/-- What collation compares, in its order: role, folded surname, folded given name and id (R27). -/
def collateKey (i : Nat) (e : Entry) : Nat ×ₗ Str ×ₗ Str ×ₗ Nat :=
  toLex (roleRank e.role, toLex (fold e.surname, toLex (fold e.given, i)))

/-- Collation is the lexicographic order of the keys, so it is a strict total order. -/
theorem collate_lt (i : Nat) (e : Entry) (j : Nat) (f : Entry) :
    collate i e j f = .lt ↔ collateKey i e < collateKey j f := by
  simp only [collateKey, Prod.Lex.toLex_lt_toLex, ← compareNum_lt, ← compareNum_eq, ← compareStr_lt, ← compareStr_eq]
  unfold collate
  cases compareNum (roleRank e.role) (roleRank f.role) <;> simp
  cases compareStr (fold e.surname) (fold f.surname) <;> simp
  cases compareStr (fold e.given) (fold f.given) <;> simp

/-- Entries of different ids never have equal keys. -/
theorem collateKey_ne {i j : Nat} (e f : Entry) (h : i ≠ j) : collateKey i e ≠ collateKey j f := fun he => by
  have h' : i = j := congrArg (fun k : Nat ×ₗ Str ×ₗ Str ×ₗ Nat => (ofLex (ofLex (ofLex k).2).2).2) he
  exact h h'

theorem State.collates_trans {s : State} {i j k : Nat} (h : s.collates i j) (h' : s.collates j k) : s.collates i k := by
  obtain ⟨e, f, he, hf, hl⟩ := h
  obtain ⟨f', g, hf', hg, hl'⟩ := h'
  obtain rfl : f = f' := Option.some.inj (hf ▸ hf')
  rw [collate_lt] at hl hl'
  exact ⟨e, g, he, hg, (collate_lt ..).2 (hl.trans hl')⟩

/-- An entry put where collation puts it leaves a strictly ordered roster strictly ordered (R28). -/
theorem pairwise_rosterInsert {s : State} {i : Nat} {e : Entry} (hi : s.entry i = some e) {l : List Nat}
    (hl : l.Pairwise s.collates) (hm : ∀ j ∈ l, ∃ f, s.entry j = some f) (hn : i ∉ l) :
    (rosterInsert s.entry i e l).Pairwise s.collates := by
  induction l with
  | nil => simp [rosterInsert]
  | cons j l ih =>
    obtain ⟨hj, hl'⟩ := List.pairwise_cons.1 hl
    obtain ⟨f, hf⟩ := hm j (List.mem_cons_self ..)
    simp only [rosterInsert, hf]
    split
    · rename_i hlt
      have hij : s.collates i j := ⟨e, f, hi, hf, hlt⟩
      refine List.pairwise_cons.2 ⟨fun x hx => ?_, hl⟩
      rcases List.mem_cons.1 hx with rfl | hx
      · exact hij
      · exact State.collates_trans hij (hj x hx)
    · rename_i hlt
      have hne : i ≠ j := fun h => hn (h ▸ List.mem_cons_self ..)
      have hji : s.collates j i := by
        refine ⟨f, e, hf, hi, (collate_lt ..).2 ?_⟩
        rw [collate_lt] at hlt
        exact lt_of_le_of_ne (not_lt.1 hlt) (collateKey_ne f e hne.symm)
      refine List.pairwise_cons.2 ⟨fun x hx => ?_,
        ih hl' (fun x hx => hm x (List.mem_cons_of_mem _ hx)) (fun h => hn (List.mem_cons_of_mem _ h))⟩
      rcases (mem_rosterInsert ..).1 hx with rfl | hx
      · exact hji
      · exact hj x hx

end Sys2Proof.Machine
end

section
/-! Staling, sheet by sheet and set by set (R18, R33). -/

namespace Sys2Proof.Machine

open Sys2Proof

/-- A sheet that staling moves into STALE and to the queue tail: one that holds a result, is being placed, or has just got its
first layout (R18). -/
def Sheet.joins (sh : Sheet) : Bool :=
  match sh.state with
  | .stale => false
  | .inPress => false
  | .unlaid => sh.layout.isSome
  | _ => true

/-- A sheet's record after staling (R18). -/
def Sheet.staled (sh : Sheet) : Sheet :=
  match sh.state with
  | .stale => sh
  | .inPress => sh
  | .unlaid => if sh.layout.isSome then { sh with state := .stale } else sh
  | _ => { sh with state := .stale, result := none, hold := none }

/-- Staling keeps a sheet's section, lock, layout, print count and job (R18). -/
theorem Sheet.staled_keeps (sh : Sheet) : sh.staled.section_ = sh.section_ ∧ sh.staled.lock = sh.lock ∧
    sh.staled.layout = sh.layout ∧ sh.staled.printCount = sh.printCount ∧ sh.staled.job = sh.job := by
  unfold Sheet.staled
  split <;> (try split) <;> simp

/-- A staled sheet is STALE when it was, or when it joins the queue. -/
theorem Sheet.staled_stale_iff (sh : Sheet) : sh.staled.state = .stale ↔ sh.state = .stale ∨ sh.joins = true := by
  unfold Sheet.staled Sheet.joins
  cases h : sh.state <;> simp [h]
  split <;> simp_all

theorem Sheet.staled_of_not_joins {sh : Sheet} (h : sh.joins = false) : sh.staled = sh := by
  unfold Sheet.joins at h
  unfold Sheet.staled
  split at h <;> simp_all

theorem Sheet.not_joins_of_stale {sh : Sheet} (h : sh.state = .stale) : sh.joins = false := by
  simp [Sheet.joins, h]

/-- Staling leaves a sheet UNLAID only where it has no layout. -/
theorem Sheet.staled_laid {sh : Sheet} (h : sh.state ≠ .unlaid → sh.layout.isSome) :
    sh.staled.state ≠ .unlaid → sh.staled.layout.isSome := by
  unfold Sheet.staled
  cases hs : sh.state <;> simp_all
  split <;> simp_all

/-- Staling an empty slot does nothing. -/
theorem State.staleOne_none {s : State} {i : Nat} (h : s.sheet i = none) : s.staleOne i = s := by
  simp [State.staleOne, h]

/-- A sheet that joins the queue is stored STALE. -/
theorem State.staleOne_joins {s : State} {i : Nat} {sh : Sheet} (h : s.sheet i = some sh) (hj : sh.joins = true) :
    s.staleOne i = ((s.bumpEpoch i).setSheet i (some sh.staled)).joinQueue i := by
  unfold Sheet.joins at hj
  unfold State.staleOne Sheet.staled
  cases hs : sh.state <;> simp_all

/-- Any other sheet keeps its record and place. -/
theorem State.staleOne_stays {s : State} {i : Nat} {sh : Sheet} (h : s.sheet i = some sh) (hj : sh.joins = false) :
    s.staleOne i = if sh.state = .stale then s.bumpEpoch i else s := by
  unfold Sheet.joins at hj
  unfold State.staleOne
  cases hs : sh.state <;> simp_all

/-- The record of each sheet after one is staled. -/
theorem State.sheet_staleOne (s : State) (i j : Nat) :
    (s.staleOne i).sheet j = if j = i then (s.sheet i).map Sheet.staled else s.sheet j := by
  cases h : s.sheet i with
  | none => rw [State.staleOne_none h]; by_cases hj : j = i <;> simp [hj, h]
  | some sh =>
    cases hj : sh.joins with
    | true => rw [State.staleOne_joins h hj]; simp [State.sheet_setSheet]
    | false =>
      rw [State.staleOne_stays h hj]
      have : (if sh.state = .stale then s.bumpEpoch i else s).sheet j = s.sheet j := by split <;> rfl
      rw [this]
      by_cases hji : j = i <;> simp [hji, h, Sheet.staled_of_not_joins hj]

/-- The queue after one sheet is staled. -/
theorem State.queue_staleOne (s : State) (i : Nat) :
    (s.staleOne i).queue = s.queue ++ if (s.sheet i).any Sheet.joins then [i] else [] := by
  cases h : s.sheet i with
  | none => rw [State.staleOne_none h]; simp
  | some sh =>
    cases hj : sh.joins with
    | true => rw [State.staleOne_joins h hj]; simp [hj, State.joinQueue]
    | false => rw [State.staleOne_stays h hj]; split <;> simp [hj]

/-- Staling one sheet moves the sheets, the epochs and the queue alone. -/
theorem State.staleOne_frame (s : State) (i : Nat) :
    { s.staleOne i with sheets := s.sheets, epochs := s.epochs, queue := s.queue } = s := by
  cases h : s.sheet i with
  | none => rw [State.staleOne_none h]
  | some sh =>
    cases hj : sh.joins with
    | true => rw [State.staleOne_joins h hj]; rfl
    | false => rw [State.staleOne_stays h hj]; split <;> rfl

/-- The epoch of another slot stays. -/
theorem State.epoch_staleOne_other (s : State) {i j : Nat} (h : j ≠ i) : (s.staleOne i).epoch j = s.epoch j := by
  cases hs : s.sheet i with
  | none => rw [State.staleOne_none hs]
  | some sh =>
    cases hj : sh.joins with
    | true => rw [State.staleOne_joins hs hj]; simp [State.epoch_bumpEpoch, h]
    | false => rw [State.staleOne_stays hs hj]; split <;> simp [State.epoch_bumpEpoch, h]

/-! ### A set of sheets -/

theorem State.staleAll_cons (s : State) (i : Nat) (set : List Nat) :
    s.staleAll (i :: set) = (s.staleOne i).staleAll set := rfl

/-- Staling a set keeps what staling each of its sheets keeps. -/
theorem State.staleAll_induction {P : State → Prop} (set : List Nat) (h : ∀ s, ∀ i ∈ set, P s → P (s.staleOne i)) :
    ∀ s : State, P s → P (s.staleAll set) := by
  induction set with
  | nil => exact fun s hs => hs
  | cons i l ih =>
    exact fun s hs => ih (fun s j hj => h s j (List.mem_cons_of_mem _ hj)) _ (h s i (List.mem_cons_self ..) hs)

/-- Staling a set moves the sheets, the epochs and the queue alone. -/
theorem State.staleAll_frame (s : State) (set : List Nat) :
    { s.staleAll set with sheets := s.sheets, epochs := s.epochs, queue := s.queue } = s := by
  refine State.staleAll_induction
    (P := fun t => ({ t with sheets := s.sheets, epochs := s.epochs, queue := s.queue } : State) = s) set ?_ s rfl
  intro t i _ ht
  have hf := congrArg (fun u : State => ({ u with sheets := s.sheets, epochs := s.epochs, queue := s.queue } : State))
    (t.staleOne_frame i)
  exact hf.trans ht

/-- A sheet outside the set keeps its record and its epoch. -/
theorem State.staleAll_other (s : State) {set : List Nat} {j : Nat} (h : j ∉ set) :
    (s.staleAll set).sheet j = s.sheet j ∧ (s.staleAll set).epoch j = s.epoch j := by
  refine State.staleAll_induction (P := fun t => t.sheet j = s.sheet j ∧ t.epoch j = s.epoch j) set ?_ s ⟨rfl, rfl⟩
  intro t i hi ht
  have hji : j ≠ i := fun e => h (e ▸ hi)
  rw [State.sheet_staleOne, if_neg hji, State.epoch_staleOne_other _ hji]
  exact ht

/-- Every sheet of the table stays, with its section, lock, layout, print count and job (R18). -/
theorem State.staleAll_sheet (s : State) (set : List Nat) {j : Nat} {sh : Sheet} (h : s.sheet j = some sh) :
    ∃ sh', (s.staleAll set).sheet j = some sh' ∧ sh'.lock = sh.lock ∧ sh'.printCount = sh.printCount ∧ sh'.job = sh.job ∧
      sh'.layout = sh.layout ∧ sh'.section_ = sh.section_ := by
  refine State.staleAll_induction (P := fun t => ∃ sh', t.sheet j = some sh' ∧ sh'.lock = sh.lock ∧
    sh'.printCount = sh.printCount ∧ sh'.job = sh.job ∧ sh'.layout = sh.layout ∧ sh'.section_ = sh.section_) set ?_ s
    ⟨sh, h, rfl, rfl, rfl, rfl, rfl⟩
  rintro t i - ⟨sh', hs, h1, h2, h3, h4, h5⟩
  rw [State.sheet_staleOne]
  split
  · subst_vars
    obtain ⟨k1, k2, k3, k4, k5⟩ := sh'.staled_keeps
    exact ⟨sh'.staled, by simp [hs], by rw [k2, h1], by rw [k4, h2], by rw [k5, h3], by rw [k3, h4], by rw [k1, h5]⟩
  · exact ⟨sh', hs, h1, h2, h3, h4, h5⟩

/-- The sheets of the set that join the queue do so in the set's order (R18). -/
theorem State.staleAll_queue (s : State) (set : List Nat) :
    ∃ tail : List Nat, (s.staleAll set).queue = s.queue ++ tail ∧ tail.Sublist set := by
  induction set generalizing s with
  | nil => exact ⟨[], by simp [State.staleAll], .slnil⟩
  | cons i l ih =>
    obtain ⟨tail, hq, hs⟩ := ih (s.staleOne i)
    rw [State.staleAll_cons, hq, State.queue_staleOne]
    split
    · exact ⟨i :: tail, by simp, hs.cons_cons i⟩
    · exact ⟨tail, by simp, hs.cons i⟩

/-- Settles O18, from the record, the queue and the epoch that staling one sheet leaves. -/
theorem stalingFollowsTheSheetState : Obligations.StalingFollowsTheSheetState := by
  refine ⟨fun s i sh h => ⟨fun hst => ?_, fun hst => ?_, fun hst hl => ?_, fun hst hl => ?_⟩,
    fun s set => ⟨s.staleAll_frame set, fun j hj => s.staleAll_other hj, fun j sh h => s.staleAll_sheet set h,
      s.staleAll_queue set⟩⟩
  · have hj : sh.joins = true := by obtain h | h | h := hst <;> simp [Sheet.joins, h]
    have hr : sh.staled = { sh with state := .stale, result := none, hold := none } := by
      obtain h | h | h := hst <;> simp [Sheet.staled, h]
    rw [State.staleOne_joins h hj, hr]
    simp [State.sheet_setSheet, State.epoch_bumpEpoch]
  · rw [State.staleOne_stays h (Sheet.not_joins_of_stale hst), if_pos hst]
    simp [h, State.epoch_bumpEpoch]
  · have hj : sh.joins = true := by simp [Sheet.joins, hst, hl]
    have hr : sh.staled = { sh with state := .stale } := by simp [Sheet.staled, hst, hl]
    rw [State.staleOne_joins h hj, hr]
    simp [State.sheet_setSheet, State.epoch_bumpEpoch]
  · have hj : sh.joins = false := by simp [Sheet.joins, hst, hl]
    rw [State.staleOne_stays h hj, if_neg (by simp [hst])]

end Sys2Proof.Machine
end

section
/-! What a step can do to the tables, as a list of moves. Every invariant of the tables is proved of the moves, and that a step is
made of moves is proved once. -/

namespace Sys2Proof.Machine

open Sys2Proof

/-! ### The parts of the soundness conditions -/

/-- Every section stands in its book's list (R6). -/
def State.sectionsListed (s : State) : Prop := ∀ k c, s.sec k = some c → ∃ b, s.book c.book = some b ∧ k ∈ b.sections

/-- Every sheet stands in its section's list, and has a layout unless it is UNLAID (R10). -/
def State.sheetsListed (s : State) : Prop := ∀ i sh, s.sheet i = some sh →
  (∃ c, s.sec sh.section_ = some c ∧ i ∈ c.sheets) ∧ (sh.state ≠ .unlaid → sh.layout.isSome)

/-- Every roster holds entries of its section in strict collation order (R28). -/
def State.rostersSound (s : State) : Prop := ∀ k c, s.sec k = some c →
  c.roster.Pairwise s.collates ∧ ∀ i ∈ c.roster, ∃ e, s.entry i = some e ∧ e.section_ = k

/-- The placement queue holds each STALE sheet once and no other (R78). -/
def State.queueSound (s : State) : Prop :=
  s.queue.Nodup ∧ ∀ i, i ∈ s.queue ↔ ∃ sh, s.sheet i = some sh ∧ sh.state = .stale

/-- A job that has left WAITING is started (R127). -/
def State.jobsStarted (s : State) : Prop := ∀ j ∈ s.jobs, j.state ≠ .waiting → j.started = true

/-- The soundness of the book table by its parts. -/
theorem State.booksSound_iff (s : State) : s.booksSound ↔
    s.sectionsListed ∧ s.sheetsListed ∧ s.rostersSound ∧ s.queueSound ∧ s.jobsStarted := by
  unfold State.booksSound State.sectionsListed State.sheetsListed State.rostersSound State.queueSound State.jobsStarted
  rw [and_assoc (a := s.queue.Nodup)]

/-- The blocks of the pool have one owner each, and with the free ones they make up the pool (R67). -/
def Pool.counted (pl : Pool) : Prop :=
  tabSorted pl.owned = true ∧ (∀ e ∈ pl.owned, e.1 < Config.poolBlocks) ∧ pl.freeCount + pl.owned.length = Config.poolBlocks

/-- One sheet's part of the soundness of the locks (R51, R86). -/
def Sheet.lockSound (sh : Sheet) : Prop :=
  (sh.state = .placed → sh.hold = none) ∧ (sh.lock = true → sh.hold = none ∧ (sh.state = .placed ∨ sh.state = .inPress))

/-- A sheet's record is replaced by one that stands as well in its section, in the queue and under its lock. -/
structure Sheet.Moves (sh sh' : Sheet) : Prop where
  section_eq : sh'.section_ = sh.section_
  laid : (sh.state ≠ .unlaid → sh.layout.isSome) → sh'.state ≠ .unlaid → sh'.layout.isSome
  stale_iff : sh'.state = .stale ↔ sh.state = .stale
  locks : sh.lockSound → sh'.lockSound

/-- An entry stands in no roster of its own section. -/
def State.unlisted (s : State) (i : Nat) : Prop :=
  ∀ e c, s.entry i = some e → s.sec e.section_ = some c → i ∉ c.roster

/-! ### The moves -/

/-- One move of the tables. `commits` says whether the move may make an image pending and may stale locked sheets: the grant of an
end mark may, and where a section stands outside its book's list the change guard does not see its sheets. -/
inductive Move (commits : Prop) : State → State → Prop
  /-- The tables stay as they are. -/
  | frame {s t : State} (h : t.tables = s.tables) : Move commits s t
  /-- Every table is at its reset value. -/
  | reset {s t : State} (h : t.tables = State.reset.tables) : Move commits s t
  /-- The job table moves, and a job that has left WAITING is still started. -/
  | jobs {s : State} (l : List Job) (h : s.jobsStarted → ({ s with jobs := l } : State).jobsStarted) :
      Move commits s { s with jobs := l }
  /-- The pool moves, and its blocks are still counted. -/
  | pool {s : State} (pl : Pool) (h : s.pool.counted → pl.counted) : Move commits s { s with pool := pl }
  /-- A portrait's record moves, its use count kept. -/
  | portrait {s : State} (i : Nat) (f : Portrait → Portrait) (hu : (f (s.portrait i)).useCount = (s.portrait i).useCount)
      (hp : commits ∨ ((s.portrait i).pendingImage = none → (f (s.portrait i)).pendingImage = none)) :
      Move commits s (s.mapPortrait i f)
  /-- A sheet's record moves. -/
  | sheet {s : State} {i : Nat} {sh : Sheet} (sh' : Sheet) (h : s.sheet i = some sh) (hm : s.jobsStarted → sh.Moves sh') :
      Move commits s (s.setSheet i (some sh'))
  /-- The placement unit takes the sheet at the queue head. -/
  | take {s : State} {i : Nat} {q : List Nat} {sh : Sheet} (hq : s.queue = i :: q) (h : s.sheet i = some sh) :
      Move commits s { s.setSheet i (some { sh with state := .placing }) with queue := q }
  /-- The placement unit passes over a queue head that it cannot copy. -/
  | skip {s : State} {i : Nat} {q : List Nat} (hq : s.queue = i :: q) (h : s.sheet i = none ∨ s.copySheet i = none) :
      Move commits s { s with queue := q }
  /-- A set of sheets without locks is staled. -/
  | stale {s : State} (set : List Nat) (h : commits ∨ ∀ i ∈ set, s.isLocked i = false) : Move commits s (s.staleAll set)
  /-- Portraits are examined for promotion. -/
  | examine {s : State} (ports : List Nat) : Move commits s (s.examine ports)
  /-- A book slot moves; the sections that stand in its list still do. -/
  | book {s : State} (i : Nat) (o : Option Book)
      (h : ∀ b k, s.book i = some b → k ∈ b.sections → (s.sec k).isSome → ∃ b', o = some b' ∧ k ∈ b'.sections) :
      Move commits s (s.setBook i o)
  /-- A section's record moves; its sheets still stand in its list, and its roster only shrinks. -/
  | sec {s : State} {k : Nat} {c : Section} (c' : Section) (h : s.sec k = some c) (hb : c'.book = c.book)
      (hr : c'.roster.Sublist c.roster) (hs : ∀ i ∈ c.sheets, (s.sheet i).isSome → i ∈ c'.sheets) :
      Move commits s (s.setSec k (some c'))
  /-- A section is made that its book's list holds already. -/
  | newSec {s : State} {k : Nat} {b : Book} (c : Section) (h : s.sec k = none) (hb : s.book c.book = some b)
      (hk : k ∈ b.sections) (hr : c.roster = []) : Move commits s (s.setSec k (some c))
  /-- A sheet is made that its section's list holds already. -/
  | newSheet {s : State} {i k : Nat} {c : Section} (h : s.sheet i = none) (hc : s.sec k = some c) (hi : i ∈ c.sheets) :
      Move commits s (s.setSheet i (some (Sheet.fresh k)))
  /-- A sheet is removed. -/
  | removeSheet {s : State} (i : Nat) : Move commits s (s.removeSheet i)
  /-- A section is removed with what it holds. -/
  | removeSec {s : State} (k : Nat) : Move commits s (s.removeSection k)
  /-- An entry is made and joins its section's roster. -/
  | newEntry {s : State} {i : Nat} (e : Entry) (h : s.entry i = none) :
      Move commits s (((s.setEntry i (some e)).joinRoster e.section_ i e).useUp e.portrait)
  /-- An entry that stands in no roster is freed. -/
  | freeEntry {s : State} {i : Nat} (h : s.unlisted i) : Move commits s (s.freeEntry i)
  /-- An entry's record moves, its portrait and its place in its roster kept. -/
  | entry {s : State} {i : Nat} {e : Entry} (e' : Entry) (h : s.entry i = some e) (hp : e'.portrait = e.portrait)
      (hs : e'.section_ = e.section_) (hk : collateKey i e' = collateKey i e) : Move commits s (s.setEntry i (some e'))
  /-- The record of an entry that stands in no roster moves, its portrait kept, and the entry joins its section's roster. -/
  | join {s : State} {i : Nat} {e : Entry} (e' : Entry) (h : s.entry i = some e) (hp : e'.portrait = e.portrait)
      (hn : s.unlisted i) : Move commits s ((s.setEntry i (some e')).joinRoster e'.section_ i e')
  /-- An entry refers to another portrait. -/
  | rehang {s : State} {i : Nat} {e : Entry} (o : Option Nat) (h : s.entry i = some e) :
      Move commits s (((s.useDown e.portrait).useUp o).setEntry i (some { e with portrait := o }))
  /-- Two entries exchange their portraits. -/
  | swap {s : State} {i j : Nat} {e f : Entry} (hne : i ≠ j) (he : s.entry i = some e) (hf : s.entry j = some f) :
      Move commits s
        ((s.setEntry i (some { e with portrait := f.portrait })).setEntry j (some { f with portrait := e.portrait }))

/-- Any number of moves. -/
def Moves (commits : Prop) : State → State → Prop := Relation.ReflTransGen (Move commits)

theorem Moves.refl {commits : Prop} (s : State) : Moves commits s s := Relation.ReflTransGen.refl

theorem Moves.trans {commits : Prop} {s t u : State} (h : Moves commits s t) (h' : Moves commits t u) : Moves commits s u :=
  Relation.ReflTransGen.trans h h'

theorem Move.moves {commits : Prop} {s t : State} (h : Move commits s t) : Moves commits s t := .single h

theorem Moves.snoc {commits : Prop} {s t u : State} (h : Moves commits s t) (h' : Move commits t u) : Moves commits s u :=
  Relation.ReflTransGen.tail h h'

theorem Moves.frame {commits : Prop} {s t : State} (h : t.tables = s.tables) : Moves commits s t := (Move.frame h).moves

/-- Moves may end in an operation that leaves the tables. -/
theorem Moves.thenFrame {commits : Prop} {s t u : State} (h : Moves commits s t) (h' : u.tables = t.tables) :
    Moves commits s u := h.snoc (.frame h')

/-- What every move keeps, moves keep. -/
theorem Moves.keep {commits : Prop} {P : State → Prop} (h : ∀ s t, Move commits s t → P s → P t) {s t : State}
    (hm : Moves commits s t) (hs : P s) : P t := by
  induction hm with
  | refl => exact hs
  | tail _ hb ih => exact h _ _ hb ih

/-- A fold of operations that are moves is moves. -/
theorem Moves.foldl {commits : Prop} {α : Type} {f : State → α → State} (hf : ∀ s a, Moves commits s (f s a)) (l : List α)
    (s : State) : Moves commits s (l.foldl f s) := by
  induction l generalizing s with
  | nil => exact .refl s
  | cons a l ih => exact (hf s a).trans (ih _)

end Sys2Proof.Machine
end

section
/-! Every move keeps the book table sound (R6, R10, R28, R78, R127). -/

namespace Sys2Proof.Machine

open Sys2Proof

/-! ### What each part of the soundness depends on -/

/-- Sections stay listed when the lists keep every section that stays, and each section its book. -/
theorem State.sectionsListed_of {s t : State} (hs : s.sectionsListed)
    (hsec : ∀ k c', t.sec k = some c' → ∃ c, s.sec k = some c ∧ c'.book = c.book)
    (hbook : ∀ n b k, s.book n = some b → k ∈ b.sections → (t.sec k).isSome → ∃ b', t.book n = some b' ∧ k ∈ b'.sections) :
    t.sectionsListed := by
  intro k c' hk
  obtain ⟨c, hc, hb⟩ := hsec k c' hk
  obtain ⟨b, hb', hm⟩ := hs k c hc
  rw [hb]
  exact hbook _ b k hb' hm (by simp [hk])

/-- Sheets stay listed when the lists keep every sheet that stays, and each sheet its section and its layout. -/
theorem State.sheetsListed_of {s t : State} (hs : s.sheetsListed)
    (hsheet : ∀ i sh', t.sheet i = some sh' → ∃ sh, s.sheet i = some sh ∧ sh'.section_ = sh.section_ ∧
      ((sh.state ≠ .unlaid → sh.layout.isSome) → sh'.state ≠ .unlaid → sh'.layout.isSome))
    (hsec : ∀ k c i, s.sec k = some c → i ∈ c.sheets → (∃ sh', t.sheet i = some sh' ∧ sh'.section_ = k) →
      ∃ c', t.sec k = some c' ∧ i ∈ c'.sheets) : t.sheetsListed := by
  intro i sh' hi
  obtain ⟨sh, hsh, heq, hl⟩ := hsheet i sh' hi
  obtain ⟨⟨c, hc, hm⟩, hlaid⟩ := hs i sh hsh
  rw [heq]
  exact ⟨hsec _ c i hc hm ⟨sh', hi, heq⟩, hl hlaid⟩

/-- Rosters stay sound when each is a part of what it was, and each member keeps its section and its key. -/
theorem State.rostersSound_of {s t : State} (hs : s.rostersSound)
    (h : ∀ k c', t.sec k = some c' → c'.roster = [] ∨ ∃ c, s.sec k = some c ∧ c'.roster.Sublist c.roster ∧
      ∀ i ∈ c'.roster, ∀ e, s.entry i = some e → e.section_ = k →
        ∃ e', t.entry i = some e' ∧ e'.section_ = e.section_ ∧ collateKey i e' = collateKey i e) : t.rostersSound := by
  intro k c' hk
  obtain hnil | ⟨c, hc, hsub, hent⟩ := h k c' hk
  · simp [hnil]
  · obtain ⟨hp, hm⟩ := hs k c hc
    refine ⟨(hp.sublist hsub).imp_of_mem ?_, fun i hi => ?_⟩
    · rintro i j hi hj ⟨e, f, he, hf, hlt⟩
      obtain ⟨e0, he0, hk0⟩ := hm i (hsub.subset hi)
      obtain ⟨f0, hf0, hkf⟩ := hm j (hsub.subset hj)
      obtain rfl : e0 = e := Option.some.inj (he0 ▸ he)
      obtain rfl : f0 = f := Option.some.inj (hf0 ▸ hf)
      obtain ⟨e', he', -, hke⟩ := hent i hi _ he hk0
      obtain ⟨f', hf', -, hkf'⟩ := hent j hj _ hf hkf
      exact ⟨e', f', he', hf', (collate_lt ..).2 (by rw [hke, hkf']; exact (collate_lt ..).1 hlt)⟩
    · obtain ⟨e, he, hek⟩ := hm i (hsub.subset hi)
      obtain ⟨e', he', hs', -⟩ := hent i hi e he hek
      exact ⟨e', he', hs'.trans hek⟩

/-- Rosters stay sound where neither a roster nor an entry moves. -/
theorem State.rostersSound_of_eq {s t : State} (hs : s.rostersSound) (he : ∀ i, t.entry i = s.entry i)
    (h : ∀ k c', t.sec k = some c' → c'.roster = [] ∨ ∃ c, s.sec k = some c ∧ c'.roster.Sublist c.roster) :
    t.rostersSound :=
  State.rostersSound_of hs fun k c' hk => (h k c' hk).imp_right fun ⟨c, hc, hr⟩ =>
    ⟨c, hc, hr, fun i _ e hi _ => ⟨e, (he i).trans hi, rfl, rfl⟩⟩

/-- The queue stays sound where neither it nor any sheet's being STALE moves. -/
theorem State.queueSound_of {s t : State} (hs : s.queueSound) (hq : t.queue = s.queue)
    (h : ∀ i, (∃ sh, t.sheet i = some sh ∧ sh.state = .stale) ↔ ∃ sh, s.sheet i = some sh ∧ sh.state = .stale) :
    t.queueSound := ⟨hq ▸ hs.1, fun i => by rw [hq, hs.2 i, h i]⟩

/-- The soundness of the books depends on the tables alone. -/
theorem State.booksSound_congr {s t : State} (h : t.tables = s.tables) (hs : s.booksSound) : t.booksSound := by
  obtain ⟨hb, hc, hsh, he, hq, hj, -⟩ := State.tables_eq_iff.1 h
  unfold State.booksSound State.collates at *
  unfold State.sec State.book State.sheet State.entry at *
  rw [hb, hc, hsh, he, hq, hj]
  exact hs

/-! ### What it comes to when only some of the tables move -/

/-- No table but the sections, the entries and the directory moves: what is left to show. -/
theorem State.booksSound_of_rosters {s t : State} (hs : s.booksSound) (hb : t.books = s.books) (hsh : t.sheets = s.sheets)
    (hq : t.queue = s.queue) (hj : t.jobs = s.jobs)
    (hsec : ∀ k, ∃ r : List Nat → List Nat, t.sec k = (s.sec k).map fun c => { c with roster := r c.roster })
    (hr : t.rostersSound) : t.booksSound := by
  rw [State.booksSound_iff] at hs ⊢
  obtain ⟨h1, h2, -, h4, h5⟩ := hs
  have hbk : ∀ n, t.book n = s.book n := fun n => by unfold State.book; rw [hb]
  have hst : ∀ i, t.sheet i = s.sheet i := fun i => by unfold State.sheet; rw [hsh]
  have hback : ∀ k c', t.sec k = some c' → ∃ c, s.sec k = some c ∧ c'.book = c.book := fun k c' hk => by
    obtain ⟨r, hr⟩ := hsec k
    rw [hk] at hr
    obtain ⟨c, hc, rfl⟩ := Option.map_eq_some_iff.1 hr.symm
    exact ⟨c, hc, rfl⟩
  refine ⟨State.sectionsListed_of h1 hback fun n b k hn hk _ => ⟨b, (hbk n).trans hn, hk⟩,
    State.sheetsListed_of h2 (fun i sh hi => ⟨sh, (hst i) ▸ hi, rfl, id⟩) fun k c i hc hi _ => ?_, hr,
    State.queueSound_of h4 hq fun i => by rw [hst i], fun j hjm => h5 j (hj ▸ hjm)⟩
  obtain ⟨r, hr⟩ := hsec k
  exact ⟨{ c with roster := r c.roster }, by rw [hr, hc]; rfl, hi⟩

/-- Only sheets move, each keeping its section, its layout and its place in the queue. -/
theorem State.booksSound_setSheet {s : State} (hs : s.booksSound) {i : Nat} {sh sh' : Sheet} (h : s.sheet i = some sh)
    (hm : sh.Moves sh') : (s.setSheet i (some sh')).booksSound := by
  rw [State.booksSound_iff] at hs ⊢
  obtain ⟨h1, h2, h3, h4, h5⟩ := hs
  refine ⟨h1, State.sheetsListed_of h2 (fun j x hx => ?_) (fun k c j hc hj _ => ⟨c, hc, hj⟩), h3,
    State.queueSound_of h4 rfl fun j => ?_, h5⟩
  · rw [State.sheet_setSheet] at hx
    split at hx
    · subst_vars
      obtain rfl := Option.some.inj hx
      exact ⟨sh, h, hm.section_eq, hm.laid⟩
    · exact ⟨x, hx, rfl, id⟩
  · rw [State.sheet_setSheet]
    split
    · subst_vars
      simp [h, hm.stale_iff]
    · rfl

/-- Staling one sheet keeps the books sound (R18, R78). -/
theorem State.booksSound_staleOne {s : State} (hs : s.booksSound) (i : Nat) : (s.staleOne i).booksSound := by
  cases h : s.sheet i with
  | none => rwa [State.staleOne_none h]
  | some sh =>
    cases hj : sh.joins with
    | false =>
      rw [State.staleOne_stays h hj]
      split
      · exact State.booksSound_congr (State.bumpEpoch_tables _ _) hs
      · exact hs
    | true =>
      have hst : sh.state ≠ .stale := fun e => by simp [Sheet.not_joins_of_stale e] at hj
      have hst' : sh.staled.state = .stale := (Sheet.staled_stale_iff sh).2 (.inr hj)
      rw [State.booksSound_iff] at hs ⊢
      obtain ⟨h1, h2, h3, ⟨hn, hq⟩, h5⟩ := hs
      rw [State.staleOne_joins h hj]
      have hni : i ∉ s.queue := fun hi => by
        obtain ⟨sh0, h0, hs0⟩ := (hq i).1 hi
        exact hst (Option.some.inj (h ▸ h0) ▸ hs0)
      refine ⟨h1, State.sheetsListed_of h2 (fun j x hx => ?_) (fun k c j hc hj _ => ⟨c, hc, hj⟩), h3, ⟨?_, fun j => ?_⟩, h5⟩
      · rw [State.sheet_joinQueue, State.sheet_setSheet] at hx
        split at hx
        · subst_vars
          obtain rfl := Option.some.inj hx
          exact ⟨sh, h, sh.staled_keeps.1, Sheet.staled_laid⟩
        · exact ⟨x, hx, rfl, id⟩
      · exact List.nodup_append.2 ⟨hn, List.nodup_singleton i, fun a ha b hb e => hni (by simp_all)⟩
      · rw [State.sheet_joinQueue, State.sheet_setSheet]
        simp only [State.joinQueue_queue, State.setSheet_queue, List.mem_append, List.mem_singleton]
        split
        · subst_vars; simp [hst']
        · rename_i hne
          exact (or_iff_left hne).trans (hq j)

theorem State.booksSound_staleAll {s : State} (hs : s.booksSound) (set : List Nat) : (s.staleAll set).booksSound :=
  State.staleAll_induction (P := State.booksSound) set (fun _ i _ h => State.booksSound_staleOne h i) s hs

/-- One promotion moves the directory, the pool and the ports alone. -/
theorem State.booksSound_promoteOne {s : State} (hs : s.booksSound) (i : Nat) : (s.promoteOne i).booksSound := hs

theorem State.booksSound_examine {s : State} (hs : s.booksSound) (ports : List Nat) : (s.examine ports).booksSound := by
  refine State.booksSound_staleAll ?_ _
  exact List.foldlRecOn (motive := State.booksSound) _ _ hs fun t ht i _ => State.booksSound_promoteOne ht i

end Sys2Proof.Machine
end

section
/-! Removal of a section, and the moves that keep the book table sound. -/

namespace Sys2Proof.Machine

open Sys2Proof

/-! ### Removing sheets, entries and sections (R5, R9, R22) -/

theorem State.entry_freeEntries (s : State) (l : List Nat) (j : Nat) :
    (l.foldl State.freeEntry s).entry j = if j ∈ l then none else s.entry j := by
  induction l generalizing s with
  | nil => simp
  | cons i l ih =>
    rw [List.foldl_cons, ih, State.entry_freeEntry]
    by_cases h : j = i <;> simp [h]

/-- Freeing entries moves the entry table and the directory alone. -/
theorem State.freeEntries_eq (s : State) (l : List Nat) : l.foldl State.freeEntry s =
    { s with entries := (l.foldl State.freeEntry s).entries, portraits := (l.foldl State.freeEntry s).portraits } := by
  induction l generalizing s with
  | nil => rfl
  | cons i l ih => rw [List.foldl_cons, ih, State.freeEntry_eq]

theorem State.sheet_removeSheets (s : State) (l : List Nat) (j : Nat) :
    (l.foldl State.removeSheet s).sheet j = if j ∈ l then none else s.sheet j := by
  induction l generalizing s with
  | nil => simp
  | cons i l ih =>
    rw [List.foldl_cons, ih, State.sheet_removeSheet]
    by_cases h : j = i <;> simp [h]

theorem State.queue_removeSheets (s : State) (l : List Nat) :
    (l.foldl State.removeSheet s).queue = s.queue.filter (fun j => decide (j ∉ l)) := by
  induction l generalizing s with
  | nil => simp
  | cons i l ih =>
    rw [List.foldl_cons, ih, State.queue_removeSheet, List.filter_filter]
    exact List.filter_congr fun j _ => by simp [Bool.and_comm]

/-- Removing sheets moves the sheet table, the epochs and the queue alone. -/
theorem State.removeSheets_eq (s : State) (l : List Nat) : l.foldl State.removeSheet s =
    { s with sheets := (l.foldl State.removeSheet s).sheets, epochs := (l.foldl State.removeSheet s).epochs
             queue := (l.foldl State.removeSheet s).queue } := by
  induction l generalizing s with
  | nil => rfl
  | cons i l ih => rw [List.foldl_cons, ih]; rfl

/-- A section that is there is removed with its roster's entries and its sheets. -/
theorem State.removeSection_some {s : State} {k : Nat} {c : Section} (h : s.sec k = some c) :
    s.removeSection k = (c.sheets.foldl State.removeSheet (c.roster.foldl State.freeEntry s)).setSec k none := by
  simp [State.removeSection, h]

theorem State.removeSection_none {s : State} {k : Nat} (h : s.sec k = none) : s.removeSection k = s := by
  simp [State.removeSection, h]

section
variable {s : State} {k : Nat} {c : Section} (h : s.sec k = some c)
include h

theorem State.sec_removeSection (j : Nat) : (s.removeSection k).sec j = if j = k then none else s.sec j := by
  rw [State.removeSection_some h, State.sec_setSec, State.removeSheets_eq, State.freeEntries_eq]
  rfl

theorem State.sheet_removeSection (j : Nat) :
    (s.removeSection k).sheet j = if j ∈ c.sheets then none else s.sheet j := by
  rw [State.removeSection_some h, State.sheet_setSec, State.sheet_removeSheets, State.freeEntries_eq]
  rfl

theorem State.entry_removeSection (j : Nat) :
    (s.removeSection k).entry j = if j ∈ c.roster then none else s.entry j := by
  rw [State.removeSection_some h, State.entry_setSec, State.removeSheets_eq, ← State.entry_freeEntries s c.roster]
  rfl

theorem State.queue_removeSection :
    (s.removeSection k).queue = s.queue.filter (fun j => decide (j ∉ c.sheets)) := by
  rw [State.removeSection_some h, State.setSec_queue, State.queue_removeSheets, State.freeEntries_eq]

end

/-- Removing a section leaves the books, the jobs, the pool and all that is outside the tables. -/
theorem State.removeSection_eq (s : State) (k : Nat) : s.removeSection k =
    { s with sections := (s.removeSection k).sections, sheets := (s.removeSection k).sheets
             epochs := (s.removeSection k).epochs, entries := (s.removeSection k).entries
             queue := (s.removeSection k).queue, portraits := (s.removeSection k).portraits } := by
  cases h : s.sec k with
  | none => rw [State.removeSection_none h]
  | some c =>
    rw [State.removeSection_some h, State.removeSheets_eq, State.freeEntries_eq]
    rfl

@[simp] theorem State.book_removeSection (s : State) (k n : Nat) : (s.removeSection k).book n = s.book n := by
  rw [State.removeSection_eq]; rfl

/-! ### The moves of books, sections and sheets -/

/-- A table of sheets from which some are gone, with the queue cut to the rest, keeps the queue sound. -/
theorem State.queueSound_removed {s t : State} (hs : s.queueSound) (gone : Nat → Prop) [DecidablePred gone]
    (hq : t.queue = s.queue.filter (fun j => decide (¬gone j)))
    (h : ∀ j, t.sheet j = if gone j then none else s.sheet j) : t.queueSound := by
  refine ⟨hq ▸ hs.1.filter _, fun i => ?_⟩
  rw [hq, List.mem_filter, hs.2 i, h i]
  by_cases hg : gone i <;> simp [hg]

theorem State.booksSound_removeSheet {s : State} (hs : s.booksSound) (i : Nat) : (s.removeSheet i).booksSound := by
  rw [State.booksSound_iff] at hs ⊢
  obtain ⟨h1, h2, h3, h4, h5⟩ := hs
  refine ⟨h1, State.sheetsListed_of h2 (fun j x hx => ?_) (fun k c j hc hj _ => ⟨c, hc, hj⟩), h3,
    State.queueSound_removed h4 (· = i) rfl fun j => State.sheet_removeSheet s i j, h5⟩
  rw [State.sheet_removeSheet] at hx
  split at hx
  · cases hx
  · exact ⟨x, hx, rfl, id⟩

theorem State.booksSound_removeSection {s : State} (hs : s.booksSound) (k : Nat) : (s.removeSection k).booksSound := by
  cases h : s.sec k with
  | none => rwa [State.removeSection_none h]
  | some c =>
    have hsec := State.sec_removeSection h
    have hsheet := State.sheet_removeSection h
    have hother : ∀ j x, (s.removeSection k).sec j = some x → j ≠ k ∧ s.sec j = some x := fun j x hx => by
      rw [hsec] at hx
      split at hx
      · cases hx
      · exact ⟨‹_›, hx⟩
    rw [State.booksSound_iff] at hs ⊢
    obtain ⟨h1, h2, h3, h4, h5⟩ := hs
    refine ⟨State.sectionsListed_of h1 (fun j x hx => ⟨x, (hother j x hx).2, rfl⟩)
        (fun n b j hn hj _ => ⟨b, by simpa using hn, hj⟩),
      State.sheetsListed_of h2 (fun j x hx => ?_) (fun j x i hj hi ⟨sh, hsh, hk⟩ => ?_),
      State.rostersSound_of h3 fun j x hx => .inr ⟨x, (hother j x hx).2, List.Sublist.refl _, fun i hi e he hej => ?_⟩,
      State.queueSound_removed h4 (· ∈ c.sheets) (State.queue_removeSection h) hsheet,
      fun j hj => h5 j (by rwa [State.removeSection_eq] at hj)⟩
    · rw [hsheet] at hx
      split at hx
      · cases hx
      · exact ⟨x, hx, rfl, id⟩
    · rw [hsheet] at hsh
      split at hsh
      · cases hsh
      · rename_i hni
        refine ⟨x, ?_, hi⟩
        rw [hsec, if_neg (fun e => hni ?_)]
        · exact hj
        · obtain ⟨⟨d, hd, hid⟩, -⟩ := h2 i sh hsh
          rw [hk, e, h] at hd
          exact Option.some.inj hd ▸ hid
    · refine ⟨e, ?_, rfl, rfl⟩
      rw [State.entry_removeSection h, if_neg fun hir => (hother j x hx).1 ?_]
      · exact he
      · obtain ⟨e', he', hk'⟩ := (h3 k c h).2 i hir
        exact hej.symm.trans (Option.some.inj (he ▸ he') ▸ hk')

theorem State.booksSound_setBook {s : State} (hs : s.booksSound) (i : Nat) (o : Option Book)
    (h : ∀ b k, s.book i = some b → k ∈ b.sections → (s.sec k).isSome → ∃ b', o = some b' ∧ k ∈ b'.sections) :
    (s.setBook i o).booksSound := by
  rw [State.booksSound_iff] at hs ⊢
  obtain ⟨h1, h2, h3, h4, h5⟩ := hs
  refine ⟨State.sectionsListed_of h1 (fun k c hc => ⟨c, hc, rfl⟩) fun n b k hn hk hc => ?_, h2, h3, h4, h5⟩
  rw [State.book_setBook]
  split
  · subst_vars; exact h b k hn hk hc
  · exact ⟨b, hn, hk⟩

theorem State.booksSound_setSec {s : State} (hs : s.booksSound) {k : Nat} {c : Section} (c' : Section) (h : s.sec k = some c)
    (hb : c'.book = c.book) (hr : c'.roster.Sublist c.roster) (hl : ∀ i ∈ c.sheets, (s.sheet i).isSome → i ∈ c'.sheets) :
    (s.setSec k (some c')).booksSound := by
  have hback : ∀ j x, (s.setSec k (some c')).sec j = some x →
      ∃ y, s.sec j = some y ∧ x.book = y.book ∧ x.roster.Sublist y.roster := fun j x hx => by
    rw [State.sec_setSec] at hx
    split at hx
    · subst_vars
      obtain rfl := Option.some.inj hx
      exact ⟨c, h, hb, hr⟩
    · exact ⟨x, hx, rfl, List.Sublist.refl _⟩
  rw [State.booksSound_iff] at hs ⊢
  obtain ⟨h1, h2, h3, h4, h5⟩ := hs
  refine ⟨State.sectionsListed_of h1 (fun j x hx => (hback j x hx).imp fun y hy => ⟨hy.1, hy.2.1⟩)
      (fun n b k hn hk _ => ⟨b, hn, hk⟩),
    State.sheetsListed_of h2 (fun i sh hi => ⟨sh, hi, rfl, id⟩) (fun j x i hj hi ⟨sh, hsh, _⟩ => ?_),
    State.rostersSound_of_eq h3 (fun _ => rfl) (fun j x hx => .inr ((hback j x hx).imp fun y hy => ⟨hy.1, hy.2.2⟩)), h4, h5⟩
  rw [State.sec_setSec]
  split
  · subst_vars
    obtain rfl : c = x := Option.some.inj (h ▸ hj)
    have hsh' : s.sheet i = some sh := hsh
    exact ⟨c', rfl, hl i hi (by simp [hsh'])⟩
  · exact ⟨x, hj, hi⟩

theorem State.booksSound_newSec {s : State} (hs : s.booksSound) {k : Nat} {b : Book} (c : Section) (h : s.sec k = none)
    (hb : s.book c.book = some b) (hk : k ∈ b.sections) (hr : c.roster = []) : (s.setSec k (some c)).booksSound := by
  rw [State.booksSound_iff] at hs ⊢
  obtain ⟨h1, h2, h3, h4, h5⟩ := hs
  refine ⟨fun j x hx => ?_, State.sheetsListed_of h2 (fun i sh hi => ⟨sh, hi, rfl, id⟩) (fun j x i hj hi _ => ⟨x, ?_, hi⟩),
    State.rostersSound_of_eq h3 (fun _ => rfl) (fun j x hx => ?_), h4, h5⟩
  · rw [State.sec_setSec] at hx
    split at hx
    · subst_vars
      obtain rfl := Option.some.inj hx
      exact ⟨b, hb, hk⟩
    · exact h1 j x hx
  · rw [State.sec_setSec, if_neg fun e => by simp [e ▸ hj] at h]
    exact hj
  · rw [State.sec_setSec] at hx
    split at hx
    · obtain rfl := Option.some.inj hx
      exact .inl hr
    · exact .inr ⟨x, hx, List.Sublist.refl _⟩

theorem State.booksSound_newSheet {s : State} (hs : s.booksSound) {i k : Nat} {c : Section} (h : s.sheet i = none)
    (hc : s.sec k = some c) (hi : i ∈ c.sheets) : (s.setSheet i (some (Sheet.fresh k))).booksSound := by
  rw [State.booksSound_iff] at hs ⊢
  obtain ⟨h1, h2, h3, h4, h5⟩ := hs
  refine ⟨h1, fun j x hx => ?_, h3, State.queueSound_of h4 rfl fun j => ?_, h5⟩
  · rw [State.sheet_setSheet] at hx
    split at hx
    · subst_vars
      obtain rfl := Option.some.inj hx
      exact ⟨⟨c, hc, hi⟩, fun e => absurd rfl e⟩
    · exact h2 j x hx
  · rw [State.sheet_setSheet]
    split
    · subst_vars; simp [h, Sheet.fresh]
    · rfl

/-! ### The moves of the placement queue -/

/-- The unit's copy of a STALE sheet can always be made on sound books (R79). -/
theorem State.copySheet_isSome {s : State} (hs : s.booksSound) {i : Nat} {sh : Sheet} (h : s.sheet i = some sh)
    (hst : sh.state = .stale) : (s.copySheet i).isSome := by
  rw [State.booksSound_iff] at hs
  obtain ⟨h1, h2, -⟩ := hs
  obtain ⟨⟨c, hc, -⟩, hl⟩ := h2 i sh h
  obtain ⟨l, hl⟩ := Option.isSome_iff_exists.1 (hl (by simp [hst]))
  obtain ⟨b, hb, -⟩ := h1 _ c hc
  simp [State.copySheet, State.inputs, State.home, h, hc, hb, hl]

theorem State.booksSound_take {s : State} (hs : s.booksSound) {i : Nat} {q : List Nat} {sh : Sheet} (hq : s.queue = i :: q)
    (h : s.sheet i = some sh) :
    ({ s.setSheet i (some { sh with state := .placing }) with queue := q } : State).booksSound := by
  rw [State.booksSound_iff] at hs ⊢
  obtain ⟨h1, h2, h3, ⟨hn, hm⟩, h5⟩ := hs
  rw [hq, List.nodup_cons] at hn
  have hst : sh.state = .stale := by
    obtain ⟨sh', h', hs'⟩ := (hm i).1 (hq ▸ List.mem_cons_self ..)
    exact Option.some.inj (h ▸ h') ▸ hs'
  have hsheet : ∀ j, ({ s.setSheet i (some { sh with state := .placing }) with queue := q } : State).sheet j =
      if j = i then some { sh with state := .placing } else s.sheet j := fun j =>
    State.sheet_setSheet s i j (some { sh with state := .placing })
  refine ⟨h1, State.sheetsListed_of h2 (fun j x hx => ?_) (fun k c j hc hj _ => ⟨c, hc, hj⟩), h3, ⟨hn.2, fun j => ?_⟩, h5⟩
  · rw [hsheet] at hx
    split at hx
    · subst_vars
      obtain rfl := Option.some.inj hx
      exact ⟨sh, h, rfl, fun hl _ => hl (by simp [hst])⟩
    · exact ⟨x, hx, rfl, id⟩
  · rw [hsheet]
    split
    · subst_vars; simp [hn.1]
    · rename_i hne
      rw [← hm j, hq]
      simp [hne]

theorem State.booksSound_skip {s : State} (hs : s.booksSound) {i : Nat} {q : List Nat} (hq : s.queue = i :: q)
    (h : s.sheet i = none ∨ s.copySheet i = none) : ({ s with queue := q } : State).booksSound := by
  obtain ⟨-, -, -, ⟨-, hm⟩, -⟩ := (State.booksSound_iff s).1 hs
  obtain ⟨sh, hi, hst⟩ := (hm i).1 (hq ▸ List.mem_cons_self ..)
  have hc := State.copySheet_isSome hs hi hst
  rcases h with h | h <;> simp_all

end Sys2Proof.Machine
end

section
/-! The moves of entries and rosters, and the preservation of the book table's soundness. -/

namespace Sys2Proof.Machine

open Sys2Proof

/-- On sound rosters, an entry that stands in no roster of its own section stands in none. -/
theorem State.not_mem_of_unlisted {s : State} (hs : s.rostersSound) {i : Nat} (h : s.unlisted i) {k : Nat} {c : Section}
    (hk : s.sec k = some c) : i ∉ c.roster := fun hi => by
  obtain ⟨e, he, hek⟩ := (hs k c hk).2 i hi
  exact h e c he (hek ▸ hk) hi

/-- The entries move at one slot, and the directory may: what is left to show is where that slot stands in the rosters. -/
theorem State.booksSound_of_entry {s t : State} (hs : s.booksSound) {i : Nat}
    (ht : t = { s with entries := t.entries, portraits := t.portraits }) (he : ∀ j, j ≠ i → t.entry j = s.entry j)
    (hi : s.unlisted i ∨ ∃ e e', s.entry i = some e ∧ t.entry i = some e' ∧ e'.section_ = e.section_ ∧
      collateKey i e' = collateKey i e) : t.booksSound := by
  rw [State.booksSound_iff] at hs ⊢
  obtain ⟨h1, h2, h3, h4, h5⟩ := hs
  have hsec : ∀ k, t.sec k = s.sec k := fun k => by rw [ht]; rfl
  have hr : t.rostersSound := by
    refine State.rostersSound_of h3 fun k c hk => .inr ⟨c, (hsec k) ▸ hk, List.Sublist.refl _, fun j hj e hje _ => ?_⟩
    by_cases hji : j = i
    · subst hji
      rcases hi with hi | ⟨e0, e', he0, he', hse, hke⟩
      · exact absurd hj (State.not_mem_of_unlisted h3 hi ((hsec k) ▸ hk))
      · obtain rfl : e0 = e := Option.some.inj (he0 ▸ hje)
        exact ⟨e', he', hse, hke⟩
    · exact ⟨e, (he j hji).trans hje, rfl, rfl⟩
  rw [ht] at hr ⊢
  exact ⟨h1, h2, hr, h4, h5⟩

theorem State.booksSound_freeEntry {s : State} (hs : s.booksSound) {i : Nat} (h : s.unlisted i) :
    (s.freeEntry i).booksSound :=
  State.booksSound_of_entry hs (i := i) (s.freeEntry_eq i) (fun j hj => by rw [State.entry_freeEntry, if_neg hj]) (.inl h)

theorem State.booksSound_setEntry {s : State} (hs : s.booksSound) {i : Nat} {e : Entry} (e' : Entry)
    (h : s.entry i = some e) (hsec : e'.section_ = e.section_) (hk : collateKey i e' = collateKey i e) :
    (s.setEntry i (some e')).booksSound :=
  State.booksSound_of_entry hs (i := i) rfl (fun j hj => by rw [State.entry_setEntry, if_neg hj])
    (.inr ⟨e, e', h, by rw [State.entry_setEntry, if_pos rfl], hsec, hk⟩)

theorem State.booksSound_rehang {s : State} (hs : s.booksSound) {i : Nat} {e : Entry} (o : Option Nat)
    (h : s.entry i = some e) :
    (((s.useDown e.portrait).useUp o).setEntry i (some { e with portrait := o })).booksSound :=
  State.booksSound_of_entry hs (i := i) (by rw [State.useUp_eq, State.useDown_eq]; rfl)
    (fun j hj => by rw [State.entry_setEntry, if_neg hj, State.entry_useUp, State.entry_useDown])
    (.inr ⟨e, { e with portrait := o }, h, by rw [State.entry_setEntry, if_pos rfl], rfl, rfl⟩)

theorem State.booksSound_swap {s : State} (hs : s.booksSound) {i j : Nat} {e f : Entry} (hne : i ≠ j)
    (he : s.entry i = some e) (hf : s.entry j = some f) :
    ((s.setEntry i (some { e with portrait := f.portrait })).setEntry j
      (some { f with portrait := e.portrait })).booksSound := by
  have hi := State.booksSound_setEntry hs { e with portrait := f.portrait } he rfl rfl
  refine State.booksSound_setEntry hi { f with portrait := e.portrait } (e := f) ?_ rfl rfl
  rw [State.entry_setEntry, if_neg hne.symm, hf]

theorem State.booksSound_join {s : State} (hs : s.booksSound) {i : Nat} {e : Entry} (h : s.entry i = some e)
    (hn : ∀ k c, s.sec k = some c → i ∉ c.roster) : (s.joinRoster e.section_ i e).booksSound := by
  obtain ⟨-, -, h3, -⟩ := (State.booksSound_iff s).1 hs
  refine State.booksSound_of_rosters hs (by rw [State.joinRoster_eq]) (by rw [State.joinRoster_eq])
    (by rw [State.joinRoster_eq]) (by rw [State.joinRoster_eq]) (fun k => ?_) fun k c' hk => ?_
  · rw [State.sec_joinRoster]
    split
    · exact ⟨rosterInsert s.entry i e, by subst_vars; rfl⟩
    · exact ⟨id, by simp⟩
  · have hcol : (s.joinRoster e.section_ i e).collates = s.collates := by
      funext a b
      simp [State.collates]
    rw [hcol]
    rw [State.sec_joinRoster] at hk
    split at hk
    · subst_vars
      obtain ⟨c, hc, rfl⟩ := Option.map_eq_some_iff.1 hk
      obtain ⟨hp, hm⟩ := h3 _ c hc
      refine ⟨pairwise_rosterInsert h hp (fun j hj => (hm j hj).imp fun _ => And.left)
        (hn _ c hc), fun j hj => ?_⟩
      rw [State.entry_joinRoster]
      obtain rfl | hj := (mem_rosterInsert ..).1 hj
      · exact ⟨e, h, rfl⟩
      · exact hm j hj
    · refine ⟨(h3 k c' hk).1, fun j hj => ?_⟩
      rw [State.entry_joinRoster]
      exact (h3 k c' hk).2 j hj

/-- An entry that stands in no roster is stored and joins its section's (R28). -/
theorem State.booksSound_storeJoin {s : State} (hs : s.booksSound) {i : Nat} (e : Entry)
    (hn : ∀ k c, s.sec k = some c → i ∉ c.roster) : ((s.setEntry i (some e)).joinRoster e.section_ i e).booksSound :=
  State.booksSound_join
    (State.booksSound_of_entry hs (i := i) rfl (fun j hj => by rw [State.entry_setEntry, if_neg hj])
      (.inl fun e c _ hc => hn _ c hc))
    (by rw [State.entry_setEntry, if_pos rfl]) hn

theorem State.booksSound_newEntry {s : State} (hs : s.booksSound) {i : Nat} (e : Entry) (h : s.entry i = none) :
    (((s.setEntry i (some e)).joinRoster e.section_ i e).useUp e.portrait).booksSound := by
  obtain ⟨-, -, h3, -⟩ := (State.booksSound_iff s).1 hs
  rw [State.useUp_eq]
  exact State.booksSound_storeJoin hs e fun k c hk => State.not_mem_of_unlisted h3 (fun e' _ he => by simp [h] at he) hk

theorem State.booksSound_resetWith (breaks : PerPort Bool) (lines : PerPress Bool) :
    (State.resetWith breaks lines).booksSound := by
  rw [State.booksSound_iff]
  refine ⟨fun k c h => ?_, fun i sh h => ?_, fun k c h => ?_, ⟨List.nodup_nil, fun i => ?_⟩, fun j h => ?_⟩
  · exact nomatch (h : (none : Option Section) = some c)
  · exact nomatch (h : (none : Option Sheet) = some sh)
  · exact nomatch (h : (none : Option Section) = some c)
  · exact ⟨fun h => (nomatch h), fun ⟨sh, h, _⟩ => nomatch (h : (none : Option Sheet) = some sh)⟩
  · exact nomatch h

/-- Every move keeps the book table sound (R6, R10, R28, R78). -/
theorem Move.keeps_books {commits : Prop} {s t : State} (m : Move commits s t) (hs : s.booksSound) : t.booksSound := by
  obtain ⟨-, -, h3, -, hj⟩ := (State.booksSound_iff s).1 hs
  cases m with
  | frame h => exact State.booksSound_congr h hs
  | reset h => exact State.booksSound_congr h (State.booksSound_resetWith _ _)
  | jobs l h =>
    obtain ⟨h1, h2, h3, h4, -⟩ := (State.booksSound_iff s).1 hs
    exact (State.booksSound_iff _).2 ⟨h1, h2, h3, h4, h hj⟩
  | pool pl h => exact hs
  | portrait i f hu hp => exact hs
  | sheet sh' h hm => exact State.booksSound_setSheet hs h (hm hj)
  | take hq h => exact State.booksSound_take hs hq h
  | skip hq h => exact State.booksSound_skip hs hq h
  | stale set h => exact State.booksSound_staleAll hs set
  | examine ports => exact State.booksSound_examine hs ports
  | book i o h => exact State.booksSound_setBook hs i o h
  | sec c' h hb hr hl => exact State.booksSound_setSec hs c' h hb hr hl
  | newSec c h hb hk hr => exact State.booksSound_newSec hs c h hb hk hr
  | newSheet h hc hi => exact State.booksSound_newSheet hs h hc hi
  | removeSheet i => exact State.booksSound_removeSheet hs i
  | removeSec k => exact State.booksSound_removeSection hs k
  | newEntry e h => exact State.booksSound_newEntry hs e h
  | freeEntry h => exact State.booksSound_freeEntry hs h
  | entry e' h hp hsec hk => exact State.booksSound_setEntry hs e' h hsec hk
  | rehang o h => exact State.booksSound_rehang hs o h
  | swap hne he hf => exact State.booksSound_swap hs hne he hf
  | join e' h hp hn => exact State.booksSound_storeJoin hs e' fun k c hk => State.not_mem_of_unlisted h3 hn hk

end Sys2Proof.Machine
end

section
/-! Every move keeps the directory and the pool sound (R61, R67). -/

namespace Sys2Proof.Machine

open Sys2Proof

/-! ### Counting in a slot table -/

section
variable {α : Type}

theorem tabFind_none_of_lt {t : List (Nat × α)} {i : Nat} (h : ∀ e ∈ t, i < e.1) : tabFind t i = none := by
  induction t with
  | nil => rfl
  | cons e t ih =>
    obtain ⟨j, b⟩ := e
    have hj : i < j := h (j, b) (List.mem_cons_self ..)
    rw [tabFind, if_neg (by omega)]
    exact ih fun e he => h e (List.mem_cons_of_mem _ he)

/-- The slots whose records meet `f`, counted. -/
def tabCount (f : α → Bool) (t : List (Nat × α)) : Nat := t.countP (fun e => f e.2)

/-- What a slot counts for. -/
def slotCount (f : α → Bool) (o : Option α) : Nat := if o.any f then 1 else 0

theorem tabCount_tabErase (f : α → Bool) {t : List (Nat × α)} (h : tabSorted t = true) (i : Nat) :
    tabCount f (tabErase t i) + slotCount f (tabFind t i) = tabCount f t := by
  rw [tabSorted_iff] at h
  induction t with
  | nil => rfl
  | cons e t ih =>
    obtain ⟨j, b⟩ := e
    obtain ⟨hj, ht⟩ := List.pairwise_cons.1 h
    by_cases hij : i = j
    · subst hij
      have hs : tabErase ((i, b) :: t) i = t := by
        simp only [tabErase, List.filter_cons, ne_eq, not_true_eq_false, decide_false, Bool.false_eq_true, if_false]
        exact List.filter_eq_self.2 fun x hx => by have := hj x hx; simp; omega
      simp [hs, tabCount, slotCount, tabFind, List.countP_cons]
    · have hs : tabErase ((j, b) :: t) i = (j, b) :: tabErase t i := by simp [tabErase, Ne.symm hij]
      have := ih ht
      simp only [hs, tabFind, if_neg hij, tabCount, List.countP_cons] at this ⊢
      omega

theorem tabCount_tabInsert (f : α → Bool) {t : List (Nat × α)} (h : tabSorted t = true) (i : Nat) (a : α) :
    tabCount f (tabInsert t i a) + slotCount f (tabFind t i) = tabCount f t + slotCount f (some a) := by
  rw [tabSorted_iff] at h
  induction t with
  | nil => simp [tabInsert, tabFind, tabCount, slotCount]
  | cons e t ih =>
    obtain ⟨j, b⟩ := e
    obtain ⟨hj, ht⟩ := List.pairwise_cons.1 h
    by_cases hij : i = j
    · subst hij
      simp [tabInsert, tabFind, tabCount, slotCount, List.countP_cons]
      omega
    · by_cases hlt : i < j
      · have hn : tabFind ((j, b) :: t) i = none := tabFind_none_of_lt fun e he => by
          rcases List.mem_cons.1 he with rfl | he
          · exact hlt
          · exact hlt.trans (hj e he)
        rw [hn]
        simp [tabInsert, hij, hlt, tabCount, slotCount, List.countP_cons]
      · have := ih ht
        simp only [tabInsert, if_neg hij, if_neg hlt, tabFind, tabCount, List.countP_cons] at this ⊢
        omega

/-- A table's count after an update: the slot's old part goes, and its new part comes. -/
theorem tabCount_tabUpdate (f : α → Bool) {t : List (Nat × α)} (h : tabSorted t = true) (i : Nat) (o : Option α) :
    tabCount f (tabUpdate t i o) + slotCount f (tabFind t i) = tabCount f t + slotCount f o := by
  cases o with
  | none => exact tabCount_tabErase f h i
  | some a => exact tabCount_tabInsert f h i a

end

/-! ### The directory -/

/-- The entries that reference a portrait, counted (R61). -/
def State.refs (s : State) (q : Nat) : Nat := tabCount (fun e : Entry => decide (e.portrait = some q)) s.entries

/-- What one reference counts for. -/
def refOf (o : Option Nat) (q : Nat) : Nat := if o = some q then 1 else 0

/-- The soundness of the directory by its parts. -/
theorem State.directorySound_iff (s : State) : s.directorySound ↔
    tabSorted s.entries = true ∧ (∀ q, (s.portrait q).useCount = s.refs q) ∧ s.pool.counted := by
  unfold State.directorySound State.refs tabCount Pool.counted
  simp only [List.countP_eq_length_filter]

theorem State.tabSorted_setEntry {s : State} (h : tabSorted s.entries = true) (i : Nat) (o : Option Entry) :
    tabSorted (s.setEntry i o).entries = true := tabSorted_tabUpdate i o h

/-- The references after an entry's slot is stored. -/
theorem State.refs_setEntry {s : State} (h : tabSorted s.entries = true) (i : Nat) (o : Option Entry) (q : Nat) :
    (s.setEntry i o).refs q + refOf ((s.entry i).bind (·.portrait)) q = s.refs q + refOf (o.bind (·.portrait)) q := by
  have hr : ∀ o : Option Entry, slotCount (fun e : Entry => decide (e.portrait = some q)) o = refOf (o.bind (·.portrait)) q := by
    intro o
    cases o <;> simp [slotCount, refOf]
  rw [← hr, ← hr]
  exact tabCount_tabUpdate _ h i o

@[simp] theorem State.refs_useUp (s : State) (o : Option Nat) (q : Nat) : (s.useUp o).refs q = s.refs q := by cases o <;> rfl
@[simp] theorem State.refs_useDown (s : State) (o : Option Nat) (q : Nat) : (s.useDown o).refs q = s.refs q := by
  cases o <;> rfl
@[simp] theorem State.joinRoster_entries (s : State) (k i : Nat) (e : Entry) : (s.joinRoster k i e).entries = s.entries := by
  rw [State.joinRoster_eq]
@[simp] theorem State.joinRoster_pool (s : State) (k i : Nat) (e : Entry) : (s.joinRoster k i e).pool = s.pool := by
  rw [State.joinRoster_eq]
@[simp] theorem State.refs_joinRoster (s : State) (k i : Nat) (e : Entry) (q : Nat) :
    (s.joinRoster k i e).refs q = s.refs q := by
  unfold State.refs
  rw [State.joinRoster_entries]
@[simp] theorem State.useUp_entries (s : State) (o : Option Nat) : (s.useUp o).entries = s.entries := by cases o <;> rfl
@[simp] theorem State.useDown_entries (s : State) (o : Option Nat) : (s.useDown o).entries = s.entries := by cases o <;> rfl
@[simp] theorem State.useUp_pool (s : State) (o : Option Nat) : (s.useUp o).pool = s.pool := by cases o <;> rfl
@[simp] theorem State.useDown_pool (s : State) (o : Option Nat) : (s.useDown o).pool = s.pool := by cases o <;> rfl

/-- The soundness of the directory depends on the entries, the directory and the pool's blocks alone. -/
theorem State.directorySound_congr {s t : State} (he : t.entries = s.entries) (hp : t.portraits = s.portraits)
    (ho : t.pool.owned = s.pool.owned) (hf : t.pool.freeCount = s.pool.freeCount) (hs : s.directorySound) :
    t.directorySound := by
  unfold State.directorySound State.portrait at *
  rw [he, hp, ho, hf]
  exact hs

theorem State.directorySound_newEntry {s : State} (hs : s.directorySound) {i : Nat} (e : Entry) (h : s.entry i = none) :
    (((s.setEntry i (some e)).joinRoster e.section_ i e).useUp e.portrait).directorySound := by
  rw [State.directorySound_iff] at hs ⊢
  obtain ⟨hsort, hu, hpool⟩ := hs
  refine ⟨by simpa using State.tabSorted_setEntry hsort i (some e), fun q => ?_, by simpa using hpool⟩
  have := State.refs_setEntry hsort i (some e) q
  rw [State.portrait_useUp, State.refs_useUp, State.portrait_joinRoster, State.refs_joinRoster]
  simp only [h, refOf, State.portrait_setEntry, hu q, Option.bind_none, Option.bind_some] at this ⊢
  simpa using this.symm

theorem State.directorySound_freeEntry {s : State} (hs : s.directorySound) (i : Nat) : (s.freeEntry i).directorySound := by
  unfold State.freeEntry
  split
  · exact hs
  · rename_i e h
    rw [State.directorySound_iff] at hs ⊢
    obtain ⟨hsort, hu, hpool⟩ := hs
    refine ⟨by simpa using tabSorted_tabUpdate i none hsort, fun q => ?_, by simpa using hpool⟩
    have := State.refs_setEntry (s := s.useDown e.portrait) (by simpa using hsort) i none q
    simp only [State.entry_useDown, h, Option.bind_some, Option.bind_none, State.refs_useDown, refOf] at this
    rw [State.portrait_setEntry, State.portrait_useDown]
    simp only [hu q] at this ⊢
    simp at this
    omega

theorem State.directorySound_freeEntries {s : State} (hs : s.directorySound) (l : List Nat) :
    (l.foldl State.freeEntry s).directorySound :=
  List.foldlRecOn (motive := State.directorySound) _ _ hs fun _ ht i _ => State.directorySound_freeEntry ht i

theorem State.directorySound_setEntry {s : State} (hs : s.directorySound) {i : Nat} {e : Entry} (e' : Entry)
    (h : s.entry i = some e) (hp : e'.portrait = e.portrait) : (s.setEntry i (some e')).directorySound := by
  rw [State.directorySound_iff] at hs ⊢
  obtain ⟨hsort, hu, hpool⟩ := hs
  refine ⟨tabSorted_tabUpdate i (some e') hsort, fun q => ?_, hpool⟩
  have := State.refs_setEntry hsort i (some e') q
  simp only [h, Option.bind_some, hp] at this
  rw [State.portrait_setEntry, hu q]
  omega

theorem State.directorySound_rehang {s : State} (hs : s.directorySound) {i : Nat} {e : Entry} (o : Option Nat)
    (h : s.entry i = some e) :
    (((s.useDown e.portrait).useUp o).setEntry i (some { e with portrait := o })).directorySound := by
  rw [State.directorySound_iff] at hs ⊢
  obtain ⟨hsort, hu, hpool⟩ := hs
  refine ⟨by simpa using tabSorted_tabUpdate i (some { e with portrait := o }) hsort, fun q => ?_, by simpa using hpool⟩
  have hnew := State.refs_setEntry (s := (s.useDown e.portrait).useUp o) (by simpa using hsort) i
    (some { e with portrait := o }) q
  have hold := State.refs_setEntry hsort i none q
  simp only [State.entry_useUp, State.entry_useDown, h, Option.bind_some, Option.bind_none, State.refs_useUp,
    State.refs_useDown, refOf] at hnew hold
  rw [State.portrait_setEntry, State.portrait_useUp, State.portrait_useDown]
  simp only [hu q]
  simp at hold
  omega

theorem State.directorySound_swap {s : State} (hs : s.directorySound) {i j : Nat} {e f : Entry} (hne : i ≠ j)
    (he : s.entry i = some e) (hf : s.entry j = some f) :
    ((s.setEntry i (some { e with portrait := f.portrait })).setEntry j
      (some { f with portrait := e.portrait })).directorySound := by
  rw [State.directorySound_iff] at hs ⊢
  obtain ⟨hsort, hu, hpool⟩ := hs
  have hsort' : tabSorted (s.setEntry i (some { e with portrait := f.portrait })).entries = true :=
    State.tabSorted_setEntry hsort i _
  refine ⟨State.tabSorted_setEntry hsort' j _, fun q => ?_, hpool⟩
  have h1 := State.refs_setEntry hsort i (some { e with portrait := f.portrait }) q
  have h2 := State.refs_setEntry hsort' j (some { f with portrait := e.portrait }) q
  simp only [State.entry_setEntry, if_neg hne.symm, he, hf, Option.bind_some] at h1 h2
  rw [State.portrait_setEntry, State.portrait_setEntry, hu q]
  omega

/-! ### The pool (R67) -/

theorem Pool.counted_giveBack {pl : Pool} (h : pl.counted) (o : Owner) : (pl.giveBack o).counted := by
  obtain ⟨hs, hb, hc⟩ := h
  refine ⟨?_, fun e he => hb e (List.mem_of_mem_filter he), ?_⟩
  · rw [tabSorted_iff] at hs ⊢
    exact hs.filter _
  · have hl := List.length_eq_countP_add_countP (p := fun e : Nat × Owner => decide (e.2 = o)) (l := pl.owned)
    rw [List.countP_eq_length_filter, List.countP_eq_length_filter] at hl
    simp only [Pool.giveBack, Pool.blocksOf, List.length_map, decide_not, ne_eq, decide_eq_true_eq] at hl ⊢
    omega

theorem Pool.counted_pass {pl : Pool} (h : pl.counted) (a b : Owner) : (pl.pass a b).counted := by
  obtain ⟨hs, hb, hc⟩ := h
  refine ⟨?_, fun e he => ?_, by simpa [Pool.pass] using hc⟩
  · rw [tabSorted_iff] at hs ⊢
    exact List.pairwise_map.2 hs
  · obtain ⟨e', he', rfl⟩ := List.mem_map.1 he
    exact hb e' he'

/-- The blocks a reservation takes are the first free ones in order. -/
theorem freeBlocksFrom_eq {α : Type} (owned : List (Nat × α)) (fuel n : Nat) (hf : fuel ≤ Config.poolBlocks) :
    freeBlocksFrom owned fuel n =
      ((List.range' (Config.poolBlocks - fuel) fuel).filter (fun b => (tabFind owned b).isNone)).take n := by
  induction fuel generalizing n with
  | zero => simp [freeBlocksFrom]
  | succ fuel ih =>
    cases n with
    | zero => simp [freeBlocksFrom]
    | succ n =>
      have hnext : Config.poolBlocks - (fuel + 1) + 1 = Config.poolBlocks - fuel := by omega
      rw [freeBlocksFrom, List.range'_succ, hnext]
      cases hb : tabFind owned (Config.poolBlocks - (fuel + 1)) with
      | none => simp [hb, ih n (by omega)]
      | some o => simp [hb, ih (n + 1) (by omega)]

/-- A slot that a table lists is found. -/
theorem tabFind_isSome_iff {α : Type} (t : List (Nat × α)) (i : Nat) : (tabFind t i).isSome ↔ i ∈ t.map (·.1) := by
  induction t with
  | nil => simp [tabFind]
  | cons e t ih =>
    obtain ⟨j, b⟩ := e
    by_cases h : i = j <;> simp [tabFind, h, ih]

/-- The free blocks of a counted pool are as many as its free count says. -/
theorem Pool.length_free {pl : Pool} (h : pl.counted) :
    ((List.range Config.poolBlocks).filter (fun b => (tabFind pl.owned b).isNone)).length = pl.freeCount := by
  obtain ⟨hs, hb, hc⟩ := h
  have hnd : (pl.owned.map (·.1)).Nodup := by
    rw [tabSorted_iff] at hs
    exact (List.pairwise_map.2 hs).imp fun h => Nat.ne_of_lt h
  have hperm : ((List.range Config.poolBlocks).filter (fun b => (tabFind pl.owned b).isSome)).Perm (pl.owned.map (·.1)) := by
    refine (List.perm_ext_iff_of_nodup (List.nodup_range.filter _) hnd).2 fun b => ?_
    rw [List.mem_filter, tabFind_isSome_iff, List.mem_range, and_iff_right_iff_imp]
    intro hm
    obtain ⟨e, he, rfl⟩ := List.mem_map.1 hm
    exact hb e he
  have hl := List.length_eq_countP_add_countP (p := fun b => (tabFind pl.owned b).isSome) (l := List.range Config.poolBlocks)
  rw [List.countP_eq_length_filter, List.countP_eq_length_filter, hperm.length_eq, List.length_map, List.length_range] at hl
  simp only [Bool.not_eq_true, Option.isSome_eq_false_iff, Bool.decide_eq_true] at hl
  omega

/-- Inserting records at free slots lengthens a table by their number. -/
theorem foldl_tabInsert {α : Type} (a : α) (l : List Nat) (t : List (Nat × α)) (ht : tabSorted t = true) (hl : l.Nodup)
    (hn : ∀ b ∈ l, tabFind t b = none) :
    tabSorted (l.foldl (fun t b => tabInsert t b a) t) = true ∧
      (l.foldl (fun t b => tabInsert t b a) t).length = t.length + l.length ∧
      ∀ e ∈ l.foldl (fun t b => tabInsert t b a) t, e ∈ t ∨ e.1 ∈ l := by
  induction l generalizing t with
  | nil => exact ⟨ht, rfl, fun e he => .inl he⟩
  | cons b l ih =>
    obtain ⟨hb, hl⟩ := List.nodup_cons.1 hl
    have hlen : (tabInsert t b a).length = t.length + 1 := by
      have := tabCount_tabInsert (fun _ => true) ht b a
      rw [hn b (List.mem_cons_self ..)] at this
      simpa [tabCount, slotCount] using this
    obtain ⟨h1, h2, h3⟩ := ih (tabInsert t b a) (tabSorted_tabInsert b a ht) hl fun c hc => by
      rw [tabFind_tabInsert, if_neg fun e : c = b => hb (e ▸ hc)]
      exact hn c (List.mem_cons_of_mem _ hc)
    refine ⟨h1, by rw [List.foldl_cons, h2, hlen, List.length_cons]; omega, fun e he => ?_⟩
    rcases h3 e he with h | h
    · rcases mem_tabInsert h with rfl | h
      · exact .inr (List.mem_cons_self ..)
      · exact .inl h
    · exact .inr (List.mem_cons_of_mem _ h)

/-- A reservation within the free count keeps the pool counted (R67, R69). -/
theorem Pool.counted_reserve {pl : Pool} (h : pl.counted) {n : Nat} (hn : n ≤ pl.freeCount) : (pl.reserve n).counted := by
  have hfree : pl.lowestFree n =
      ((List.range Config.poolBlocks).filter (fun b => (tabFind pl.owned b).isNone)).take n := by
    rw [Pool.lowestFree, freeBlocksFrom_eq _ _ _ (Nat.le_refl _), Nat.sub_self, ← List.range_eq_range']
  have hlen : (pl.lowestFree n).length = n := by
    rw [hfree, List.length_take, Pool.length_free h]
    omega
  have hnd : (pl.lowestFree n).Nodup := hfree ▸ ((List.nodup_range.filter _).take)
  have hnone : ∀ b ∈ pl.lowestFree n, tabFind pl.owned b = none := fun b hb => by
    rw [hfree] at hb
    simpa using (List.mem_filter.1 (List.mem_of_mem_take hb)).2
  obtain ⟨hs, hb, hc⟩ := h
  obtain ⟨h1, h2, h3⟩ := foldl_tabInsert Owner.inbound _ _ hs hnd hnone
  refine ⟨h1, fun e he => ?_, ?_⟩
  · rcases h3 e he with h | h
    · exact hb e h
    · exact pl.lowestFree_lt n _ h
  · simp only [Pool.reserve, h2, hlen]
    omega

/-! ### The moves -/

theorem State.directorySound_pool {s : State} (hs : s.directorySound) {pl : Pool} (h : s.pool.counted → pl.counted) :
    ({ s with pool := pl } : State).directorySound := by
  rw [State.directorySound_iff] at hs ⊢
  obtain ⟨h1, h2, h3⟩ := hs
  exact ⟨h1, h2, h h3⟩

theorem State.directorySound_mapPortrait {s : State} (hs : s.directorySound) (i : Nat) (f : Portrait → Portrait)
    (hu : (f (s.portrait i)).useCount = (s.portrait i).useCount) : (s.mapPortrait i f).directorySound := by
  rw [State.directorySound_iff] at hs ⊢
  obtain ⟨h1, h2, h3⟩ := hs
  refine ⟨h1, fun q => ?_, h3⟩
  rw [State.portrait_mapPortrait]
  split
  · subst_vars; exact hu.trans (h2 _)
  · exact h2 q

theorem State.directorySound_promoteOne {s : State} (hs : s.directorySound) (i : Nat) : (s.promoteOne i).directorySound :=
  have hp := State.directorySound_pool hs fun h =>
    Pool.counted_pass (Pool.counted_giveBack h (.current i)) (.pending i) (.current i)
  State.directorySound_congr rfl rfl rfl rfl <| State.directorySound_mapPortrait hp i
    (fun r => { r with current := r.pendingImage, pendingImage := none }) rfl

theorem State.directorySound_staleAll {s : State} (hs : s.directorySound) (set : List Nat) : (s.staleAll set).directorySound := by
  obtain ⟨hp, hpool, -, -, -, -, he, -, -⟩ := s.staleAll_keeps set
  exact State.directorySound_congr he hp (by rw [hpool]) (by rw [hpool]) hs

theorem State.directorySound_examine {s : State} (hs : s.directorySound) (ports : List Nat) : (s.examine ports).directorySound :=
  State.directorySound_staleAll
    (List.foldlRecOn (motive := State.directorySound) _ _ hs fun _ ht i _ => State.directorySound_promoteOne ht i) _

theorem State.directorySound_removeSection {s : State} (hs : s.directorySound) (k : Nat) :
    (s.removeSection k).directorySound := by
  cases h : s.sec k with
  | none => rwa [State.removeSection_none h]
  | some c =>
    rw [State.removeSection_some h, State.removeSheets_eq]
    exact State.directorySound_congr rfl rfl rfl rfl (State.directorySound_freeEntries hs c.roster)

theorem State.directorySound_resetWith (breaks : PerPort Bool) (lines : PerPress Bool) :
    (State.resetWith breaks lines).directorySound := by
  refine ⟨rfl, fun i => rfl, rfl, fun e he => (nomatch he), ?_⟩
  simp [State.resetWith, Pool.reset]

/-- Every move keeps the directory and the pool sound (R61, R67). -/
theorem Move.keeps_directory {commits : Prop} {s t : State} (m : Move commits s t) (hs : s.directorySound) :
    t.directorySound := by
  have same : ∀ {u v : State}, v.tables = u.tables → u.directorySound → v.directorySound := fun h hu => by
    obtain ⟨-, -, -, he, -, -, hp, ho, hf⟩ := State.tables_eq_iff.1 h
    exact State.directorySound_congr he hp ho hf hu
  cases m with
  | frame h => exact same h hs
  | reset h => exact same h (State.directorySound_resetWith _ _)
  | pool pl h => exact State.directorySound_pool hs h
  | portrait i f hu hp => exact State.directorySound_mapPortrait hs i f hu
  | stale set h => exact State.directorySound_staleAll hs set
  | examine ports => exact State.directorySound_examine hs ports
  | removeSec k => exact State.directorySound_removeSection hs k
  | newEntry e h => exact State.directorySound_newEntry hs e h
  | @freeEntry i h => exact State.directorySound_freeEntry hs i
  | entry e' h hp _ _ => exact State.directorySound_setEntry hs e' h hp
  | rehang o h => exact State.directorySound_rehang hs o h
  | swap hne he hf => exact State.directorySound_swap hs hne he hf
  | join e' h hp hn => rw [State.joinRoster_eq]; exact State.directorySound_setEntry hs e' h hp
  | jobs | sheet | take | skip | book | sec | newSec | newSheet | removeSheet => exact hs

end Sys2Proof.Machine
end

section
/-! Every move that does not commit keeps the approval locks sound while no image is pending (R51, R86). -/

namespace Sys2Proof.Machine

open Sys2Proof

/-- No portrait holds a pending image, so that none can promote (R77). -/
def State.nonePending (s : State) : Prop := ∀ i, (s.portrait i).pendingImage = none

theorem State.locksSound_iff (s : State) : s.locksSound ↔ ∀ i sh, s.sheet i = some sh → sh.lockSound := Iff.rfl

theorem State.isLocked_eq_false {s : State} {i : Nat} : s.isLocked i = false ↔ ∀ sh, s.sheet i = some sh → sh.lock = false := by
  unfold State.isLocked
  cases s.sheet i <;> simp

theorem State.isInPress_eq_false {s : State} {i : Nat} :
    s.isInPress i = false ↔ ∀ sh, s.sheet i = some sh → sh.state ≠ .inPress := by
  unfold State.isInPress
  cases s.sheet i <;> simp

/-- With no image pending no portrait promotes, and examining does nothing (R77). -/
theorem State.examine_of_nonePending {s : State} (h : s.nonePending) (ports : List Nat) : s.examine ports = s := by
  have hr : ports.filter s.promotes = [] := List.filter_eq_nil_iff.2 fun i _ => by simp [State.promotes, h i]
  simp [State.examine, hr, State.staleAll]

/-- A sheet without a lock that is staled is sound under its lock (R18). -/
theorem Sheet.lockSound_staled {sh : Sheet} (hs : sh.lockSound) (h : sh.lock = false) : sh.staled.lockSound := by
  cases hj : sh.joins with
  | false => rwa [Sheet.staled_of_not_joins hj]
  | true =>
    refine ⟨fun hp => ?_, fun hl => ?_⟩
    · rw [(Sheet.staled_stale_iff sh).2 (.inr hj)] at hp
      cases hp
    · rw [sh.staled_keeps.2.1, h] at hl
      cases hl

/-- Staling sheets without locks keeps the locks sound, and locks no sheet. -/
theorem State.locksSound_staleAll {s : State} (hs : s.locksSound) {set : List Nat} (h : ∀ i ∈ set, s.isLocked i = false) :
    (s.staleAll set).locksSound := by
  refine (State.staleAll_induction (P := fun t => t.locksSound ∧ ∀ i ∈ set, t.isLocked i = false) set ?_ s ⟨hs, h⟩).1
  rintro t i hi ⟨ht, hl⟩
  have hsheet := t.sheet_staleOne i
  constructor
  · intro j x hx
    rw [hsheet] at hx
    split at hx
    · obtain ⟨sh, hsh, rfl⟩ := Option.map_eq_some_iff.1 hx
      exact Sheet.lockSound_staled (ht i sh hsh) (State.isLocked_eq_false.1 (hl i hi) sh hsh)
    · exact ht j x hx
  · refine fun j hj => State.isLocked_eq_false.2 fun x hx => ?_
    rw [hsheet] at hx
    split at hx
    · obtain ⟨sh, hsh, rfl⟩ := Option.map_eq_some_iff.1 hx
      rw [sh.staled_keeps.2.1]
      exact State.isLocked_eq_false.1 (hl i hi) sh hsh
    · exact State.isLocked_eq_false.1 (hl j hj) x hx

/-- The locks stay sound where every sheet left is an old one, or sound by itself. -/
theorem State.locksSound_of {s t : State} (hs : s.locksSound) (h : ∀ i sh, t.sheet i = some sh → s.sheet i = some sh ∨ sh.lockSound) :
    t.locksSound := fun i sh hi => (h i sh hi).elim (hs i sh) id

theorem State.locksSound_setSheet {s : State} (hs : s.locksSound) (i : Nat) {sh : Sheet} (h : sh.lockSound) :
    (s.setSheet i (some sh)).locksSound :=
  State.locksSound_of hs fun j x hx => by
    rw [State.sheet_setSheet] at hx
    split at hx
    · exact .inr (Option.some.inj hx ▸ h)
    · exact .inl hx

/-- A STALE sheet has no lock, so it may leave STALE. -/
theorem Sheet.lockSound_of_stale {sh : Sheet} (hs : sh.lockSound) (h : sh.state = .stale) :
    ({ sh with state := .placing } : Sheet).lockSound := by
  refine ⟨fun e => (nomatch e), fun hl => ?_⟩
  obtain ⟨-, h' | h'⟩ := hs.2 hl <;> simp [h] at h'

theorem State.locksSound_removeSection {s : State} (hs : s.locksSound) (k : Nat) : (s.removeSection k).locksSound := by
  cases h : s.sec k with
  | none => rwa [State.removeSection_none h]
  | some c =>
    refine State.locksSound_of hs fun j x hx => .inl ?_
    rw [State.sheet_removeSection h] at hx
    split at hx
    · cases hx
    · exact hx

/-- Every move that does not commit keeps the locks sound on sound books with no image pending (R51). -/
theorem Move.keeps_locks {s t : State} (m : Move False s t) (hb : s.booksSound) (hp : s.nonePending) (hs : s.locksSound) :
    t.locksSound := by
  obtain ⟨-, -, -, ⟨-, hq⟩, hj⟩ := (State.booksSound_iff s).1 hb
  cases m with
  | frame h =>
    obtain ⟨-, -, hsh, -⟩ := State.tables_eq_iff.1 h
    exact State.locksSound_of hs fun i sh hi => .inl (by unfold State.sheet at *; rwa [← hsh])
  | reset h =>
    obtain ⟨-, -, hsh, -⟩ := State.tables_eq_iff.1 h
    intro i sh hi
    unfold State.sheet at hi
    rw [hsh] at hi
    cases hi
  | sheet sh' h hm => exact State.locksSound_setSheet hs _ ((hm hj).locks (hs _ _ h))
  | @take i q sh hqe h =>
    obtain ⟨sh', h', hst⟩ := (hq i).1 (hqe ▸ List.mem_cons_self ..)
    obtain rfl : sh = sh' := Option.some.inj (h ▸ h')
    exact State.locksSound_setSheet hs i (Sheet.lockSound_of_stale (hs i _ h) hst)
  | stale set h => exact State.locksSound_staleAll hs (h.resolve_left id)
  | examine ports => rwa [State.examine_of_nonePending hp]
  | newSheet h hc hi => exact State.locksSound_setSheet hs _ ⟨fun e => (nomatch e), fun e => nomatch e⟩
  | removeSheet i =>
    refine State.locksSound_of hs fun j x hx => .inl ?_
    rw [State.sheet_removeSheet] at hx
    split at hx
    · cases hx
    · exact hx
  | removeSec k => exact State.locksSound_removeSection hs k
  | newEntry e h => rw [State.useUp_eq, State.joinRoster_eq]; exact hs
  | freeEntry h => rw [State.freeEntry_eq]; exact hs
  | rehang o h => rw [State.useUp_eq, State.useDown_eq]; exact hs
  | join e' h hp hn => rw [State.joinRoster_eq]; exact hs
  | jobs | pool | portrait | skip | book | sec | newSec | entry | swap => exact hs

/-- Freeing entries moves use counts alone in the directory. -/
theorem State.pending_freeEntry (s : State) (i q : Nat) :
    ((s.freeEntry i).portrait q).pendingImage = (s.portrait q).pendingImage := by
  unfold State.freeEntry
  split
  · rfl
  · rw [State.portrait_setEntry, State.portrait_useDown]

theorem State.nonePending_removeSection {s : State} (h : s.nonePending) (k : Nat) : (s.removeSection k).nonePending := by
  cases hk : s.sec k with
  | none => rwa [State.removeSection_none hk]
  | some c =>
    rw [State.removeSection_some hk, State.removeSheets_eq]
    exact List.foldlRecOn (motive := State.nonePending) c.roster State.freeEntry h
      fun t ht i _ q => (State.pending_freeEntry t i q).trans (ht q)

/-- Every move that does not commit leaves no image pending where none was. -/
theorem Move.keeps_nonePending {s t : State} (m : Move False s t) (h : s.nonePending) : t.nonePending := by
  cases m with
  | frame ht =>
    obtain ⟨-, -, -, -, -, -, hp, -⟩ := State.tables_eq_iff.1 ht
    intro i
    unfold State.portrait
    rw [hp]
    exact h i
  | reset ht =>
    obtain ⟨-, -, -, -, -, -, hp, -⟩ := State.tables_eq_iff.1 ht
    intro i
    unfold State.portrait
    rw [hp]
    rfl
  | portrait i f hu hp =>
    intro q
    rw [State.portrait_mapPortrait]
    split
    · subst_vars; exact hp.resolve_left id (h _)
    · exact h q
  | stale set _ =>
    intro i
    unfold State.portrait
    rw [(s.staleAll_keeps set).1]
    exact h i
  | examine ports => rwa [State.examine_of_nonePending h]
  | removeSec k => exact State.nonePending_removeSection h k
  | newEntry e _ => intro q; rw [State.portrait_useUp, State.portrait_joinRoster]; exact h q
  | freeEntry _ => exact fun q => (State.pending_freeEntry s _ q).trans (h q)
  | rehang o _ => intro q; rw [State.portrait_setEntry, State.portrait_useUp, State.portrait_useDown]; exact h q
  | join _ _ _ _ => rw [State.joinRoster_eq]; exact h
  | jobs | pool | sheet | take | skip | book | sec | newSec | newSheet | removeSheet | entry | swap => exact h

end Sys2Proof.Machine
end

section
/-! The change guard over the folio order, and the moves that the book and roster requests are made of. -/

namespace Sys2Proof.Machine

open Sys2Proof

/-! ### The folio order and the guard (R16, R18, R46, R47) -/

theorem State.mem_bookSheets {s : State} {b : Book} {i : Nat} :
    i ∈ s.bookSheets b ↔ ∃ k ∈ b.sections, ∃ c, s.sec k = some c ∧ i ∈ c.sheets := by
  simp only [State.bookSheets, List.mem_flatMap]
  refine exists_congr fun k => and_congr_right fun _ => ?_
  cases s.sec k <;> simp

theorem State.mem_folioOrder {s : State} {i : Nat} :
    i ∈ s.folioOrder ↔ ∃ n < Config.bookSlots, ∃ b, s.book n = some b ∧ i ∈ s.bookSheets b := by
  simp only [State.folioOrder, List.mem_flatMap, List.mem_range]
  refine exists_congr fun n => and_congr_right fun _ => ?_
  cases s.book n <;> simp

/-- The first sheet of a set, in folio order, that meets a condition. -/
theorem find_in_set {l set : List Nat} {f : Nat → Bool} {before after : List Nat} {i : Nat} (hl : l = before ++ i :: after)
    (hi : i ∈ set) (hf : f i = true) (hb : ∀ x ∈ before, x ∈ set → f x = false) :
    (l.filter set.contains).find? f = some i := by
  rw [hl, List.filter_append, List.find?_append, List.filter_cons_of_pos (by simpa using hi), List.find?_cons_of_pos hf]
  rw [List.find?_eq_none.2 fun x hx => ?_]
  · rfl
  · rw [List.mem_filter] at hx
    simp [hb x hx.1 (by simpa using hx.2)]

theorem find_in_set_none {l set : List Nat} {f : Nat → Bool} :
    (l.filter set.contains).find? f = none ↔ ∀ x ∈ l, x ∈ set → f x = false := by
  simp [List.find?_eq_none]

/-- The guard accepts exactly when no sheet of the set that stands in the folio order is locked or IN_PRESS (R46). -/
theorem guard_eq_none {g : State} {set : List Nat} :
    guard g set = none ↔ ∀ i ∈ set, i ∈ g.folioOrder → g.isLocked i = false ∧ g.isInPress i = false := by
  unfold guard
  cases hl : (g.folioOrder.filter set.contains).find? g.isLocked with
  | some i =>
    have hi := List.mem_filter.1 (List.mem_of_find?_eq_some hl)
    have hk := List.find?_some hl
    simp only [reduceCtorEq, false_iff]
    intro h
    have := (h i (by simpa using hi.2) hi.1).1
    simp [hk] at this
  | none =>
    rw [find_in_set_none] at hl
    cases hp : (g.folioOrder.filter set.contains).find? g.isInPress with
    | some i =>
      have hi := List.mem_filter.1 (List.mem_of_find?_eq_some hp)
      have hk := List.find?_some hp
      simp only [reduceCtorEq, false_iff]
      intro h
      have := (h i (by simpa using hi.2) hi.1).2
      simp [hk] at this
    | none =>
      rw [find_in_set_none] at hp
      simp only [true_iff]
      exact fun i hs hf => ⟨hl i hf hs, hp i hf hs⟩

theorem mem_changeSet {before after : State} {i : Nat} :
    i ∈ changeSet before after ↔ i ∈ after.folioOrder ∧ before.inputs i ≠ after.inputs i := by
  simp [changeSet]

/-- A change brings no locked sheet into the folio order: every book, every section and every lock after it stood before it, but
for a sheet in a slot that was free. -/
structure State.Within (s t : State) : Prop where
  book : ∀ n b', t.book n = some b' → ∃ b, s.book n = some b ∧ ∀ k ∈ b'.sections, k ∈ b.sections
  sec : ∀ k c', t.sec k = some c' → ∃ c, s.sec k = some c ∧ ∀ i ∈ c'.sheets, i ∈ c.sheets ∨ s.sheet i = none
  lock : ∀ i sh', t.sheet i = some sh' → sh'.lock = true → ∃ sh, s.sheet i = some sh ∧ sh.lock = true

/-- Under such a change a set that passes the guard holds no locked sheet (R46). -/
theorem State.Within.unlocked {s t : State} (h : s.Within t) (hg : guard s (changeSet s t) = none) :
    ∀ i ∈ changeSet s t, t.isLocked i = false := by
  intro i hi
  refine State.isLocked_eq_false.2 fun sh' hsh' => Bool.eq_false_iff.2 fun hl => ?_
  obtain ⟨sh, hsh, hlock⟩ := h.lock i sh' hsh' hl
  obtain ⟨n, hn, b', hb', hib⟩ := State.mem_folioOrder.1 (mem_changeSet.1 hi).1
  obtain ⟨k, hk, c', hc', hic⟩ := State.mem_bookSheets.1 hib
  obtain ⟨b, hb, hsub⟩ := h.book n b' hb'
  obtain ⟨c, hc, hsheets⟩ := h.sec k c' hc'
  have hmem : i ∈ c.sheets := (hsheets i hic).resolve_right (by simp [hsh])
  have hfolio : i ∈ s.folioOrder :=
    State.mem_folioOrder.2 ⟨n, hn, b, hb, State.mem_bookSheets.2 ⟨k, hsub k hk, c, hc, hmem⟩⟩
  simp [State.isLocked_eq_false.1 (guard_eq_none.1 hg i hi hfolio).1 sh hsh] at hlock

/-- A change that leaves the books, the sheets of every section and every sheet. -/
theorem State.Within.of_rosters {s t : State} (hb : ∀ n, t.book n = s.book n)
    (hc : ∀ k c', t.sec k = some c' → ∃ c, s.sec k = some c ∧ c'.sheets = c.sheets) (hs : ∀ i, t.sheet i = s.sheet i) :
    s.Within t where
  book n b' h := ⟨b', (hb n) ▸ h, fun _ => id⟩
  sec k c' h := by
    obtain ⟨c, hk, hcs⟩ := hc k c' h
    exact ⟨c, hk, fun i hi => .inl (hcs ▸ hi)⟩
  lock i sh h hl := ⟨sh, (hs i) ▸ h, hl⟩

/-- A guarded change is made of moves: the change itself, and the staling of its set (R33). -/
theorem Moves.applyChange {commits : Prop} {s t : State} (hm : Moves commits s t) (hw : s.Within t) (ok : Answer) :
    Moves commits s (applyChange s t ok).1 := by
  unfold Machine.applyChange
  cases hg : guard s (changeSet s t) with
  | some r => exact .refl s
  | none => exact hm.snoc (.stale _ (.inr (hw.unlocked hg)))

/-! ### Books, sections and sheets -/

section
variable {commits : Prop}

theorem Moves.openBook (s : State) (i : Nat) (label : Str) (folio : Nat) : Moves commits s (openBook i label folio s).1 := by
  unfold Machine.openBook
  split
  · exact .refl s
  split
  · exact .refl s
  split
  · exact .refl s
  · rename_i hb _
    exact (Move.book i _ fun b k h => by simp [h] at hb).moves

theorem Moves.setBook (s : State) (i : Nat) (label : Str) (folio absent withheld tolerance hold : Nat) :
    Moves commits s (setBook i label folio absent withheld tolerance hold s).1 := by
  unfold Machine.setBook
  split
  · exact .refl s
  split
  · exact .refl s
  rename_i b hb
  split
  · split
    · refine Moves.applyChange (Move.book i _ fun b' k h hk _ => ?_).moves ⟨fun n b' h => ?_, fun k c h => ?_, fun i sh h hl => ?_⟩ _
      · obtain rfl : b = b' := Option.some.inj (hb ▸ h)
        exact ⟨_, rfl, hk⟩
      · rw [State.book_setBook] at h
        split at h
        · subst_vars
          obtain rfl := Option.some.inj h
          exact ⟨b, hb, fun _ => id⟩
        · exact ⟨b', h, fun _ => id⟩
      · exact ⟨c, h, fun _ => .inl⟩
      · exact ⟨sh, h, hl⟩
    · exact .refl s
  · exact .refl s

/-- The sections of a list are gone once each is removed. -/
theorem State.sec_removeSections (s : State) (l : List Nat) {k : Nat} (h : k ∈ l ∨ s.sec k = none) :
    (l.foldl State.removeSection s).sec k = none := by
  induction l generalizing s with
  | nil => simpa using h
  | cons j l ih =>
    refine ih _ ?_
    have hj : (s.removeSection j).sec k = none ∨ (k ≠ j ∧ (s.removeSection j).sec k = s.sec k) := by
      cases hc : s.sec j with
      | none =>
        rw [State.removeSection_none hc]
        by_cases e : k = j
        · exact .inl (e ▸ hc)
        · exact .inr ⟨e, rfl⟩
      | some c =>
        rw [State.sec_removeSection hc]
        by_cases e : k = j
        · exact .inl (if_pos e)
        · exact .inr ⟨e, if_neg e⟩
    rcases hj with hj | ⟨hne, hj⟩
    · exact .inr hj
    · rcases h with h | h
      · exact .inl ((List.mem_cons.1 h).resolve_left hne)
      · exact .inr (hj.trans h)

theorem State.book_removeSections (s : State) (l : List Nat) (n : Nat) :
    (l.foldl State.removeSection s).book n = s.book n :=
  List.foldlRecOn (motive := fun t => t.book n = s.book n) _ _ rfl fun t ht k _ => (State.book_removeSection t k n).trans ht

theorem Moves.closeBook (s : State) (i : Nat) : Moves commits s (closeBook i s).1 := by
  unfold Machine.closeBook
  split
  · exact .refl s
  split
  · exact .refl s
  rename_i b hb
  split
  · exact .refl s
  · refine (Moves.foldl (fun t k => (Move.removeSec k).moves) b.sections s).snoc (.book i none fun b' k h hk hsec => ?_)
    rw [State.book_removeSections, hb] at h
    obtain rfl := Option.some.inj h
    simp [State.sec_removeSections s b.sections (.inl hk)] at hsec

theorem Moves.addSection (s : State) (i key : Nat) (label : Str) : Moves commits s (addSection i key label s).1 := by
  unfold Machine.addSection
  split
  · exact .refl s
  split
  · exact .refl s
  rename_i b hb
  split
  · exact .refl s
  split
  · exact .refl s
  split
  · exact .refl s
  split
  · exact .refl s
  · rename_i k hk
    have hfree : s.sec k = none := (tabFind_of_tabFree hk).2
    have hbook : Move commits s (s.setBook i (some { b with sections := s.placeSection k key b.sections })) :=
      .book i _ fun b' j h hj _ => by
        obtain rfl : b = b' := Option.some.inj (hb ▸ h)
        exact ⟨_, rfl, (mem_placeSection ..).2 (.inr hj)⟩
    exact hbook.moves.snoc (.newSec { book := i, key := key, label := label.take 24, roster := [], sheets := [] } hfree
      (by rw [State.book_setBook, if_pos rfl]) ((mem_placeSection ..).2 (.inl rfl)) rfl)

theorem Moves.setSection {s : State} (hl : ¬s.sectionsListed → commits) (k : Nat) (label : Str) (key : Nat) : Moves commits s (setSection k label key s).1 := by
  unfold Machine.setSection
  split
  · exact .refl s
  rename_i c hc
  split
  · exact .refl s
  rename_i b hb
  split
  · exact .refl s
  split
  · exact .refl s
  have hmem : ∀ j, j ∈ s.placeSection k key (rosterRemove b.sections k) ↔ j = k ∨ j ∈ b.sections := fun j => by
    rw [mem_placeSection, mem_rosterRemove]
    by_cases h : j = k <;> simp [h]
  have hm : Moves commits s ((s.setSec k (some { c with label := label.take 24, key := key })).setBook c.book
      (some { b with sections := s.placeSection k key (rosterRemove b.sections k) })) := by
    refine (Move.sec { c with label := label.take 24, key := key } hc rfl (List.Sublist.refl _) fun _ h _ => h).moves.snoc
      (.book c.book _ fun b' j h hj _ => ?_)
    obtain rfl : b = b' := Option.some.inj (hb ▸ h)
    exact ⟨_, rfl, (hmem j).2 (.inr hj)⟩
  by_cases hlist : s.sectionsListed
  · refine Moves.applyChange hm ⟨fun n b' h => ?_, fun j c' h => ?_, fun i sh h hl => ⟨sh, h, hl⟩⟩ _
    · rw [State.book_setBook] at h
      split at h
      · subst_vars
        obtain rfl := Option.some.inj h
        refine ⟨b, hb, fun j hj => ?_⟩
        obtain rfl | hj := (hmem j).1 hj
        · obtain ⟨b', hb', hk⟩ := hlist j c hc
          exact Option.some.inj (hb ▸ hb') ▸ hk
        · exact hj
      · exact ⟨b', h, fun _ => id⟩
    · rw [State.sec_setBook, State.sec_setSec] at h
      split at h
      · subst_vars
        obtain rfl := Option.some.inj h
        exact ⟨c, hc, fun _ => .inl⟩
      · exact ⟨c', h, fun _ => .inl⟩
  · unfold Machine.applyChange
    split
    · exact .refl s
    · exact hm.snoc (.stale _ (.inl (hl hlist)))

theorem Moves.dropSection (s : State) (k : Nat) : Moves commits s (dropSection k s).1 := by
  unfold Machine.dropSection
  split
  · exact .refl s
  rename_i c hc
  split
  · exact .refl s
  rename_i b hb
  split
  · exact .refl s
  refine Moves.applyChange ((Move.removeSec k).moves.snoc (.book c.book _ fun b' j h hj hs => ?_)) ?_ _
  · rw [State.book_removeSection] at h
    obtain rfl : b = b' := Option.some.inj (hb ▸ h)
    refine ⟨_, rfl, mem_rosterRemove.2 ⟨hj, fun e => ?_⟩⟩
    simp [e, State.sec_removeSection hc] at hs
  · refine ⟨fun n b' h => ?_, fun j c' h => ?_, fun i sh h hl => ⟨sh, ?_, hl⟩⟩
    · rw [State.book_setBook] at h
      split at h
      · subst_vars
        obtain rfl := Option.some.inj h
        exact ⟨b, hb, fun j hj => (mem_rosterRemove.1 hj).1⟩
      · exact ⟨b', by simpa using h, fun _ => id⟩
    · rw [State.sec_setBook, State.sec_removeSection hc] at h
      split at h
      · cases h
      · exact ⟨c', h, fun _ => .inl⟩
    · rw [State.sheet_setBook, State.sheet_removeSection hc] at h
      split at h
      · cases h
      · exact h

theorem Moves.addSheet (s : State) (k position : Nat) : Moves commits s (addSheet k position s).1 := by
  unfold Machine.addSheet
  split
  · exact .refl s
  rename_i c hc
  split
  · exact .refl s
  split
  · exact .refl s
  split
  · exact .refl s
  rename_i i hi
  have hfree : s.sheet i = none := (tabFind_of_tabFree hi).2
  have hsec : Move commits s (s.setSec k (some { c with sheets := insertAt c.sheets position i })) :=
    .sec _ hc rfl (List.Sublist.refl _) fun j hj _ => (mem_insertAt ..).2 (.inr hj)
  refine Moves.applyChange ?_ ?_ _
  · exact (hsec.moves.thenFrame (State.bumpEpoch_tables _ i)).snoc (.newSheet (c := { c with sheets := insertAt c.sheets position i })
      hfree (by rw [State.sec_bumpEpoch, State.sec_setSec, if_pos rfl]) ((mem_insertAt ..).2 (.inl rfl)))
  · refine ⟨fun n b' h => ⟨b', h, fun _ => id⟩, fun j c' h => ?_, fun j sh h hl => ?_⟩
    · rw [State.sec_setSec] at h
      split at h
      · subst_vars
        obtain rfl := Option.some.inj h
        refine ⟨c, hc, fun j hj => ?_⟩
        obtain rfl | hj := (mem_insertAt ..).1 hj
        · exact .inr hfree
        · exact .inl hj
      · exact ⟨c', h, fun _ => .inl⟩
    · rw [State.sheet_setSec, State.sheet_setSheet] at h
      split at h
      · obtain rfl := Option.some.inj h
        cases hl
      · exact ⟨sh, h, hl⟩

theorem Moves.dropSheet (s : State) (i : Nat) : Moves commits s (dropSheet i s).1 := by
  unfold Machine.dropSheet
  split
  · exact .refl s
  rename_i sh hsh
  split
  · exact .refl s
  rename_i c hc
  split
  · exact .refl s
  refine Moves.applyChange ((Move.removeSheet i).moves.snoc
    (.sec { c with sheets := rosterRemove c.sheets i } hc rfl (List.Sublist.refl _) fun j hj hs => ?_)) ?_ _
  · refine mem_rosterRemove.2 ⟨hj, fun e => ?_⟩
    simp [e, State.sheet_removeSheet] at hs
  · refine ⟨fun n b' h => ⟨b', h, fun _ => id⟩, fun j c' h => ?_, fun j x h hl => ?_⟩
    · rw [State.sec_setSec] at h
      split at h
      · subst_vars
        obtain rfl := Option.some.inj h
        exact ⟨c, hc, fun j hj => .inl (mem_rosterRemove.1 hj).1⟩
      · exact ⟨c', h, fun _ => .inl⟩
    · rw [State.sheet_setSec, State.sheet_removeSheet] at h
      split at h
      · cases h
      · exact ⟨x, h, hl⟩

theorem Moves.setLayout (s : State) (i : Nat) (l : Layout) (flagsFit : Bool) :
    Moves commits s (setLayout i l flagsFit s).1 := by
  unfold Machine.setLayout
  split
  · exact .refl s
  split
  · exact .refl s
  rename_i sh hsh
  split
  · split <;> exact .refl s
  refine Moves.applyChange
    (Move.sheet { sh with layout := some l } hsh fun _ => ⟨rfl, fun _ _ => rfl, Iff.rfl, id⟩).moves ?_ _
  refine ⟨fun n b' h => ⟨b', h, fun _ => id⟩, fun j c' h => ⟨c', h, fun _ => .inl⟩, fun j x h hl => ?_⟩
  rw [State.sheet_setSheet] at h
  split at h
  · subst_vars
    obtain rfl := Option.some.inj h
    exact ⟨sh, hsh, hl⟩
  · exact ⟨x, h, hl⟩

/-! ### Rosters -/

/-- An entry leaves its section's roster, and stands in it no longer. -/
theorem Moves.leaveRoster (s : State) (k i : Nat) : Moves commits s (s.leaveRoster k i) := by
  unfold State.leaveRoster
  split
  · exact .refl s
  · rename_i c hc
    exact (Move.sec { c with roster := rosterRemove c.roster i } hc rfl List.filter_sublist fun _ h _ => h).moves

theorem State.unlisted_leaveRoster {s : State} {i : Nat} {e : Entry} (h : s.entry i = some e) :
    (s.leaveRoster e.section_ i).unlisted i := by
  intro e' c he hc
  rw [State.entry_leaveRoster, h] at he
  obtain rfl := Option.some.inj he
  rw [State.sec_leaveRoster, if_pos rfl] at hc
  obtain ⟨d, -, rfl⟩ := Option.map_eq_some_iff.1 hc
  exact fun hi => (mem_rosterRemove.1 hi).2 rfl

/-- A change of rosters brings no sheet into the folio order. -/
theorem State.within_of_sec {s t : State} (hb : ∀ n, t.book n = s.book n) (hs : ∀ i, t.sheet i = s.sheet i)
    (hc : ∀ k, ∃ r : Section → List Nat, t.sec k = (s.sec k).map fun c => { c with roster := r c }) : s.Within t := by
  refine .of_rosters hb (fun k c' h => ?_) hs
  obtain ⟨r, hr⟩ := hc k
  rw [hr] at h
  obtain ⟨c, hk, rfl⟩ := Option.map_eq_some_iff.1 h
  exact ⟨c, hk, rfl⟩

/-- A section after a roster is left or joined is what it was but for its roster. -/
theorem State.sec_joinRoster_roster (s : State) (k i j : Nat) (e : Entry) :
    ∃ r : Section → List Nat, (s.joinRoster k i e).sec j = (s.sec j).map fun c => { c with roster := r c } := by
  rw [State.sec_joinRoster]
  split
  · exact ⟨fun c => rosterInsert s.entry i e c.roster, by subst_vars; rfl⟩
  · exact ⟨fun c => c.roster, by simp⟩

theorem State.sec_leaveRoster_roster (s : State) (k i j : Nat) :
    ∃ r : Section → List Nat, (s.leaveRoster k i).sec j = (s.sec j).map fun c => { c with roster := r c } := by
  rw [State.sec_leaveRoster]
  split
  · exact ⟨fun c => rosterRemove c.roster i, by subst_vars; rfl⟩
  · exact ⟨fun c => c.roster, by simp⟩

theorem Moves.addEntry (s : State) (k : Nat) (surname given : Str) (role status : Nat) (portrait : Option Nat) :
    Moves commits s (addEntry k surname given role status portrait s).1 := by
  unfold Machine.addEntry
  split
  · exact .refl s
  split
  · split
    · exact .refl s
    split
    · exact .refl s
    split
    · exact .refl s
    split
    · exact .refl s
    rename_i i hi
    refine Moves.applyChange (Move.newEntry _ (tabFind_of_tabFree hi).2).moves (State.within_of_sec (fun n => by simp) (fun j => by simp)
      fun j => ?_) _
    rw [State.sec_useUp]
    exact State.sec_joinRoster_roster (s.setEntry i _) k i j _
  · exact .refl s

theorem Moves.dropEntry (s : State) (i : Nat) : Moves commits s (dropEntry i s).1 := by
  unfold Machine.dropEntry
  split
  · exact .refl s
  rename_i e he
  refine Moves.applyChange ((Moves.leaveRoster s e.section_ i).snoc (.freeEntry (State.unlisted_leaveRoster he)))
    (State.within_of_sec (fun n => by simp) (fun j => by simp) fun j => ?_) _
  simpa using State.sec_leaveRoster_roster s e.section_ i j

/-- An entry leaves its roster, moves, and joins its section's roster: one guarded change (R28). -/
theorem Moves.replace {s : State} {i : Nat} {e : Entry} (e' : Entry) (h : s.entry i = some e) (hp : e'.portrait = e.portrait)
    (ok : Answer) :
    Moves commits s
      (Machine.applyChange s (((s.leaveRoster e.section_ i).setEntry i (some e')).joinRoster e'.section_ i e') ok).1 := by
  refine Moves.applyChange ((Moves.leaveRoster s e.section_ i).snoc
    (.join e' ((State.entry_leaveRoster ..).trans h) hp (State.unlisted_leaveRoster h)))
    (State.within_of_sec (fun n => by simp) (fun j => by simp) fun j => ?_) _
  obtain ⟨r1, h1⟩ := State.sec_leaveRoster_roster s e.section_ i j
  obtain ⟨r2, h2⟩ := State.sec_joinRoster_roster ((s.leaveRoster e.section_ i).setEntry i (some e')) e'.section_ i j e'
  rw [h2, State.sec_setEntry, h1, Option.map_map]
  exact ⟨_, rfl⟩

theorem Moves.editName (s : State) (i : Nat) (surname given : Str) : Moves commits s (editName i surname given s).1 := by
  unfold Machine.editName
  split
  · exact .refl s
  split
  · exact .refl s
  split
  · exact .refl s
  · rename_i e he _ _
    exact Moves.replace { e with surname := storedName surname, given := storedName given } he rfl _

theorem Moves.editRole (s : State) (i role : Nat) : Moves commits s (editRole i role s).1 := by
  unfold Machine.editRole
  split
  · exact .refl s
  rename_i e he
  split
  · exact .refl s
  rename_i r _
  split
  · exact .refl s
  · exact Moves.replace { e with role := r } he rfl _

theorem Moves.editStatus (s : State) (i status : Nat) : Moves commits s (editStatus i status s).1 := by
  unfold Machine.editStatus
  split
  · exact .refl s
  rename_i e he
  split
  · exact .refl s
  rename_i st _
  split
  · exact .refl s
  · exact Moves.applyChange (Move.entry { e with status := st } he rfl rfl rfl).moves
      (.of_rosters (fun _ => rfl) (fun k c h => ⟨c, h, rfl⟩) fun _ => rfl) _

theorem Moves.editPortrait (s : State) (i : Nat) (portrait : Option Nat) : Moves commits s (editPortrait i portrait s).1 := by
  unfold Machine.editPortrait
  split
  · exact .refl s
  split
  · exact .refl s
  split
  · exact .refl s
  · exact Moves.applyChange (Move.rehang portrait ‹_›).moves
      (.of_rosters (fun _ => by simp) (fun k c h => ⟨c, by simpa using h, rfl⟩) fun _ => by simp) _

theorem Moves.moveEntry (s : State) (i k : Nat) : Moves commits s (moveEntry i k s).1 := by
  unfold Machine.moveEntry
  split
  · rename_i e target he _
    split
    · exact .refl s
    split
    · exact .refl s
    split
    · exact .refl s
    split
    · exact .refl s
    · exact Moves.replace { e with section_ := k } he rfl _
  · exact .refl s

theorem Moves.swapPortraits (s : State) (i j : Nat) : Moves commits s (swapPortraits i j s).1 := by
  unfold Machine.swapPortraits
  split
  · rename_i e f he hf
    split
    · exact .refl s
    rename_i hne
    split
    · exact .refl s
    · exact Moves.applyChange (Move.swap hne he hf).moves
        (.of_rosters (fun _ => rfl) (fun k c h => ⟨c, h, rfl⟩) fun _ => rfl) _
  · exact .refl s

end

end Sys2Proof.Machine
end

section
/-! The moves that the portrait requests, the image port, the placement unit, the job table and the presses are made of. -/

namespace Sys2Proof.Machine

open Sys2Proof

/-! ### Approval and portraits -/

section
variable {commits : Prop}

/-- Counts of portraits move one by one. -/
theorem Moves.mapPortraits {f : Portrait → Portrait} (hu : ∀ r, (f r).useCount = r.useCount)
    (hp : ∀ r, (f r).pendingImage = r.pendingImage) (l : List Nat) (s : State) :
    Moves commits s (l.foldl (fun t p => t.mapPortrait p f) s) :=
  Moves.foldl (fun _ p => (Move.portrait p f (hu _) (.inr fun h => (hp _).trans h)).moves) l s

theorem Moves.approveSheet (s : State) (i epoch : Nat) : Moves commits s (approveSheet i epoch s).1 := by
  unfold Machine.approveSheet
  split
  · exact .refl s
  rename_i sh hsh
  split
  · exact .refl s
  rename_i hst
  split
  · exact .refl s
  split
  · exact .refl s
  · have hst' : sh.state = .placed := not_not.1 hst
    have hm : Move commits s (s.setSheet i (some { sh with lock := true })) :=
      .sheet _ hsh fun _ => ⟨rfl, id, Iff.rfl, fun hl => ⟨hl.1, fun _ => ⟨hl.1 hst', .inl hst'⟩⟩⟩
    exact hm.moves.trans (Moves.mapPortraits (by intro _; rfl) (by intro _; rfl) _ _)

theorem Moves.unlockSheet (s : State) (i : Nat) : Moves commits s (unlockSheet i s).1 := by
  unfold Machine.unlockSheet
  split
  · exact .refl s
  rename_i sh hsh
  split
  · exact .refl s
  · have hm : Move commits s (s.setSheet i (some { sh with lock := false })) :=
      .sheet _ hsh fun _ => ⟨rfl, id, Iff.rfl, fun hl => ⟨hl.1, fun h => nomatch h⟩⟩
    exact (hm.moves.trans (Moves.mapPortraits (by intro _; rfl) (by intro _; rfl) _ _)).snoc (.examine _)

theorem Moves.reservePortrait (s : State) (i : Nat) : Moves commits s (reservePortrait i s).1 := by
  unfold Machine.reservePortrait
  split
  · exact .refl s
  split
  · exact .refl s
  · exact (Move.portrait i (fun q => { q with state := .empty, current := none, pendingImage := none }) rfl
      (.inr fun _ => rfl)).moves

/-- An owner's blocks are given back. -/
theorem Moves.giveBack (s : State) (o : Owner) : Moves commits s { s with pool := s.pool.giveBack o } :=
  (Move.pool _ fun h => Pool.counted_giveBack h o).moves

theorem Moves.releasePortrait (s : State) (i : Nat) : Moves commits s (releasePortrait i s).1 := by
  unfold Machine.releasePortrait
  split
  · exact .refl s
  split
  · exact .refl s
  split
  · exact .refl s
  · exact (Moves.giveBack s (.current i)).snoc
      (.portrait i (fun q => { q with state := .free, current := none, pendingImage := none }) rfl (.inr fun _ => rfl))

theorem Moves.setFaceBox (s : State) (i : Nat) (face : FaceBox) : Moves commits s (setFaceBox i face s).1 := by
  unfold Machine.setFaceBox
  split
  · exact .refl s
  split
  · exact .refl s
  split
  · exact .refl s
  split
  · exact .refl s
  split
  · exact .refl s
  rename_i m hm _ _ _
  split
  · exact .refl s
  rename_i hg
  have hp : Move commits s (s.mapPortrait i fun r => { r with current := some { m with face := face } }) :=
    .portrait i _ rfl (.inr id)
  refine hp.moves.snoc (.stale _ (.inr fun j hj => ?_))
  exact (guard_eq_none.1 hg j hj (List.mem_of_mem_filter hj)).1

/-! ### The image port -/

theorem Moves.dropLoad (s : State) : Moves commits s s.dropLoad :=
  (Moves.giveBack s .inbound).thenFrame (State.imageIdle_tables _)

theorem Moves.refuseLoad (s : State) (r : Reason) : Moves commits s (s.refuseLoad r) :=
  (Moves.dropLoad s).thenFrame (State.imageRefuseLatch_tables _ _ _)

theorem Moves.headerGrant (s : State) : Moves commits s s.headerGrant := by
  unfold State.headerGrant
  split
  · exact .refl s
  rename_i h _
  split
  · exact .frame (by simp)
  rename_i hc
  have hfree : blocksFor h.width h.height ≤ s.pool.freeCount := by
    unfold State.headerCheck at hc
    split at hc
    · cases hc
    split at hc
    · cases hc
    split at hc
    · cases hc
    split at hc
    · cases hc
    · omega
  exact (Move.pool _ fun hp => Pool.counted_reserve hp hfree).moves.thenFrame rfl

theorem Moves.takeEndMark (s : State) (check : Word32) : Moves commits s (s.takeEndMark check) := by
  unfold State.takeEndMark
  split
  · exact .frame (by simp)
  · exact .frame (by simp)
  · exact .frame (by simp)
  · split
    · exact .refl s
    split
    · exact Moves.refuseLoad s _
    · exact .frame rfl

theorem Moves.takeAbort (s : State) : Moves commits s s.takeAbort := by
  unfold State.takeAbort
  split
  · exact .frame rfl
  · exact .frame (by simp)
  · exact (Moves.dropLoad s).thenFrame (State.abortReply_tables _)
  · exact (Moves.dropLoad s).thenFrame (State.abortReply_tables _)

theorem Moves.takeTransfer (s : State) (words : List Word32) : Moves commits s (s.takeTransfer words) := by
  unfold State.takeTransfer
  split
  · exact .frame (by simp)
  · split
    · exact Moves.takeEndMark s _
    · exact .refl s
  · exact Moves.takeAbort s
  · exact .frame (by simp)

theorem Moves.loadTimeout (s : State) : Moves commits s s.loadTimeout :=
  (Moves.dropLoad s).thenFrame (by simp [State.loadTimeout])

/-- The state in which a commit looks for the sheets that show the portrait (R73). -/
def State.committed (s : State) (r : LoadRecord) : State :=
  (({ s with
      pool := ((s.pool.giveBack (.current r.header.slot)).giveBack (.pending r.header.slot)).pass .inbound
        (.current r.header.slot) } : State).mapPortrait r.header.slot fun q =>
    { q with state := .ready, current := some (r.image (nextGeneration (s.portrait r.header.slot).generation))
             pendingImage := none, generation := nextGeneration (s.portrait r.header.slot).generation }).imageIdle

theorem State.commitLoad_eq (s : State) (r : LoadRecord) : s.commitLoad r =
    (((((s.committed r).staleAll ((s.committed r).imageSet r.header.slot)).latchAll .portraitCommitted
      (.portrait (some r.header.slot))).raise imageUnit 0).imageReply .done none .committed
      (some (nextGeneration (s.portrait r.header.slot).generation))) := rfl

/-- A commit stales the sheets that show the portrait, locked or not (R73). -/
theorem Moves.commitLoad (hc : commits) (s : State) (r : LoadRecord) : Moves commits s (s.commitLoad r) := by
  have hpool : Move commits s { s with
      pool := ((s.pool.giveBack (.current r.header.slot)).giveBack (.pending r.header.slot)).pass .inbound
        (.current r.header.slot) } :=
    .pool _ fun h => Pool.counted_pass (Pool.counted_giveBack (Pool.counted_giveBack h _) _) _ _
  have hport := hpool.moves.snoc (.portrait r.header.slot (fun q =>
    { q with state := .ready, current := some (r.image (nextGeneration (s.portrait r.header.slot).generation))
             pendingImage := none, generation := nextGeneration (s.portrait r.header.slot).generation }) rfl (.inl hc))
  have hidle : Moves commits s (s.committed r) := hport.thenFrame (State.imageIdle_tables _)
  rw [State.commitLoad_eq]
  exact (hidle.snoc (.stale ((s.committed r).imageSet r.header.slot) (.inl hc))).thenFrame (by simp)

theorem Moves.pendLoad (hc : commits) (s : State) (r : LoadRecord) : Moves commits s (s.pendLoad r) := by
  have hpool : Move commits s { s with
      pool := (s.pool.giveBack (.pending r.header.slot)).pass .inbound (.pending r.header.slot) } :=
    .pool _ fun h => Pool.counted_pass (Pool.counted_giveBack h _) _ _
  have hport := hpool.moves.snoc (.portrait r.header.slot (fun q =>
    { q with pendingImage := some (r.image (nextGeneration (s.portrait r.header.slot).generation))
             generation := nextGeneration (s.portrait r.header.slot).generation }) rfl (.inl hc))
  exact hport.thenFrame (by simp [State.pendLoad])

theorem Moves.endMarkGrant (hc : commits) (s : State) : Moves commits s s.endMarkGrant := by
  unfold State.endMarkGrant
  split
  · exact .refl s
  split
  · exact Moves.refuseLoad s _
  split
  · split
    · exact Moves.refuseLoad s _
    · exact Moves.commitLoad hc s _
  · exact Moves.pendLoad hc s _

/-! ### The job table -/

/-- A job's record is replaced by one that is started if it has left WAITING. -/
theorem Moves.putJob (s : State) (k : Job) (h : s.jobsStarted → k.state ≠ .waiting → k.started = true) :
    Moves commits s (s.putJob k) := by
  refine (Move.jobs _ fun hs j hj => ?_).moves
  obtain rfl | ⟨hj, -⟩ := State.mem_putJob hj
  · exact h hs
  · exact hs j hj

/-- Jobs leave the table. -/
theorem Moves.filterJobs (s : State) (f : Job → Bool) : Moves commits s { s with jobs := s.jobs.filter f } :=
  (Move.jobs _ fun hs j hj => hs j (List.mem_of_mem_filter hj)).moves

theorem Moves.suspend {s : State} {j : Job} (h : s.activeJob = some j) : Moves commits s (s.suspend j) := by
  obtain ⟨hm, ha⟩ := State.activeJob_mem h
  exact (Moves.putJob s _ <| by exact fun hs _ => hs j hm (by simp [ha])).thenFrame (State.stopStall_tables _)

theorem Moves.examineProof (s : State) : Moves commits s s.examineProof := by
  obtain h | ⟨j, hj, -, -, h⟩ := s.examineProof_cases
  · rw [h]; exact .refl s
  · rw [h]; exact Moves.suspend hj

theorem Moves.recheckWait (s : State) : Moves commits s s.recheckWait := Moves.examineProof s

theorem Moves.stallExpiry (s : State) : Moves commits s s.stallExpiry := by
  unfold State.stallExpiry
  split
  · exact .frame rfl
  split
  · exact .frame rfl
  split
  · exact Moves.suspend ‹_›
  · exact .frame rfl

/-- A sheet leaves the press as well as it stood (R21). -/
theorem Sheet.moves_leavePress (sh : Sheet) (done : Nat) : sh.Moves (sh.leavePress done) where
  section_eq := rfl
  laid h := by
    unfold Sheet.leavePress
    by_cases hp : sh.state = .inPress
    · exact fun _ => h (by simp [hp])
    · simpa [hp] using h
  stale_iff := by
    unfold Sheet.leavePress
    by_cases hp : sh.state = .inPress
    · simp only [hp, if_true, reduceCtorEq, iff_false]
      split <;> simp
    · simp [hp]
  locks h := by
    obtain ⟨hp, hl⟩ := h
    unfold Sheet.leavePress Sheet.lockSound
    by_cases hi : sh.state = .inPress
    · cases hh : sh.hold with
      | none => simp [hi]
      | some r => simpa [hi, hh] using hl
    · rw [if_neg hi]
      exact ⟨hp, hl⟩

theorem Moves.releaseSheet (s : State) (j : Job) : Moves commits s (s.releaseSheet j) := by
  unfold State.releaseSheet
  split
  · exact (Move.sheet _ ‹_› fun _ => Sheet.moves_leavePress _ _).moves
  · exact .refl s

theorem Moves.endJob (s : State) (j : Job) (notice : Notice) : Moves commits s (s.endJob j notice) := by
  have hremove : Moves commits s (s.removeJob j) := (Moves.filterJobs s _).thenFrame rfl
  have hunpin : Moves commits (s.removeJob j) ((s.removeJob j).unpin (s.jobPins j)) :=
    Moves.mapPortraits (by intro _; rfl) (by intro _; rfl) _ _
  exact (((hremove.trans hunpin).trans (Moves.releaseSheet _ j)).thenFrame (by simp)).snoc (.examine _)

theorem Moves.takeConfirmation (s : State) (tag : Nat) : Moves commits s (s.takeConfirmation tag) := by
  unfold State.takeConfirmation
  split
  · exact .refl s
  rename_i j hj
  have hput : Moves commits s (s.putJob { j with done := j.done + 1, spoils := 0 }) :=
    Moves.putJob s _ <| by exact fun hs => hs j (State.reportJob_mem hj).1
  dsimp only
  split
  · exact hput.trans (Moves.endJob _ _ _)
  · exact hput

theorem mem_moveToHead {l : List Job} {j k : Job} (h : k ∈ moveToHead l j) : k = j ∨ k ∈ l := by
  simp only [moveToHead] at h
  split at h
  · rcases List.mem_append.1 h with h | h
    · exact .inr (List.mem_of_mem_filter ((List.takeWhile_sublist _).subset h))
    · rcases List.mem_cons.1 h with h | h
      · exact .inl h
      · exact .inr (List.mem_of_mem_filter ((List.dropWhile_sublist _).subset h))
  · obtain ⟨x, hx, hk⟩ := List.mem_map.1 h
    split at hk
    · exact .inl hk.symm
    · exact .inr (hk ▸ hx)

theorem Moves.rewindJob {s : State} {j : Job} (h : j ∈ s.jobs) (copy : Nat) : Moves commits s (s.rewindJob j copy) := by
  unfold State.rewindJob
  split
  · split
    · exact Moves.putJob s _ fun hs => hs j h
    · exact (Moves.putJob s _ <| by exact fun hs => hs j h).trans (Moves.examineProof _)
  · refine (Move.jobs _ fun hs k hk => ?_).moves
    rcases mem_moveToHead hk with rfl | hk
    · exact fun e => absurd rfl e
    · exact hs k hk
  · exact Moves.putJob s _ fun hs => hs j h

theorem Moves.abortJob {s : State} {j : Job} (h : j ∈ s.jobs) : Moves commits s (s.abortJob j) := by
  unfold State.abortJob
  split
  · exact Moves.putJob s _ fun hs => hs j h
  · exact (Moves.putJob s _ <| by exact fun hs => hs j h).trans (Moves.endJob _ _ _)

theorem Moves.takeSpoil (s : State) (q : Press) (tag copy : Nat) (counted : Bool) :
    Moves commits s (s.takeSpoil q tag copy counted) := by
  unfold State.takeSpoil
  split
  · exact .refl s
  rename_i j hj
  have hput : Moves commits s (s.putJob (j.spoiled counted)) :=
    Moves.putJob s _ <| by exact fun hs => hs j (State.reportJob_mem hj).1
  have hmem : j.spoiled counted ∈ (s.putJob (j.spoiled counted)).jobs :=
    (State.onlyJobMoves_putJob (k := j.spoiled counted) (State.reportJob_mem hj).1 rfl).1
  have hspoil := hput.thenFrame (State.latchAll_tables _ .copySpoiled (.job tag))
  have hmem' : j.spoiled counted ∈ ((s.putJob (j.spoiled counted)).latchAll .copySpoiled (.job tag)).jobs := hmem
  cases counted with
  | false => exact hspoil.trans (Moves.rewindJob hmem' copy)
  | true =>
    have hrule := hspoil.thenFrame (State.setLink_tables _ q
      ((((s.putJob (j.spoiled true)).latchAll .copySpoiled (.job tag)).link q).setRule
        { tag := tag, copy := copy, serial := some (j.spoiled true).serial }))
    have hmem'' : j.spoiled true ∈ (((s.putJob (j.spoiled true)).latchAll .copySpoiled (.job tag)).setLink q
      ((((s.putJob (j.spoiled true)).latchAll .copySpoiled (.job tag)).link q).setRule
        { tag := tag, copy := copy, serial := some (j.spoiled true).serial })).jobs := hmem
    dsimp only
    split
    · exact hrule.trans (Moves.abortJob hmem'')
    · exact hrule.trans (Moves.rewindJob hmem'' copy)

theorem Moves.linkSpoil (s : State) (q : Press) (tag copy : Nat) : Moves commits s (s.linkSpoil q tag copy) :=
  (Moves.frame (by simp)).trans (Moves.takeSpoil _ q tag copy true)

theorem Moves.spoilTransmission (s : State) (q : Press) : Moves commits s (s.spoilTransmission q) := by
  unfold State.spoilTransmission
  split
  · exact .refl s
  · exact Moves.linkSpoil s q _ _

theorem Moves.submit (s : State) (p : Port) {i : Nat} {sh : Sheet} (h : s.sheet i = some sh) (q : Press) (k : JobKind)
    (copies : Nat) : Moves commits s (s.submit p i sh q k copies) := by
  have hj : Moves commits s ({ s with
      jobs := s.jobs ++ [{ tag := s.nextTag, sheet := i, press := q, kind := k, copies := copies, done := 0, port := p
                           state := .waiting, started := false, resumeCopy := 1, resumeBand := 0, serial := 0, spoils := 0
                           ending := .none, rewind := none }] } : State) := by
    refine (Move.jobs _ fun hs j hj => ?_).moves
    rcases List.mem_append.1 hj with hj | hj
    · exact hs j hj
    · obtain rfl := List.mem_singleton.1 hj
      exact fun e => absurd rfl e
  have ht := hj.thenFrame (u := { s with
      jobs := s.jobs ++ [{ tag := s.nextTag, sheet := i, press := q, kind := k, copies := copies, done := 0, port := p
                           state := .waiting, started := false, resumeCopy := 1, resumeBand := 0, serial := 0, spoils := 0
                           ending := .none, rewind := none }]
      tagCounter := tagAfter s.nextTag }) rfl
  exact ht.snoc (.sheet { sh with job := some s.nextTag } h fun _ => ⟨rfl, id, Iff.rfl, id⟩)

theorem Moves.submitRun (s : State) (p : Port) (i press copies : Nat) : Moves commits s (submitRun p i press copies s).1 := by
  unfold Machine.submitRun
  split
  · exact .refl s
  split
  · exact .refl s
  split
  · exact .refl s
  split
  · exact .refl s
  split
  · exact .refl s
  split
  · exact .refl s
  · exact Moves.submit s p ‹_› _ _ _

theorem Moves.submitProof (s : State) (p : Port) (i press : Nat) : Moves commits s (submitProof p i press s).1 := by
  unfold Machine.submitProof
  split
  · exact .refl s
  split
  · exact .refl s
  split
  · exact .refl s
  split
  · exact .refl s
  split
  · exact .refl s
  · exact (Moves.submit s p ‹_› _ _ _).trans (Moves.recheckWait _)

theorem Moves.cancelJob (s : State) (tag : Nat) : Moves commits s (cancelJob tag s).1 := by
  unfold Machine.cancelJob
  split
  · exact .refl s
  split
  · exact .refl s
  rename_i j hj
  split
  · exact .refl s
  split
  · exact Moves.putJob s _ <| by exact fun hs => hs j (State.jobOf_mem hj).1
  · exact (Moves.endJob s j _).trans (Moves.recheckWait _)

/-! ### The renderer -/

/-- Pins move the directory alone. -/
theorem State.mapPortraits_eq (f : Portrait → Portrait) (l : List Nat) (s : State) :
    l.foldl (fun t p => t.mapPortrait p f) s =
      { s with portraits := (l.foldl (fun t p => t.mapPortrait p f) s).portraits } := by
  induction l generalizing s with
  | nil => rfl
  | cons i l ih => rw [List.foldl_cons, ih]; rfl

/-- What a grant names has started, or its sheet is PLACED or HELD (R122, R126). -/
theorem State.grantOrder_eligible {s : State} {j : Job} (h : s.grantOrder = some j) :
    s.eligible j = true ∨ s.suspendedJob = some j := by
  unfold State.grantOrder at h
  rcases Option.or_eq_some_iff.1 h with h | ⟨-, h⟩
  · exact .inl (by have := List.find?_some h; simp at this; exact this.1.2)
  rcases Option.or_eq_some_iff.1 h with h | ⟨-, h⟩
  · exact .inr (Option.filter_eq_some_iff.1 h).1
  rcases Option.or_eq_some_iff.1 h with h | ⟨-, h⟩
  · exact .inl (by have := List.find?_some h; simp at this; exact this.2)
  · exact .inl (by have := List.find?_some h; simp at this; exact this.2)

/-- The sheet of an eligible job that is not started is PLACED or HELD (R122). -/
theorem State.eligible_sheet {s : State} {j : Job} (h : s.eligible j = true) (hj : j.started = false) {sh : Sheet}
    (hs : s.sheet j.sheet = some sh) : sh.state = .placed ∨ sh.state = .held := by
  simp only [State.eligible, hj, hs, Bool.false_or, Bool.and_eq_true, Bool.or_eq_true, decide_eq_true_eq] at h
  exact h.2.imp_right And.right

/-- A PLACED or HELD sheet may enter IN_PRESS (R127). -/
theorem Sheet.moves_inPress {sh : Sheet} (h : sh.state = .placed ∨ sh.state = .held) :
    sh.Moves { sh with state := .inPress } where
  section_eq := rfl
  laid hl _ := hl (by rcases h with h | h <;> simp [h])
  stale_iff := by rcases h with h | h <;> simp [h]
  locks hl := ⟨fun e => (nomatch e), fun hk => ⟨(hl.2 hk).1, .inr rfl⟩⟩

theorem Moves.grantJob {s : State} {j : Job} (h : s.grantOrder = some j) : Moves commits s (s.grantJob j) := by
  have hact : Moves commits s (s.activateSheet j) := by
    unfold State.activateSheet
    split
    · exact .refl s
    rename_i hst
    have hst' : j.started = false := by simpa using hst
    split
    · exact .refl s
    rename_i sh hsh
    have hpin : Moves commits s (s.pin sh.pins) := Moves.mapPortraits (by intro _; rfl) (by intro _; rfl) _ _
    have heq : s.pin sh.pins = { s with portraits := (s.pin sh.pins).portraits } := State.mapPortraits_eq _ _ _
    rw [heq] at hpin ⊢
    refine hpin.snoc (.sheet _ hsh fun hjs => Sheet.moves_inPress ?_)
    rcases State.grantOrder_eligible h with he | hs
    · exact State.eligible_sheet he hst' hsh
    · obtain ⟨hm, hss⟩ := State.suspendedJob_mem hs
      have := hjs j hm (by simp [hss])
      simp [hst'] at this
  exact (hact.trans (Moves.putJob _ { j with state := .active, started := true } fun _ _ => rfl)).thenFrame rfl

theorem State.frameJoins_jobs (s : State) (j : Job) (b : BandInProduction) : (s.frameJoins j b).jobs = s.jobs := by
  obtain ⟨-, -, -, -, -, h, -⟩ := State.tables_eq_iff.1 (s.frameJoins_tables j b)
  exact h

theorem Moves.advance {s : State} {j : Job} (h : j ∈ s.jobs) (ha : j.state = .active) (b : BandInProduction) :
    Moves commits s (s.advance j b) := by
  unfold State.advance
  split
  · exact (Moves.putJob s _ <| by exact fun hs => hs j h).thenFrame (State.startStall_tables _)
  split
  · exact ((Moves.putJob s _ <| by exact fun hs => hs j h).trans (Moves.examineProof _)).thenFrame (State.startStall_tables _)
  · exact Moves.putJob s _ <| by exact fun hs _ => hs j h (by simp [ha])

theorem Moves.takeRewind {s : State} {j : Job} (h : j ∈ s.jobs) (b : BandInProduction) (copy : Nat) :
    Moves commits s (s.takeRewind j b copy) := by
  have hframe : Moves commits s (if copy ≤ b.copy then s else s.frameJoins j b) := by
    split
    · exact .refl s
    · exact .frame (by simp)
  have hmem : j ∈ (if copy ≤ b.copy then s else s.frameJoins j b).jobs := by
    split
    · exact h
    · rwa [State.frameJoins_jobs]
  exact ((hframe.trans (Moves.putJob _ _ <| by exact fun hs => hs j hmem)).trans (Moves.examineProof _)).thenFrame
    (State.startStall_tables _)

/-! ### The placement unit -/

/-- A sheet that was being placed may enter PLACED with no hold reason, or HELD (R20). -/
theorem Sheet.moves_placed {sh : Sheet} (h : sh.state = .placing) (r : Option PlacementResult) (o : Option Hold) :
    sh.Moves { sh with state := if o = none then .placed else .held, result := r, hold := o } where
  section_eq := rfl
  laid hl _ := hl (by simp [h])
  stale_iff := by simp only [h, reduceCtorEq, iff_false]; split <;> simp
  locks hl := by
    refine ⟨fun e => ?_, fun hk => ?_⟩
    · by_contra ho
      simp [show o ≠ none from ho] at e
    · obtain ⟨-, h' | h'⟩ := hl.2 hk <;> simp [h] at h'

theorem Moves.dropRunJob (s : State) (i : Nat) : Moves commits s (s.dropRunJob i) := by
  unfold State.dropRunJob
  split
  · exact .refl s
  split
  · exact .refl s
  · rename_i j _ _ sh hsh
    exact ((Moves.filterJobs s _).snoc (.sheet { sh with job := none } hsh fun _ => ⟨rfl, id, Iff.rfl, id⟩)).thenFrame
      (State.latchAt_tables ..)

theorem Moves.acceptCompletion (s : State) (u : InProgress) : Moves commits s (s.acceptCompletion u) := by
  unfold State.acceptCompletion
  split
  · exact .refl s
  rename_i sh hsh
  split
  · rename_i hp
    have hm := fun o => (Move.sheet (commits := commits) _ hsh fun _ => Sheet.moves_placed hp.1 (some u.result) o).moves
    split
    · exact (hm none).thenFrame (State.latchAll_tables ..)
    · exact ((hm (some _)).thenFrame (State.latchAll_tables ..)).trans (Moves.dropRunJob _ _)
  · exact .refl s

/-! ### The presses -/

theorem Moves.loseLock (s : State) (q : Press) : Moves commits s (s.loseLock q) :=
  (Moves.frame (by simp)).trans (Moves.spoilTransmission _ q)

theorem Moves.forceResync (s : State) (press : Nat) : Moves commits s (forceResync press s).1 := by
  unfold Machine.forceResync
  split
  · exact .refl s
  split
  · exact .refl s
  · exact (Moves.loseLock s _).trans (Moves.recheckWait _)
  · exact .frame rfl

theorem Moves.judgeReport (s : State) (q : Press) (found stray : Bool) (x : Int) :
    Moves commits s (s.judgeReport q found stray x) := by
  unfold State.judgeReport
  split
  · exact .refl s
  · exact .frame (by simp)
  · exact .frame (by simp)
  · simp only [State.judgeHold]
    split
    · exact .frame rfl
    split
    · exact .frame (by simp)
    split
    · exact .frame (by simp)
    · exact (Moves.frame (by simp)).trans (Moves.loseLock _ q)

theorem Moves.takeMarkReport (s : State) (q : Press) (found stray : Bool) (x : BitVec 12) :
    Moves commits s (s.takeMarkReport q found stray x) := by
  unfold State.takeMarkReport
  split
  · exact (((Moves.judgeReport s q found stray _).trans (Moves.spoilTransmission _ q)).thenFrame
      (State.setLink_tables ..)).trans (Moves.recheckWait _)
  · exact .refl s

theorem Moves.answerLater (s : State) (q : Press) : Moves commits s (s.answerLater q) := by
  simp only [State.answerLater]
  split
  · exact .frame rfl
  split
  · exact .frame (by simp)
  · exact (Moves.frame (State.setLink_tables ..)).trans (Moves.linkSpoil _ q _ _)

theorem Moves.takeFrameRequest (s : State) (q : Press) : Moves commits s (s.takeFrameRequest q) := by
  unfold State.takeFrameRequest
  split
  · split
    · exact .frame rfl
    · refine Moves.trans ?_ (Moves.recheckWait _)
      simp only [State.answerRequest]
      split
      · exact .frame (by simp)
      · exact (Moves.frame (State.setLink_tables ..)).trans (Moves.answerLater _ q)
  · exact .refl s

theorem Moves.judgeStatus (s : State) (q : Press) (a : Attempt) (e : Bool) : Moves commits s (s.judgeStatus q a e) := by
  simp only [State.judgeStatus]
  split
  · split
    · exact .frame (by simp)
    · exact (Moves.frame (by simp)).trans (Moves.linkSpoil _ q _ _)
  split
  · exact (Moves.frame (by simp)).trans (Moves.takeConfirmation _ _)
  · exact .refl s

theorem Moves.takeStatusReport (s : State) (q : Press) (e : Bool) : Moves commits s (s.takeStatusReport q e) := by
  unfold State.takeStatusReport
  split
  · split
    · exact .refl s
    · exact (((Moves.frame (State.setLink_tables ..)).trans (Moves.judgeStatus _ q _ e)).thenFrame
        (State.dropReported_tables ..)).trans (Moves.recheckWait _)
  · exact .refl s

theorem Moves.goOffline (s : State) (q : Press) : Moves commits s (s.goOffline q) :=
  ((Moves.foldl (fun t tag => Moves.takeSpoil t q tag (lowestCopy (s.link q).unconfirmed tag) false)
    (distinct ((s.link q).unconfirmed.map (·.1))) s).thenFrame (by simp)).trans (Moves.recheckWait _)

theorem Moves.takeReturnWord (s : State) (q : Press) (w : Word32) : Moves commits s (s.takeReturnWord q w) := by
  unfold State.takeReturnWord
  split
  · exact .refl s
  · exact Moves.takeFrameRequest s q
  · exact Moves.takeMarkReport s q _ _ _
  · exact Moves.takeStatusReport s q _

/-! ### An idle millisecond -/

theorem Moves.tick (s : State) : Moves commits s s.tick := by
  have hload : Moves commits s s.tickLoad := by
    unfold State.tickLoad
    split
    · exact .refl s
    split
    · exact Moves.loadTimeout s
    · exact .frame rfl
  have hstall : Moves commits s.tickLoad s.tickLoad.tickStall := by
    unfold State.tickStall
    split
    · exact .refl _
    split
    · exact Moves.stallExpiry _
    · exact .frame rfl
  exact (hload.trans hstall).thenFrame (State.tickArbiter_tables _)

end

end Sys2Proof.Machine
end

section
/-! Every command makes moves, and what every move keeps a step keeps. -/

namespace Sys2Proof.Machine

open Sys2Proof

section
variable {commits : Prop}

/-- Where an outcome goes on, it has made moves. -/
def Leads (commits : Prop) (s : State) (o : Host.Outcome State Fault Refusal) : Prop :=
  ∀ t, o = .next t → Moves commits s t

theorem Leads.next {s t : State} (h : Moves commits s t) : Leads commits s (.next t) := by
  intro u hu
  cases hu
  exact h

/-- A served request makes moves when its effect does, in a state with the same tables. -/
theorem Leads.serve {s : State} {p : Port} {row : Option Request → Option Effect}
    (h : ∀ g, g.tables = s.tables → ∀ r op, row r = some op → Moves commits g (op g).1) :
    Leads commits s (.next (s.serve p row)) := by
  refine .next ?_
  unfold State.serve
  split
  · exact .refl s
  rename_i g r hg
  have hgt : g.tables = s.tables := State.grantDesk_tables hg
  split
  · exact .refl s
  · rename_i op hop
    exact ((Moves.frame hgt).trans (h g hgt _ op hop)).thenFrame (State.finish_tables ..)

/-- A row that only reads. -/
theorem Leads.reading {s : State} {p : Port} {row : Option Request → Option Effect}
    (h : ∀ r op, row r = some op → ∃ f, op = reading f) : Leads commits s (.next (s.serve p row)) := by
  refine .serve fun g _ r op hr => ?_
  obtain ⟨f, rfl⟩ := h r op hr
  exact .refl g

/-- The request rows whose effect leaves the tables. -/
theorem Leads.frame {s : State} {p : Port} {row : Option Request → Option Effect}
    (h : ∀ g r op, row r = some op → (op g).1.tables = g.tables) : Leads commits s (.next (s.serve p row)) :=
  .serve fun g _ r op hr => .frame (h g r op hr)

theorem State.sectionsListed_congr {s t : State} (h : t.tables = s.tables) : t.sectionsListed ↔ s.sectionsListed := by
  obtain ⟨hb, hc, -⟩ := State.tables_eq_iff.1 h
  simp only [State.sectionsListed, State.sec, State.book, hb, hc]

theorem execUnknownRequestCode_leads (p : Port) (s : State) : Leads commits s (execUnknownRequestCode p s) := by
  refine .frame fun g r op hr => ?_
  split at hr <;> cases hr
  · rfl
  · dsimp only
    split <;> rfl

/-- The desk rows of books, sections and sheets. A section outside its book's list is out of SET SECTION's sight. -/
theorem execBookRow_leads {s : State} (hl : ¬s.sectionsListed → commits) {c : Instr} {p : Port}
    (hc : c ∈ [.openBook p, .setBook p, .closeBook p, .addSection p, .setSection p, .dropSection p, .addSheet p,
      .dropSheet p, .setLayout p]) : Leads commits s (exec c s) := by
  simp only [List.mem_cons, List.not_mem_nil, or_false] at hc
  rcases hc with rfl | rfl | rfl | rfl | rfl | rfl | rfl | rfl | rfl <;> refine Leads.serve fun g hg r op hr => ?_ <;>
    split at hr <;> cases hr
  · exact Moves.openBook ..
  · exact Moves.setBook ..
  · exact Moves.closeBook ..
  · exact Moves.addSection ..
  · exact Moves.setSection (fun h => hl fun h' => h ((State.sectionsListed_congr hg).2 h')) ..
  · exact Moves.dropSection ..
  · exact Moves.addSheet ..
  · exact Moves.dropSheet ..
  · exact Moves.setLayout ..

/-- The desk rows of rosters. -/
theorem execRosterRow_leads {s : State} {c : Instr} {p : Port}
    (hc : c ∈ [.addEntry p, .dropEntry p, .editEntryName p, .editEntryRole p, .editEntryStatus p, .editEntryPortrait p,
      .moveEntry p, .swapPortraits p]) : Leads commits s (exec c s) := by
  simp only [List.mem_cons, List.not_mem_nil, or_false] at hc
  rcases hc with rfl | rfl | rfl | rfl | rfl | rfl | rfl | rfl <;> refine Leads.serve fun g hg r op hr => ?_ <;>
    split at hr <;> cases hr
  · exact Moves.addEntry ..
  · exact Moves.dropEntry ..
  · exact Moves.editName ..
  · exact Moves.editRole ..
  · exact Moves.editStatus ..
  · exact Moves.editPortrait ..
  · exact Moves.moveEntry ..
  · exact Moves.swapPortraits ..

/-- The desk rows of approval, portraits, jobs and presses. -/
theorem execJobRow_leads {s : State} {c : Instr} {p : Port}
    (hc : c ∈ [.approveSheet p, .unlockSheet p, .reservePortrait p, .releasePortrait p, .setFaceBox p, .submitRun p,
      .submitProof p, .cancelJob p, .forceResync p]) : Leads commits s (exec c s) := by
  simp only [List.mem_cons, List.not_mem_nil, or_false] at hc
  rcases hc with rfl | rfl | rfl | rfl | rfl | rfl | rfl | rfl | rfl <;> refine Leads.serve fun g hg r op hr => ?_ <;>
    split at hr <;> cases hr
  · exact Moves.approveSheet ..
  · exact Moves.unlockSheet ..
  · exact Moves.reservePortrait ..
  · exact Moves.releasePortrait ..
  · exact Moves.setFaceBox ..
  · exact Moves.submitRun ..
  · exact Moves.submitProof ..
  · exact Moves.cancelJob ..
  · exact Moves.forceResync ..

/-- The READ rows but READ NOTICES. -/
theorem execReadRow_leads {s : State} {c : Instr} {p : Port}
    (hc : c ∈ [.readBook p, .readSection p, .readSheet p, .readEntry p, .readRosterIndex p, .readPortrait p,
      .readImagePort p, .readPlacementUnit p, .readPlacementResult p, .readTile p, .readJob p, .readPressJobCollections p,
      .readRenderer p, .readPressLink p, .readDeskPort p, .readArbiter p, .readCounters p, .readSettingsPort p]) :
    Leads commits s (exec c s) := by
  simp only [List.mem_cons, List.not_mem_nil, or_false] at hc
  rcases hc with rfl | rfl | rfl | rfl | rfl | rfl | rfl | rfl | rfl | rfl | rfl | rfl | rfl | rfl | rfl | rfl | rfl | rfl <;>
    refine Leads.reading fun r op hr => ?_ <;> split at hr <;> cases hr <;> exact ⟨_, rfl⟩

theorem setArbiter_tables (s : State) (w0 w1 w2 w3 wi : Nat) : (setArbiter w0 w1 w2 w3 wi s).1.tables = s.tables := by
  unfold setArbiter
  dsimp only
  split <;> simp

theorem clearCounters_tables (s : State) (u : Nat) (index : Option Nat) : (clearCounters u index s).1.tables = s.tables := by
  unfold clearCounters
  split
  · exact foldl_tables s (f := fun t i => t.clearCounter u i) (fun t i => t.clearCounter_tables u i) _
  · rfl

theorem setPress_tables (s : State) (press capture hold timeout policy stall : Nat) :
    (setPress press capture hold timeout policy stall s).1.tables = s.tables := by
  unfold setPress
  split
  · simp
  · rfl

/-- The desk rows of the arbiter, the notices, the counters, the press settings and the settings image. -/
theorem execUnitRow_leads {s : State} {c : Instr} {p : Port}
    (hc : c ∈ [.setArbiter p, .readNotices p, .setNoticeMask p, .clearCounters p, .setPress p, .saveSettings p]) :
    Leads commits s (exec c s) := by
  simp only [List.mem_cons, List.not_mem_nil, or_false] at hc
  rcases hc with rfl | rfl | rfl | rfl | rfl | rfl <;> refine Leads.frame fun g r op hr => ?_ <;> split at hr <;> cases hr
  · exact setArbiter_tables ..
  · exact State.clearNotices_tables ..
  · unfold setNoticeMask
    split <;> rfl
  · exact clearCounters_tables ..
  · exact setPress_tables ..
  · unfold saveSettings
    split <;> rfl

/-- The commands of the desk lines and of the settings image. -/
theorem execLine_leads {s : State} {c : Instr} {p : Port}
    (hc : (∃ bytes, c = .requestFrame p bytes) ∨ (∃ image, c = .settingsLoadComplete image) ∨
      (∃ readBack, c = .settingsSaveComplete readBack) ∨
      c ∈ [.requestFrameStart p, .replyFrameSent p, .lineBreak p, .breakEnd p]) :
    Leads commits s (exec c s) := by
  simp only [List.mem_cons, List.not_mem_nil, or_false] at hc
  rcases hc with ⟨bytes, rfl⟩ | ⟨image, rfl⟩ | ⟨readBack, rfl⟩ | rfl | rfl | rfl | rfl <;> simp only [exec]
  · unfold execRequestFrame
    split
    · exact .next (.refl s)
    · split <;> exact .next (.frame (by simp))
  · unfold execSettingsLoadComplete
    split
    · exact .next (.frame (by simp))
    · exact .next (.refl s)
  · unfold execSettingsSaveComplete
    split <;> exact .next (.frame rfl)
  · unfold execRequestFrameStart
    split <;> exact .next (.frame rfl)
  · exact .next (.frame rfl)
  · unfold execLineBreak
    split <;> exact .next (.frame rfl)
  · unfold execBreakEnd
    split <;> exact .next (.frame rfl)

/-! ### The image port, the placement unit, the renderer and the presses -/

theorem execImageHeaderGrant_leads (s : State) : Leads commits s (execImageHeaderGrant s) := by
  unfold execImageHeaderGrant
  split
  · split
    · rename_i g hg
      exact .next (((Moves.frame (State.grantImage_tables hg)).trans (Moves.headerGrant g)).thenFrame
        (State.freeEngine_tables _))
    · exact .next (.refl s)
  · exact .next (.refl s)

theorem execImageEndMarkGrant_leads (hc : commits) (s : State) : Leads commits s (execImageEndMarkGrant s) := by
  unfold execImageEndMarkGrant
  split
  · split
    · rename_i g hg
      exact .next (((Moves.frame (State.grantImage_tables hg)).trans (Moves.endMarkGrant hc g)).thenFrame
        (State.freeEngine_tables _))
    · exact .next (.refl s)
  · exact .next (.refl s)

theorem execLoadTimerExpiry_leads (s : State) : Leads commits s (execLoadTimerExpiry s) := by
  unfold execLoadTimerExpiry
  split
  · exact .next (Moves.loadTimeout s)
  · exact .next (.refl s)

theorem execPlacementTake_leads (s : State) : Leads commits s (execPlacementTake s) := by
  unfold execPlacementTake
  split
  · rename_i hq
    split
    · rename_i hsh _
      exact .next ((Move.take hq hsh).moves.thenFrame rfl)
    · rename_i hn
      refine .next (Move.skip hq ?_).moves
      by_contra h
      obtain ⟨h1, h2⟩ := not_or.1 h
      obtain ⟨sh, hsh⟩ := Option.ne_none_iff_exists'.1 h1
      obtain ⟨u, hu⟩ := Option.ne_none_iff_exists'.1 h2
      exact hn sh u hsh hu
  · exact .next (.refl s)

theorem execPlacementCompletion_leads (s : State) : Leads commits s (execPlacementCompletion s) := by
  unfold execPlacementCompletion
  split
  · exact .next (.refl s)
  · have hidle : Moves commits s { s with placing := none } := .frame rfl
    exact .next ((hidle.trans (Moves.acceptCompletion _ _)).trans (Moves.recheckWait _))

theorem execRendererGrant_leads (s : State) : Leads commits s (execRendererGrant s) := by
  unfold execRendererGrant
  split
  · exact .next (((Moves.grantJob ‹_›).trans (Moves.examineProof _)).thenFrame (State.startStall_tables _))
  · exact .next (.refl s)

theorem execBandBegin_leads (s : State) : Leads commits s (execBandBegin s) := by
  unfold execBandBegin
  split
  · split <;> exact .next (.frame rfl)
  · exact .next (.refl s)

theorem execBandCompletion_leads (s : State) : Leads commits s (execBandCompletion s) := by
  unfold execBandCompletion
  split
  · rename_i j b hj _
    obtain ⟨hmem, hact⟩ := State.activeJob_mem hj
    have hband : Moves commits s s.clearBand := .frame (State.clearBand_tables s)
    have hmem : j ∈ s.clearBand.jobs := hmem
    split
    · exact .next (hband.trans (Moves.endJob _ _ _))
    split
    · exact .next (hband.trans (Moves.takeRewind hmem b _))
    · have hjoin : Moves commits s.clearBand (s.clearBand.frameJoins j b) := .frame (State.frameJoins_tables ..)
      have hmem' : j ∈ (s.clearBand.frameJoins j b).jobs := by
        rw [State.frameJoins_jobs]
        exact hmem
      exact .next ((hband.trans hjoin).trans (Moves.advance hmem' hact b))
  · exact .next (.refl s)

theorem execStallTimerExpiry_leads (s : State) : Leads commits s (execStallTimerExpiry s) := by
  unfold execStallTimerExpiry
  split
  · exact .next (Moves.stallExpiry s)
  · exact .next (.refl s)

theorem execOnlineFall_leads (q : Press) (s : State) : Leads commits s (execOnlineFall q s) := by
  unfold execOnlineFall
  split
  · exact .next (Moves.goOffline s q)
  · exact .next (.frame rfl)

theorem execOnlineRise_leads (q : Press) (s : State) : Leads commits s (execOnlineRise q s) := by
  unfold execOnlineRise
  split <;> exact .next (.frame rfl)

theorem execReset_leads (s : State) : Leads commits s (execReset s) := by
  unfold execReset
  refine .next (Move.moves (.reset ?_))
  rfl

/-- Every command makes moves; the grant of an end mark may commit, and so may SET SECTION where a section stands outside its
book's list. -/
theorem exec_leads {s : State} {c : Instr} (hl : ¬s.sectionsListed → commits) (he : c = .imageEndMarkGrant → commits) :
    Leads commits s (exec c s) := by
  cases c with
  | requestFrame p bytes => exact execLine_leads (p := p) (.inl ⟨bytes, rfl⟩)
  | settingsLoadComplete image => exact execLine_leads (p := .dp0) (.inr (.inl ⟨image, rfl⟩))
  | settingsSaveComplete readBack => exact execLine_leads (p := .dp0) (.inr (.inr (.inl ⟨readBack, rfl⟩)))
  | requestFrameStart p => exact execLine_leads (p := p) (by simp)
  | replyFrameSent p => exact execLine_leads (p := p) (by simp)
  | lineBreak p => exact execLine_leads (p := p) (by simp)
  | breakEnd p => exact execLine_leads (p := p) (by simp)
  | unknownRequestCode p => exact execUnknownRequestCode_leads p s
  | openBook p => exact execBookRow_leads hl (p := p) (by simp)
  | setBook p => exact execBookRow_leads hl (p := p) (by simp)
  | closeBook p => exact execBookRow_leads hl (p := p) (by simp)
  | addSection p => exact execBookRow_leads hl (p := p) (by simp)
  | setSection p => exact execBookRow_leads hl (p := p) (by simp)
  | dropSection p => exact execBookRow_leads hl (p := p) (by simp)
  | addSheet p => exact execBookRow_leads hl (p := p) (by simp)
  | dropSheet p => exact execBookRow_leads hl (p := p) (by simp)
  | setLayout p => exact execBookRow_leads hl (p := p) (by simp)
  | addEntry p => exact execRosterRow_leads (p := p) (by simp)
  | dropEntry p => exact execRosterRow_leads (p := p) (by simp)
  | editEntryName p => exact execRosterRow_leads (p := p) (by simp)
  | editEntryRole p => exact execRosterRow_leads (p := p) (by simp)
  | editEntryStatus p => exact execRosterRow_leads (p := p) (by simp)
  | editEntryPortrait p => exact execRosterRow_leads (p := p) (by simp)
  | moveEntry p => exact execRosterRow_leads (p := p) (by simp)
  | swapPortraits p => exact execRosterRow_leads (p := p) (by simp)
  | approveSheet p => exact execJobRow_leads (p := p) (by simp)
  | unlockSheet p => exact execJobRow_leads (p := p) (by simp)
  | reservePortrait p => exact execJobRow_leads (p := p) (by simp)
  | releasePortrait p => exact execJobRow_leads (p := p) (by simp)
  | setFaceBox p => exact execJobRow_leads (p := p) (by simp)
  | submitRun p => exact execJobRow_leads (p := p) (by simp)
  | submitProof p => exact execJobRow_leads (p := p) (by simp)
  | cancelJob p => exact execJobRow_leads (p := p) (by simp)
  | forceResync p => exact execJobRow_leads (p := p) (by simp)
  | setArbiter p => exact execUnitRow_leads (p := p) (by simp)
  | readNotices p => exact execUnitRow_leads (p := p) (by simp)
  | setNoticeMask p => exact execUnitRow_leads (p := p) (by simp)
  | clearCounters p => exact execUnitRow_leads (p := p) (by simp)
  | setPress p => exact execUnitRow_leads (p := p) (by simp)
  | saveSettings p => exact execUnitRow_leads (p := p) (by simp)
  | readBook p => exact execReadRow_leads (p := p) (by simp)
  | readSection p => exact execReadRow_leads (p := p) (by simp)
  | readSheet p => exact execReadRow_leads (p := p) (by simp)
  | readEntry p => exact execReadRow_leads (p := p) (by simp)
  | readRosterIndex p => exact execReadRow_leads (p := p) (by simp)
  | readPortrait p => exact execReadRow_leads (p := p) (by simp)
  | readImagePort p => exact execReadRow_leads (p := p) (by simp)
  | readPlacementUnit p => exact execReadRow_leads (p := p) (by simp)
  | readPlacementResult p => exact execReadRow_leads (p := p) (by simp)
  | readTile p => exact execReadRow_leads (p := p) (by simp)
  | readJob p => exact execReadRow_leads (p := p) (by simp)
  | readPressJobCollections p => exact execReadRow_leads (p := p) (by simp)
  | readRenderer p => exact execReadRow_leads (p := p) (by simp)
  | readPressLink p => exact execReadRow_leads (p := p) (by simp)
  | readDeskPort p => exact execReadRow_leads (p := p) (by simp)
  | readArbiter p => exact execReadRow_leads (p := p) (by simp)
  | readCounters p => exact execReadRow_leads (p := p) (by simp)
  | readSettingsPort p => exact execReadRow_leads (p := p) (by simp)
  | imageHeader words => exact .next (Moves.takeTransfer s words)
  | imageHeaderGrant => exact execImageHeaderGrant_leads s
  | imagePayload count words => exact .next (.frame (State.takePayloadTransfer_tables ..))
  | imageEndMark check => exact .next (Moves.takeEndMark s check)
  | imageEndMarkGrant => exact execImageEndMarkGrant_leads (he rfl) s
  | imageAbort => exact .next (Moves.takeAbort s)
  | loadTimerExpiry => exact execLoadTimerExpiry_leads s
  | placementTake => exact execPlacementTake_leads s
  | placementCompletion => exact execPlacementCompletion_leads s
  | rendererGrant => exact execRendererGrant_leads s
  | bandBegin => exact execBandBegin_leads s
  | bandCompletion => exact execBandCompletion_leads s
  | stallTimerExpiry => exact execStallTimerExpiry_leads s
  | markReport q found stray offset => exact .next (Moves.takeMarkReport s q found stray offset)
  | frameRequest q => exact .next (Moves.takeFrameRequest s q)
  | statusReport q checkError => exact .next (Moves.takeStatusReport s q checkError)
  | onlineFall q => exact execOnlineFall_leads q s
  | onlineRise q => exact execOnlineRise_leads q s
  | badReturnWord q word => exact .next (Moves.takeReturnWord s q word)
  | reset => exact execReset_leads s

/-- A step makes moves. -/
theorem step_moves {s t : State} (hl : ¬s.sectionsListed → commits) (he : s.pending.head? = some .imageEndMarkGrant → commits)
    (h : step s = .next t) : Moves commits s t := by
  unfold step at h
  split at h
  · cases h
    exact Moves.tick s
  · rename_i c rest hp
    have hpop : Moves commits s { s with pending := rest } := .frame rfl
    have hc : c = .imageEndMarkGrant → commits := fun hc => he (by rw [hp, hc]; rfl)
    exact hpop.trans (exec_leads (s := { s with pending := rest }) hl hc t h)

end

/-! ### The soundness of the tables -/

/-- What the approval locks need to stay sound: a sound book table, and no image that waits for a promotion. -/
def State.locksSettled (s : State) : Prop := s.booksSound ∧ s.nonePending ∧ s.locksSound

theorem Move.keeps_locksSettled {s t : State} (m : Move False s t) (h : s.locksSettled) : t.locksSettled := by
  obtain ⟨hb, hp, hs⟩ := h
  exact ⟨m.keeps_books hb, m.keeps_nonePending hp, m.keeps_locks hb hp hs⟩

/-- Settles O40: every step is made of moves of the tables, and every move keeps them sound. -/
theorem everyStepKeepsTheTablesSound : Obligations.EveryStepKeepsTheTablesSound := by
  unfold Obligations.EveryStepKeepsTheTablesSound
  have hfree {s t : State} (h : step s = .next t) : Moves True s t := step_moves (fun _ => trivial) (fun _ => trivial) h
  refine ⟨fun s t hs h => ?_, fun s t hs h => ?_, fun s t hb hs hp he h => ?_, fun breaks lines => ⟨?_, ?_, ?_⟩⟩
  · exact (hfree h).keep (fun _ _ m => m.keeps_books) hs
  · exact (hfree h).keep (fun _ _ m => m.keeps_directory) hs
  · have hl : s.sectionsListed := ((State.booksSound_iff s).1 hb).1
    have hm : Moves False s t := step_moves (absurd hl) he h
    obtain ⟨-, -, ht⟩ : t.locksSettled := hm.keep (fun _ _ m => m.keeps_locksSettled) ⟨hb, hp, hs⟩
    exact ht
  · exact State.booksSound_resetWith breaks lines
  · exact State.directorySound_resetWith breaks lines
  · intro i sh h
    cases h

end Sys2Proof.Machine
end

section
/-! What the requests of books, sections, sheets and entries answer: refusals in order, and the changes they ask for. -/

namespace Sys2Proof.Machine

open Sys2Proof

/-- A served request ends with what its effect answers. -/
theorem answers_of_served {c : Instr} {s g t : State} {p : Port} {r : Request} {tag : Nat} {a : Answer}
    {row : Option Request → Option Effect} {op : Effect} (h : s.served p r tag = some g)
    (hc : exec c s = .next (s.serve p row)) (hr : row (some r) = some op) (ho : op g = (t, a)) :
    exec c s = .next (t.finish p tag a) := by
  rw [exec_of_served h hc op hr, ho]

/-- A string is not sendable when it holds a code from 95 on. -/
theorem sendable_eq_false {l : Str} : sendable l = false ↔ ∃ c ∈ l, 95 ≤ c := by
  rw [← Bool.not_eq_true, sendable_iff]
  push Not
  rfl

/-- A full table has no free slot. -/
theorem tabFree_eq_none {α : Type} {n : Nat} {t : List (Nat × α)} (h : ∀ i < n, (tabFind t i).isSome) : tabFree n t = none := by
  unfold tabFree
  rw [List.find?_eq_none]
  intro i hi
  simpa [Option.isSome_iff_ne_none] using h i (List.mem_range.1 hi)

theorem clampFolio_eq (n : Nat) : clampFolio n = if n = 0 then 1 else if 9999 < n then 9999 else n := by
  unfold clampFolio
  split
  · omega
  · split <;> omega

theorem clampFolio_ne (n : Nat) : clampFolio n ≠ n ↔ n = 0 ∨ 9999 < n := by
  unfold clampFolio
  omega

/-- ADJUSTED for a label and a first folio (R3, R4). -/
theorem folio_adjusted (label : Str) (n : Nat) :
    (decide (40 < label.length) || decide (clampFolio n ≠ n)) = decide (40 < label.length ∨ n = 0 ∨ 9999 < n) := by
  simp only [clampFolio_ne, Bool.decide_or]

/-! ### Books -/

section
variable {s : State} {i : Nat}

theorem openBook_of_badIndex (hi : 6 ≤ i) (label : Str) (folio : Nat) :
    openBook i label folio s = (s, Answer.refuse .badIndex) :=
  if_pos (not_lt.2 hi)

/-- OPEN BOOK on a slot of the table. -/
theorem openBook_of_lt (hi : i < 6) (label : Str) (folio : Nat) :
    openBook i label folio s =
      if (s.book i).isSome then (s, Answer.refuse .inUse)
      else if ¬sendable label then (s, Answer.refuse .badForm)
      else
        (s.setBook i (some
          { label := label.take 40, firstFolio := if folio = 0 then 1 else if 9999 < folio then 9999 else folio
            absent := .silhouette, withheld := .silhouette, tolerance := 24, holdOnDrift := false, sections := [] }),
          Answer.done (decide (40 < label.length ∨ folio = 0 ∨ 9999 < folio)) []) := by
  rw [← clampFolio_eq, ← folio_adjusted]
  exact if_neg (not_not.2 hi)

end

/-- Settles O12. -/
theorem openBookFollowsItsRule : Obligations.OpenBookFollowsItsRule := by
  unfold Obligations.OpenBookFollowsItsRule
  intro s g p tag i label folio h
  refine ⟨fun hi => ?_, fun hi hb => ?_, fun hi hb hl => ?_, fun hi hb hl => ?_⟩ <;> refine answers_of_served h rfl rfl ?_
  · exact openBook_of_badIndex hi label folio
  · simp [openBook_of_lt hi, hb]
  · simp [openBook_of_lt hi, hb, sendable_eq_false.2 hl]
  · simp [openBook_of_lt hi, hb, (sendable_iff label).2 hl]

/-! ### Sections -/

section
variable {s : State} {i : Nat}

theorem addSection_of_badIndex (hi : 6 ≤ i) (key : Nat) (label : Str) :
    addSection i key label s = (s, Answer.refuse .badIndex) :=
  if_pos (not_lt.2 hi)

theorem addSection_of_notOpen (hi : i < Config.bookSlots) (hb : s.book i = none) (key : Nat) (label : Str) :
    addSection i key label s = (s, Answer.refuse .notOpen) := by
  unfold addSection
  rw [if_neg (not_not.2 hi), hb]

theorem addSection_of_badForm (hi : i < Config.bookSlots) {b : Book} (hb : s.book i = some b) {key : Nat} {label : Str}
    (hl : sendable label = false ∨ 256 ≤ key) : addSection i key label s = (s, Answer.refuse .badForm) := by
  unfold addSection
  rw [if_neg (not_not.2 hi), hb]
  refine if_pos fun ⟨hs, hk⟩ => ?_
  rcases hl with hl | hl
  · simp [hl] at hs
  · omega

/-- ADD SECTION of an OPEN book with a label and a key that may stand (R7). -/
theorem addSection_of_form (hi : i < Config.bookSlots) {b : Book} (hb : s.book i = some b) {key : Nat} {label : Str}
    (hl : sendable label = true) (hk : key < 256) :
    addSection i key label s =
      if b.sections.any (fun j => s.keyOf j == key) then (s, Answer.refuse .orderTaken)
      else if ¬b.sections.length < 32 then (s, Answer.refuse .listFull)
      else match tabFree 96 s.sections with
        | none => (s, Answer.refuse .tableFull)
        | some k =>
          ((s.setSec k (some { book := i, key := key, label := label.take 24, roster := [], sheets := [] })).setBook i
              (some { b with sections := s.placeSection k key b.sections }),
            Answer.done (decide (24 < label.length)) (byte2 k)) := by
  unfold addSection
  rw [if_neg (not_not.2 hi), hb]
  exact if_neg (not_not.2 ⟨hl, hk⟩)

theorem keyOf_any {l : List Nat} {key : Nat} :
    l.any (fun j => s.keyOf j == key) = true ↔ ∃ j ∈ l, s.keyOf j = key := by
  simp

end

/-- Settles O13. -/
theorem addSectionFollowsItsRule : Obligations.AddSectionFollowsItsRule := by
  unfold Obligations.AddSectionFollowsItsRule
  intro s g p tag i key label h hi
  refine ⟨fun hb => answers_of_served h rfl rfl (addSection_of_notOpen hi hb key label), fun b hb => ⟨fun hl => ?_, fun hl hk => ?_⟩⟩
  · exact answers_of_served h rfl rfl (addSection_of_badForm hi hb (.inl (sendable_eq_false.2 hl)))
  have hform := addSection_of_form hi hb ((sendable_iff label).2 hl) hk
  have hnew (hj : ∀ j ∈ b.sections, g.keyOf j ≠ key) : b.sections.any (fun j => g.keyOf j == key) = false := by
    rw [← Bool.not_eq_true, keyOf_any]
    push Not
    exact hj
  refine ⟨fun hj => ?_, fun hj hlen => ?_, fun hj hlen hfull => ?_, fun k hj hlen hfree => ?_⟩ <;>
    refine answers_of_served h rfl rfl (hform.trans ?_)
  · rw [if_pos (keyOf_any.2 hj)]
  · rw [hnew hj, if_neg Bool.false_ne_true, if_pos (not_lt.2 hlen)]
  · rw [hnew hj, if_neg Bool.false_ne_true, if_neg (not_not.2 hlen), tabFree_eq_none hfull]
  · rw [hnew hj, if_neg Bool.false_ne_true, if_neg (not_not.2 hlen), tabFree_of_isLowestFree hfree]
    rfl

/-! ### Layouts -/

/-- What R14 refuses in a record, check by check. -/
theorem Layout.not_valid_iff (l : Layout) :
    l.valid = false ↔
      l.inRange = false ∨ l.sheetWidth < l.bodyLeft + l.bodyWidth ∨ l.sheetHeight < l.bodyTop + l.bodyHeight ∨
        l.bodyWidth < l.columns * l.cellWidth + (l.columns - 1) * l.gutterAcross ∨ l.rowsMax < 1 ∨
        (l.featureFirst = true ∧ (l.columns < 3 ∨ l.rowsMax < 2)) ∨ (0 < l.captionHeight ∧ l.captionHeight < l.lineHeight) := by
  simp only [Layout.valid, Bool.and_eq_false_iff, decide_eq_false_iff_not, not_and_or, not_le, Classical.not_imp]
  tauto

/-- A record in its ranges has its head and its eye row inside the cell. -/
theorem Layout.inRange_cell {l : Layout} (h : l.inRange = true) : l.headHeight ≤ l.cellHeight ∧ l.eyeRow < l.cellHeight := by
  simp only [Layout.inRange, Bool.and_eq_true, decide_eq_true_eq] at h
  omega

/-- Settles O16: the head and eye rows are among the ranges of R13, the rest are the checks of R14. -/
theorem setLayoutRefusesABadRecord : Obligations.SetLayoutRefusesABadRecord := by
  unfold Obligations.SetLayoutRefusesABadRecord
  intro s g p tag i l flagsFit h
  refine ⟨?_, fun hv => ?_, fun hf hv hs => ?_⟩
  · rw [not_and_or, Bool.not_eq_true, Bool.not_eq_true, Layout.not_valid_iff]
    have hcell : l.inRange = false ∨ ¬(l.cellHeight < l.headHeight ∨ l.cellHeight ≤ l.eyeRow) := by
      cases hr : l.inRange with
      | false => exact .inl rfl
      | true =>
        obtain ⟨hhead, heye⟩ := Layout.inRange_cell hr
        exact .inr (by omega)
    tauto
  · exact answers_of_served h rfl rfl (if_pos hv)
  · refine answers_of_served h rfl rfl ?_
    unfold setLayout
    rw [if_neg (not_not.2 ⟨hf, hv⟩), hs]

/-! ### Reset -/

/-- Settles O54: each clause reads one field of the reset state. -/
theorem resetLeavesTheResetValues : Obligations.ResetLeavesTheResetValues := by
  unfold Obligations.ResetLeavesTheResetValues
  intro s
  refine ⟨_, rfl, fun i => ⟨rfl, rfl, rfl, rfl, rfl, rfl⟩, rfl, rfl, rfl, rfl, rfl, rfl, rfl, rfl, rfl, rfl, rfl, rfl, rfl, rfl,
    fun u i => rfl, fun p => ?_, fun q => ?_⟩
  · cases p <;> exact ⟨rfl, rfl, rfl, rfl, rfl, rfl, rfl⟩
  · cases q <;> exact ⟨rfl, rfl, rfl, rfl, rfl, rfl, rfl, rfl, rfl, rfl⟩

end Sys2Proof.Machine
end

section
/-! The changes of books, sections and sheets under the change guard, the removals, and the refusals of the book and roster
requests. -/

namespace Sys2Proof.Machine

open Sys2Proof

/-! ### Codes outside their sets, and in them -/

theorem absentPolicyOf_of_le {n : Nat} (h : 3 ≤ n) : absentPolicyOf n = none := by
  obtain ⟨k, rfl⟩ := Nat.exists_eq_add_of_le' h
  rfl

theorem withheldPolicyOf_of_le {n : Nat} (h : 2 ≤ n) : withheldPolicyOf n = none := by
  obtain ⟨k, rfl⟩ := Nat.exists_eq_add_of_le' h
  rfl

theorem flagOf_of_le {n : Nat} (h : 2 ≤ n) : flagOf n = none := by
  obtain ⟨k, rfl⟩ := Nat.exists_eq_add_of_le' h
  rfl

theorem flagOf_of_lt {n : Nat} (h : n < 2) : flagOf n = some (decide (n = 1)) := by
  interval_cases n <;> rfl

theorem roleOf_of_le {n : Nat} (h : 3 ≤ n) : roleOf n = none := by
  obtain ⟨k, rfl⟩ := Nat.exists_eq_add_of_le' h
  rfl

theorem roleOf_of_lt {n : Nat} (h : n < 3) : ∃ r, roleOf n = some r := by
  interval_cases n <;> exact ⟨_, rfl⟩

theorem entryStatusOf_of_le {n : Nat} (h : 3 ≤ n) : entryStatusOf n = none := by
  obtain ⟨k, rfl⟩ := Nat.exists_eq_add_of_le' h
  rfl

theorem entryStatusOf_of_lt {n : Nat} (h : n < 3) : ∃ r, entryStatusOf n = some r := by
  interval_cases n <;> exact ⟨_, rfl⟩

theorem nameFits_iff (x y : Str) : nameFits x y = true ↔ x ≠ [] ∧ (∀ c ∈ x, c < 95) ∧ ∀ c ∈ y, c < 95 := by
  simp only [nameFits, Bool.and_eq_true, sendable_iff, decide_eq_true_eq]
  tauto

theorem State.portraitUsable_iff (s : State) (o : Option Nat) :
    s.portraitUsable o = true ↔ ∀ q, o = some q → q < 3072 ∧ (s.portrait q).state ≠ .free := by
  cases o with
  | none => simp [State.portraitUsable]
  | some i =>
    simp only [State.portraitUsable, Bool.and_eq_true, decide_eq_true_eq, Option.some.injEq, forall_eq']
    rfl

/-! ### The check of a removal (R49) -/

section
variable {s : State} {sheets : List Nat}

/-- A sheet is in the way of a removal: it is locked, or a job names it. -/
def State.removable (s : State) (i : Nat) : Prop := s.isLocked i = false ∧ ∀ sh, s.sheet i = some sh → sh.job = none

theorem State.jobOf_sheet_eq_false {i : Nat} :
    ((s.sheet i).bind (·.job)).isSome = false ↔ ∀ sh, s.sheet i = some sh → sh.job = none := by
  cases s.sheet i <;> simp

theorem removalCheck_of_removable (h : ∀ i ∈ sheets, s.removable i) : removalCheck s sheets = none := by
  have hlock : (s.folioOrder.filter sheets.contains).find? s.isLocked = none :=
    find_in_set_none.2 fun i _ hi => (h i hi).1
  have hjob : (s.folioOrder.filter sheets.contains).find? (fun i => ((s.sheet i).bind (·.job)).isSome) = none :=
    find_in_set_none.2 fun i _ hi => State.jobOf_sheet_eq_false.2 (h i hi).2
  simp only [removalCheck, hlock, hjob]

theorem removalCheck_locked {before after : List Nat} {j : Nat} (hl : s.folioOrder = before ++ j :: after) (hj : j ∈ sheets)
    (hlock : s.isLocked j = true) (hb : ∀ x ∈ before, x ∈ sheets → s.isLocked x = false) :
    removalCheck s sheets = some (.locked, j) := by
  simp only [removalCheck, find_in_set hl hj hlock hb]

theorem removalCheck_inUse {before after : List Nat} {j : Nat} {sh : Sheet}
    (hlock : ∀ x ∈ s.folioOrder, x ∈ sheets → s.isLocked x = false) (hl : s.folioOrder = before ++ j :: after)
    (hj : j ∈ sheets) (hsh : s.sheet j = some sh) (hjob : sh.job.isSome)
    (hb : ∀ x ∈ before, x ∈ sheets → ∀ sx, s.sheet x = some sx → sx.job = none) :
    removalCheck s sheets = some (.inUse, j) := by
  have hfind := find_in_set (f := fun i => ((s.sheet i).bind (·.job)).isSome) hl hj (by simp [hsh, hjob])
    fun x hx hxs => State.jobOf_sheet_eq_false.2 (hb x hx hxs)
  simp only [removalCheck, find_in_set_none.2 hlock, hfind]

end

/-! ### The effects, case by case -/

section
variable {s : State}

theorem setBook_of_badIndex {i : Nat} (hi : 6 ≤ i) (label : Str) (folio aw ww tolerance h : Nat) :
    setBook i label folio aw ww tolerance h s = (s, Answer.refuse .badIndex) :=
  if_pos (not_lt.2 hi)

theorem setBook_of_notOpen {i : Nat} (hi : i < Config.bookSlots) (hb : s.book i = none) (label : Str)
    (folio aw ww tolerance h : Nat) : setBook i label folio aw ww tolerance h s = (s, Answer.refuse .notOpen) := by
  unfold setBook
  rw [if_neg (not_not.2 hi), hb]

theorem setBook_of_badForm {i : Nat} (hi : i < Config.bookSlots) {b : Book} (hb : s.book i = some b) {label : Str} (folio : Nat)
    {aw ww tolerance h : Nat} (hf : 3 ≤ aw ∨ 2 ≤ ww ∨ 2 ≤ h ∨ sendable label = false ∨ 256 ≤ tolerance) :
    setBook i label folio aw ww tolerance h s = (s, Answer.refuse .badForm) := by
  unfold setBook
  rw [if_neg (not_not.2 hi), hb]
  dsimp only
  split
  · rename_i hap hwp hhd
    refine if_neg fun ⟨hl, ht⟩ => ?_
    rcases hf with hf | hf | hf | hf | hf
    · simp [absentPolicyOf_of_le hf] at hap
    · simp [withheldPolicyOf_of_le hf] at hwp
    · simp [flagOf_of_le hf] at hhd
    · simp [hf] at hl
    · omega
  · rfl

/-- SET BOOK of an OPEN book with values that may stand (R4). -/
theorem setBook_of_form {i : Nat} (hi : i < Config.bookSlots) {b : Book} (hb : s.book i = some b) {label : Str} (folio : Nat)
    {aw ww tolerance h : Nat} {ap : AbsentPolicy} {wp : WithheldPolicy} (ha : absentPolicyOf aw = some ap)
    (hw : withheldPolicyOf ww = some wp) (hh : h < 2) (hl : sendable label = true) (ht : tolerance < 256) :
    setBook i label folio aw ww tolerance h s =
      applyChange s
        (s.setBook i (some { b with
          label := label.take 40, firstFolio := if folio = 0 then 1 else if 9999 < folio then 9999 else folio
          absent := ap, withheld := wp, tolerance := tolerance, holdOnDrift := decide (h = 1) }))
        (Answer.done (decide (40 < label.length ∨ folio = 0 ∨ 9999 < folio)) []) := by
  unfold setBook
  rw [if_neg (not_not.2 hi), hb, ha, hw, flagOf_of_lt hh, ← clampFolio_eq, ← folio_adjusted]
  exact if_pos ⟨hl, ht⟩

theorem closeBook_of_badIndex {i : Nat} (hi : 6 ≤ i) : closeBook i s = (s, Answer.refuse .badIndex) :=
  if_pos (not_lt.2 hi)

theorem closeBook_of_notOpen {i : Nat} (hi : i < Config.bookSlots) (hb : s.book i = none) :
    closeBook i s = (s, Answer.refuse .notOpen) := by
  unfold closeBook
  rw [if_neg (not_not.2 hi), hb]

/-- CLOSE BOOK of an OPEN book whose sheets are in the way (R49). -/
theorem closeBook_of_check {i : Nat} (hi : i < Config.bookSlots) {b : Book} (hb : s.book i = some b) {r : Reason} {j : Nat}
    (hr : removalCheck s (s.bookSheets b) = some (r, j)) : closeBook i s = (s, Answer.refuseAt r j) := by
  unfold closeBook
  simp only [if_neg (not_not.2 hi), hb, hr]

/-- CLOSE BOOK of an OPEN book whose sheets may go (R5). -/
theorem closeBook_of_removable {i : Nat} (hi : i < Config.bookSlots) {b : Book} (hb : s.book i = some b)
    (hr : ∀ j ∈ s.bookSheets b, s.removable j) :
    closeBook i s = ((b.sections.foldl State.removeSection s).setBook i none, Answer.ok) := by
  unfold closeBook
  simp only [if_neg (not_not.2 hi), hb, removalCheck_of_removable hr]

theorem setSection_of_free {k : Nat} (hk : s.sec k = none) (label : Str) (key : Nat) :
    setSection k label key s = (s, Answer.refuse .badIndex) := by
  unfold setSection
  rw [hk]

/-- SET SECTION of a section in an OPEN book (R8). -/
theorem setSection_of_sec {k : Nat} {c : Section} {b : Book} (hc : s.sec k = some c) (hb : s.book c.book = some b)
    (label : Str) (key : Nat) :
    setSection k label key s =
      if ¬(sendable label ∧ key < 256) then (s, Answer.refuse .badForm)
      else if (rosterRemove b.sections k).any (fun j => s.keyOf j == key) then (s, Answer.refuse .orderTaken)
      else
        applyChange s
          ((s.setSec k (some { c with label := label.take 24, key := key })).setBook c.book
            (some { b with sections := s.placeSection k key (rosterRemove b.sections k) }))
          (Answer.done (decide (24 < label.length)) []) := by
  simp only [setSection, hc, hb]

/-- Another section of the list holds the key (R8). -/
theorem keyTaken_iff {l : List Nat} {k key : Nat} :
    (rosterRemove l k).any (fun j => s.keyOf j == key) = true ↔ ∃ j ∈ l, j ≠ k ∧ s.keyOf j = key := by
  simp [rosterRemove]

theorem dropSection_of_free {k : Nat} (hk : s.sec k = none) : dropSection k s = (s, Answer.refuse .badIndex) := by
  unfold dropSection
  rw [hk]

/-- DROP SECTION of a section whose sheets are in the way (R49). -/
theorem dropSection_of_check {k : Nat} {c : Section} {b : Book} (hc : s.sec k = some c) (hb : s.book c.book = some b)
    {r : Reason} {j : Nat} (hr : removalCheck s c.sheets = some (r, j)) : dropSection k s = (s, Answer.refuseAt r j) := by
  simp only [dropSection, hc, hb, hr]

/-- DROP SECTION of a section whose sheets may go (R9). -/
theorem dropSection_of_removable {k : Nat} {c : Section} {b : Book} (hc : s.sec k = some c) (hb : s.book c.book = some b)
    (hr : ∀ j ∈ c.sheets, s.removable j) :
    dropSection k s =
      applyChange s ((s.removeSection k).setBook c.book (some { b with sections := rosterRemove b.sections k })) Answer.ok := by
  simp only [dropSection, hc, hb, removalCheck_of_removable hr]

theorem addSheet_of_free {k : Nat} (hk : s.sec k = none) (n : Nat) : addSheet k n s = (s, Answer.refuse .badIndex) := by
  unfold addSheet
  rw [hk]

/-- ADD SHEET to a section (R11). -/
theorem addSheet_of_sec {k : Nat} {c : Section} (hc : s.sec k = some c) (n : Nat) :
    addSheet k n s =
      if c.sheets.length < n then (s, Answer.refuse .badIndex)
      else if ¬c.sheets.length < 8 then (s, Answer.refuse .listFull)
      else match tabFree 192 s.sheets with
        | none => (s, Answer.refuse .tableFull)
        | some i =>
          applyChange s
            (((s.bumpEpoch i).setSheet i (some (Sheet.fresh k))).setSec k (some { c with sheets := insertAt c.sheets n i }))
            (Answer.done false (byte2 i)) := by
  unfold addSheet
  rw [hc]
  rfl

theorem dropSheet_of_free {i : Nat} (hi : s.sheet i = none) : dropSheet i s = (s, Answer.refuse .badIndex) := by
  unfold dropSheet
  rw [hi]

/-- DROP SHEET of a sheet that is in the way (R49). -/
theorem dropSheet_of_check {i : Nat} {sh : Sheet} {c : Section} (hs : s.sheet i = some sh) (hc : s.sec sh.section_ = some c)
    {r : Reason} {j : Nat} (hr : removalCheck s [i] = some (r, j)) : dropSheet i s = (s, Answer.refuseAt r j) := by
  simp only [dropSheet, hs, hc, hr]

/-- DROP SHEET of a sheet that may go (R12). -/
theorem dropSheet_of_removable {i : Nat} {sh : Sheet} {c : Section} (hs : s.sheet i = some sh)
    (hc : s.sec sh.section_ = some c) (hr : s.removable i) :
    dropSheet i s =
      applyChange s ((s.removeSheet i).setSec sh.section_ (some { c with sheets := rosterRemove c.sheets i })) Answer.ok := by
  have hr : removalCheck s [i] = none := removalCheck_of_removable (by simpa using hr)
  simp only [dropSheet, hs, hc, hr]

/-- SET LAYOUT of a sheet that is not IN_PRESS with a record that may stand (R15). -/
theorem setLayout_of_sheet {i : Nat} {l : Layout} {sh : Sheet} (hv : l.valid = true) (hs : s.sheet i = some sh)
    (hp : sh.state ≠ .inPress) :
    setLayout i l true s = applyChange s (s.setSheet i (some { sh with layout := some l })) Answer.ok := by
  unfold setLayout
  rw [if_neg (not_not.2 ⟨rfl, hv⟩), hs]
  exact if_neg hp

theorem approveSheet_of_free {i : Nat} (hi : s.sheet i = none) (epoch : Nat) :
    approveSheet i epoch s = (s, Answer.refuse .badIndex) := by
  unfold approveSheet
  rw [hi]

theorem unlockSheet_of_free {i : Nat} (hi : s.sheet i = none) : unlockSheet i s = (s, Answer.refuse .badIndex) := by
  unfold unlockSheet
  rw [hi]

end

/-- Settles O14: each row's effect is the guarded change its rule asks for. -/
theorem bookChangesPassTheGuard : Obligations.BookChangesPassTheGuard := by
  unfold Obligations.BookChangesPassTheGuard
  intro s g p tag i k n
  refine ⟨fun label folio aw ww tolerance h b ap wp hv hi hb ha hw hh hl ht => ?_,
    fun label key c b hv hc hb hl hk hj => ?_, fun c b hv hc hb hr => ?_, fun c hv hc hn hlen hfree => ?_,
    fun sh c hv hs hc hlock hjob => ?_, fun l sh hv hl hs hp => ?_⟩ <;> refine guarded_of_row hv rfl rfl ?_
  · exact setBook_of_form hi hb folio ha hw hh hl ht
  · have hfree : ¬(rosterRemove b.sections k).any (fun j => g.keyOf j == key) = true := by
      rw [keyTaken_iff]
      rintro ⟨j, hjb, hne, hkey⟩
      exact hj j hjb hne hkey
    rw [setSection_of_sec hc hb, if_neg (not_not.2 ⟨hl, hk⟩), if_neg hfree]
  · exact dropSection_of_removable hc hb hr
  · rw [addSheet_of_sec hc, if_neg (not_lt.2 hn), if_neg (not_not.2 hlen), tabFree_of_isLowestFree hfree]
    rfl
  · refine dropSheet_of_removable hs hc ⟨?_, fun sh' hsh' => ?_⟩
    · simpa only [State.isLocked, hs] using hlock
    · obtain rfl := Option.some.inj (hs.symm.trans hsh')
      exact hjob
  · exact setLayout_of_sheet hl hs hp

/-! ### The roster requests -/

section
variable {s : State}

theorem addEntry_of_free {k : Nat} (hk : s.sec k = none) (x y : Str) (role status : Nat) (o : Option Nat) :
    addEntry k x y role status o s = (s, Answer.refuse .badIndex) := by
  unfold addEntry
  rw [hk]

theorem addEntry_of_badForm {k : Nat} {c : Section} (hc : s.sec k = some c) {x y : Str} {role status : Nat} (o : Option Nat)
    (hf : 3 ≤ role ∨ 3 ≤ status ∨ nameFits x y = false) : addEntry k x y role status o s = (s, Answer.refuse .badForm) := by
  unfold addEntry
  rw [hc]
  dsimp only
  split
  · rename_i hr hst
    rcases hf with hf | hf | hf
    · simp [roleOf_of_le hf] at hr
    · simp [entryStatusOf_of_le hf] at hst
    · exact if_pos (by simp [hf])
  · rfl

/-- ADD ENTRY with a name, a role and a status that may stand is refused for its portrait, its roster, or the table (R34). -/
theorem addEntry_of_form {k : Nat} {c : Section} (hc : s.sec k = some c) {x y : Str} {role status : Nat} (o : Option Nat)
    (hr : role < 3) (hst : status < 3) (hn : nameFits x y = true) :
    (s.portraitUsable o = false → addEntry k x y role status o s = (s, Answer.refuse .badIndex)) ∧
      (s.portraitUsable o = true → 256 ≤ c.roster.length → addEntry k x y role status o s = (s, Answer.refuse .listFull)) ∧
      (s.portraitUsable o = true → c.roster.length < 256 → tabFree Config.entrySlots s.entries = none →
        addEntry k x y role status o s = (s, Answer.refuse .tableFull)) := by
  obtain ⟨r, hr⟩ := roleOf_of_lt hr
  obtain ⟨st, hst⟩ := entryStatusOf_of_lt hst
  unfold addEntry
  rw [hc, hr, hst]
  dsimp only
  rw [if_neg (not_not.2 hn)]
  refine ⟨fun ho => ?_, fun ho hl => ?_, fun ho hl hfree => ?_⟩
  · exact if_pos (by simp [ho])
  · rw [if_neg (not_not.2 ho)]
    exact if_pos (not_lt.2 hl)
  · have hl : c.roster.length < Config.entriesPerRoster := hl
    rw [if_neg (not_not.2 ho), if_neg (not_not.2 hl), hfree]

theorem dropEntry_of_free {i : Nat} (hi : s.entry i = none) : dropEntry i s = (s, Answer.refuse .badIndex) := by
  unfold dropEntry
  rw [hi]

theorem editName_of_free {i : Nat} (hi : s.entry i = none) (x y : Str) : editName i x y s = (s, Answer.refuse .badIndex) := by
  unfold editName
  rw [hi]

theorem editName_of_badForm {i : Nat} (hi : (s.entry i).isSome) {x y : Str} (hn : nameFits x y = false) :
    editName i x y s = (s, Answer.refuse .badForm) := by
  obtain ⟨e, he⟩ := Option.isSome_iff_exists.1 hi
  unfold editName
  rw [he]
  exact if_pos (by simp [hn])

theorem editRole_of_free {i : Nat} (hi : s.entry i = none) (role : Nat) : editRole i role s = (s, Answer.refuse .badIndex) := by
  unfold editRole
  rw [hi]

theorem editRole_of_badForm {i : Nat} (hi : (s.entry i).isSome) {role : Nat} (hr : 3 ≤ role) :
    editRole i role s = (s, Answer.refuse .badForm) := by
  obtain ⟨e, he⟩ := Option.isSome_iff_exists.1 hi
  simp only [editRole, he, roleOf_of_le hr]

theorem editStatus_of_free {i : Nat} (hi : s.entry i = none) (status : Nat) :
    editStatus i status s = (s, Answer.refuse .badIndex) := by
  unfold editStatus
  rw [hi]

theorem editStatus_of_badForm {i : Nat} (hi : (s.entry i).isSome) {status : Nat} (hst : 3 ≤ status) :
    editStatus i status s = (s, Answer.refuse .badForm) := by
  obtain ⟨e, he⟩ := Option.isSome_iff_exists.1 hi
  simp only [editStatus, he, entryStatusOf_of_le hst]

theorem editPortrait_of_badIndex {i : Nat} {o : Option Nat} (h : s.entry i = none ∨ s.portraitUsable o = false) :
    editPortrait i o s = (s, Answer.refuse .badIndex) := by
  unfold editPortrait
  split
  · rfl
  · rename_i he
    exact if_pos (by simpa [he] using h)

theorem moveEntry_of_badIndex {i k : Nat} (h : s.entry i = none ∨ s.sec k = none ∨
      ∃ e c d, s.entry i = some e ∧ s.sec k = some c ∧ s.sec e.section_ = some d ∧ c.book ≠ d.book) :
    moveEntry i k s = (s, Answer.refuse .badIndex) := by
  rcases h with h | h | ⟨e, c, d, he, hc, hd, hne⟩
  · simp only [moveEntry, h]
  · cases he : s.entry i <;> simp only [moveEntry, h, he]
  · simp only [moveEntry, he, hc, hd, if_pos hne]

theorem swapPortraits_of_badIndex {i j : Nat} (h : s.entry i = none ∨ s.entry j = none) :
    swapPortraits i j s = (s, Answer.refuse .badIndex) := by
  unfold swapPortraits
  split
  · simp_all
  · rfl

end

/-! ### The obligation's parts -/

/-- What a removal row answers when its check refuses. -/
theorem exec_of_removalCheck {s g : State} {p : Port} {tag : Nat} {c : Instr} {sheets : List Nat}
    (h : removes c s g p tag sheets) {r : Reason} {j : Nat} (hr : removalCheck g sheets = some (r, j)) :
    exec c s = .next (g.finish p tag (Answer.refuseAt r j)) := by
  rcases h with ⟨i, b, rfl, hv, hi, hb, rfl⟩ | ⟨k, x, b, rfl, hv, hx, hb, rfl⟩ | ⟨i, sh, x, rfl, hv, hs, hx, rfl⟩ <;>
    refine answers_of_served hv rfl rfl ?_
  · exact closeBook_of_check hi hb hr
  · exact dropSection_of_check hx hb hr
  · exact dropSheet_of_check hs hx hr

/-- What a removed sheet leaves (R22). -/
theorem State.removeSheet_frees (s : State) (i : Nat) :
    (s.removeSheet i).sheet i = none ∧ (s.removeSheet i).epoch i = s.epoch i + 1 ∧
      (s.removeSheet i).queue = s.queue.filter (fun j => decide (j ≠ i)) ∧
      (∀ j, j ≠ i → (s.removeSheet i).sheet j = s.sheet j ∧ (s.removeSheet i).epoch j = s.epoch j) ∧
      { s.removeSheet i with sheets := s.sheets, epochs := s.epochs, queue := s.queue } = s := by
  have hepoch (j : Nat) : (s.removeSheet i).epoch j = (s.bumpEpoch i).epoch j := rfl
  refine ⟨by simp [State.sheet_removeSheet], ?_, rfl, fun j hj => ⟨?_, ?_⟩, rfl⟩
  · rw [hepoch, State.epoch_bumpEpoch, if_pos rfl]
  · rw [State.sheet_removeSheet, if_neg hj]
  · rw [hepoch, State.epoch_bumpEpoch, if_neg hj]

theorem State.portrait_freeEntry {s : State} {i : Nat} {e : Entry} (h : s.entry i = some e) (q : Nat) :
    (s.freeEntry i).portrait q =
      { s.portrait q with useCount := (s.portrait q).useCount - if e.portrait = some q then 1 else 0 } := by
  rw [← State.portrait_useDown]
  simp only [State.freeEntry, h]
  rfl

/-- What a freed entry leaves (R61). -/
theorem State.freeEntry_frees {s : State} {i : Nat} {e : Entry} (h : s.entry i = some e) :
    (s.freeEntry i).entry i = none ∧ (∀ j, j ≠ i → (s.freeEntry i).entry j = s.entry j) ∧
      (∀ q, e.portrait = some q →
        (s.freeEntry i).portrait q = { s.portrait q with useCount := (s.portrait q).useCount - 1 }) ∧
      (∀ q, e.portrait ≠ some q → (s.freeEntry i).portrait q = s.portrait q) ∧
      { s.freeEntry i with entries := s.entries, portraits := s.portraits } = s := by
  refine ⟨by simp [State.entry_freeEntry], fun j hj => by simp [State.entry_freeEntry, hj], fun q hq => ?_, fun q hq => ?_, ?_⟩
  · rw [State.portrait_freeEntry h, if_pos hq]
  · rw [State.portrait_freeEntry h, if_neg hq, Nat.sub_zero]
  · rw [State.freeEntry_eq]

/-- Settles O15, by the lemma of each row's effect. -/
theorem removalsFreeWhatTheyName : Obligations.RemovalsFreeWhatTheyName := by
  unfold Obligations.RemovalsFreeWhatTheyName
  refine ⟨fun s g p tag c sheets hr => ⟨fun before j after hl hj hlock hb => ?_, fun before j after sh hlock hl hj hsh hjob hb => ?_⟩,
    fun s g p tag i b hv hi hb hfree => ?_, fun s i => ⟨s.removeSheet_frees i, fun e he => State.freeEntry_frees he⟩,
    fun s g p tag i k n x => ⟨fun hv => ⟨fun hi => ?_, fun hi hb => ?_⟩, fun folio aw ww tol hold hv => ⟨fun hi => ?_,
      fun hi hb => ?_, fun hi hb hf => ?_⟩, fun hv => ⟨fun hi => ?_, fun hi hb hn => ?_⟩, fun hv => ⟨fun hk => ?_,
      fun c b hc hb => ⟨fun hf => ?_, fun hx hn hj => ?_⟩⟩, fun hv hk => ?_, fun hv => ⟨fun hk => ?_, fun c hc =>
      ⟨fun hn => ?_, fun hn hl => ?_, fun hn hl hfull => ?_⟩⟩, fun hv hi => ?_, fun hv hi => ?_, fun hv hi => ?_⟩,
    fun s g p tag i k role status x y o => ⟨fun hv => ⟨fun hk => ?_, fun c hc => ⟨fun hf => ?_, fun hr hst hn =>
      ⟨fun ho => ?_, fun ho hl => ?_, fun ho hl hfull => ?_⟩⟩⟩, nameFits_iff x y, g.portraitUsable_iff o, fun hv hi => ?_,
      fun hv => ⟨fun hi => ?_, fun hi hn => ?_⟩, fun hv => ⟨fun hi => ?_, fun hi hr => ?_⟩, fun hv => ⟨fun hi => ?_,
      fun hi hst => ?_⟩, fun hv h => ?_, fun hv h => ?_, fun hv h => ?_⟩⟩
  · exact exec_of_removalCheck hr (removalCheck_locked hl hj hlock hb)
  · exact exec_of_removalCheck hr (removalCheck_inUse hlock hl hj hsh hjob hb)
  all_goals refine answers_of_served hv rfl rfl ?_
  · exact closeBook_of_removable hi hb hfree
  · exact closeBook_of_badIndex hi
  · exact closeBook_of_notOpen hi hb
  · exact setBook_of_badIndex hi ..
  · exact setBook_of_notOpen hi hb ..
  · obtain ⟨b, hb⟩ := Option.isSome_iff_exists.1 hb
    exact setBook_of_badForm hi hb folio (by rwa [sendable_eq_false])
  · exact addSection_of_badIndex hi ..
  · obtain ⟨b, hb⟩ := Option.isSome_iff_exists.1 hb
    exact addSection_of_badForm hi hb (.inr hn)
  · exact setSection_of_free hk ..
  · rw [setSection_of_sec hc hb]
    refine if_pos fun ⟨hs, hk⟩ => ?_
    rcases hf with hf | hf
    · simp [sendable_eq_false.2 hf] at hs
    · omega
  · rw [setSection_of_sec hc hb, if_neg (not_not.2 ⟨(sendable_iff x).2 hx, hn⟩), if_pos (keyTaken_iff.2 hj)]
  · exact dropSection_of_free hk
  · exact addSheet_of_free hk n
  · rw [addSheet_of_sec hc, if_pos hn]
  · rw [addSheet_of_sec hc, if_neg (not_lt.2 hn), if_pos (not_lt.2 hl)]
  · rw [addSheet_of_sec hc, if_neg (not_lt.2 hn), if_neg (not_not.2 hl), tabFree_eq_none hfull]
  · exact dropSheet_of_free hi
  · exact approveSheet_of_free hi k
  · exact unlockSheet_of_free hi
  · exact addEntry_of_free hk ..
  · exact addEntry_of_badForm hc o hf
  · obtain ⟨hport, -, -⟩ := addEntry_of_form hc o hr hst hn
    exact hport ho
  · obtain ⟨-, hlist, -⟩ := addEntry_of_form hc o hr hst hn
    exact hlist ho hl
  · obtain ⟨-, -, htable⟩ := addEntry_of_form hc o hr hst hn
    exact htable ho hl (tabFree_eq_none hfull)
  · exact dropEntry_of_free hi
  · exact editName_of_free hi x y
  · exact editName_of_badForm hi hn
  · exact editRole_of_free hi role
  · exact editRole_of_badForm hi hr
  · exact editStatus_of_free hi status
  · exact editStatus_of_badForm hi hst
  · exact editPortrait_of_badIndex h
  · exact moveEntry_of_badIndex h
  · exact swapPortraits_of_badIndex h

end Sys2Proof.Machine
end

section
/-! The frames: what the book and roster rows leave, and what the READ rows leave. -/

namespace Sys2Proof.Machine

open Sys2Proof

/-! ### Outside the books, the rosters and the desk -/

/-- The fields that the book and roster rows leave: all but the desk, the tables of the book and the use counts. -/
def State.apart (s : State) : PerPress Link × List Job × Nat × Renderer × Pool × ImagePort × SettingsPort ×
    Option InProgress × List Instr × (Nat → Portrait) :=
  (s.links, s.jobs, s.tagCounter, s.renderer, s.pool, s.image, s.settings, s.placing, s.pending,
    fun i => { s.portrait i with useCount := 0 })

theorem State.apart_eq_iff {s t : State} : t.apart = s.apart ↔
    t.links = s.links ∧ t.jobs = s.jobs ∧ t.tagCounter = s.tagCounter ∧ t.renderer = s.renderer ∧ t.pool = s.pool ∧
      t.image = s.image ∧ t.settings = s.settings ∧ t.placing = s.placing ∧ t.pending = s.pending ∧
      ∀ i, { t.portrait i with useCount := (s.portrait i).useCount } = s.portrait i := by
  have huse (p q : Portrait) : ({ p with useCount := 0 } : Portrait) = { q with useCount := 0 } ↔
      { p with useCount := q.useCount } = q := by
    cases p; cases q; simp
  simp only [State.apart, Prod.mk.injEq, funext_iff, huse]

section
variable (s : State)

@[simp] theorem State.setBook_apart (i : Nat) (o : Option Book) : (s.setBook i o).apart = s.apart := rfl
@[simp] theorem State.setSec_apart (k : Nat) (o : Option Section) : (s.setSec k o).apart = s.apart := rfl
@[simp] theorem State.setSheet_apart (i : Nat) (o : Option Sheet) : (s.setSheet i o).apart = s.apart := rfl
@[simp] theorem State.setEntry_apart (i : Nat) (o : Option Entry) : (s.setEntry i o).apart = s.apart := rfl
@[simp] theorem State.bumpEpoch_apart (i : Nat) : (s.bumpEpoch i).apart = s.apart := rfl
@[simp] theorem State.removeSheet_apart (i : Nat) : (s.removeSheet i).apart = s.apart := rfl

@[simp] theorem State.leaveRoster_apart (k i : Nat) : (s.leaveRoster k i).apart = s.apart := by
  rw [State.leaveRoster_eq]; rfl

@[simp] theorem State.joinRoster_apart (k i : Nat) (e : Entry) : (s.joinRoster k i e).apart = s.apart := by
  rw [State.joinRoster_eq]; rfl

@[simp] theorem State.useUp_apart (o : Option Nat) : (s.useUp o).apart = s.apart := by
  rw [State.apart_eq_iff, State.useUp_eq]
  exact ⟨rfl, rfl, rfl, rfl, rfl, rfl, rfl, rfl, rfl, fun i => by rw [← State.useUp_eq, State.portrait_useUp]⟩

@[simp] theorem State.useDown_apart (o : Option Nat) : (s.useDown o).apart = s.apart := by
  rw [State.apart_eq_iff, State.useDown_eq]
  exact ⟨rfl, rfl, rfl, rfl, rfl, rfl, rfl, rfl, rfl, fun i => by rw [← State.useDown_eq, State.portrait_useDown]⟩

@[simp] theorem State.freeEntry_apart (i : Nat) : (s.freeEntry i).apart = s.apart := by
  unfold State.freeEntry
  split <;> simp

@[simp] theorem State.rewriteEntry_apart (i : Nat) (e : Entry) : (s.rewriteEntry i e).apart = s.apart := by
  simp [State.rewriteEntry]

/-- A fold of operations that leave these fields leaves them. -/
theorem foldl_apart {α : Type} {f : State → α → State} (hf : ∀ s a, (f s a).apart = s.apart) (l : List α) :
    (l.foldl f s).apart = s.apart :=
  List.foldlRecOn (motive := fun t => t.apart = s.apart) _ _ rfl fun t ht a _ => (hf t a).trans ht

@[simp] theorem State.removeSection_apart (k : Nat) : (s.removeSection k).apart = s.apart := by
  unfold State.removeSection
  split
  · rfl
  · rw [State.setSec_apart, foldl_apart _ State.removeSheet_apart, foldl_apart _ State.freeEntry_apart]

@[simp] theorem State.staleOne_apart (i : Nat) : (s.staleOne i).apart = s.apart := by
  unfold State.staleOne
  split
  · rfl
  · split <;> try rfl
    split <;> rfl

@[simp] theorem State.staleAll_apart (set : List Nat) : (s.staleAll set).apart = s.apart :=
  foldl_apart s State.staleOne_apart set

/-- These fields after an effect. -/
def apartAfter (r : State × Answer) : PerPress Link × List Job × Nat × Renderer × Pool × ImagePort × SettingsPort ×
    Option InProgress × List Instr × (Nat → Portrait) :=
  r.1.apart

@[simp] theorem apartAfter_mk (a : Answer) : apartAfter (s, a) = s.apart := rfl

/-- A guarded change leaves what the change itself leaves. -/
theorem apartAfter_applyChange {t : State} (h : t.apart = s.apart) (ok : Answer) :
    apartAfter (applyChange s t ok) = s.apart := by
  unfold applyChange
  split
  · rfl
  · exact (State.staleAll_apart ..).trans h

end

/-! ### The book and roster rows

In every branch an effect refuses, or makes a change of the tables, with the guard or without. -/

section
variable (s : State)

theorem openBook_apart (i : Nat) (label : Str) (folio : Nat) : apartAfter (openBook i label folio s) = s.apart := by
  unfold openBook
  repeat' split
  all_goals simp

theorem setBook_apart (i : Nat) (label : Str) (folio aw ww tolerance h : Nat) : apartAfter (setBook i label folio aw ww tolerance h s) = s.apart := by
  unfold setBook
  repeat' split
  all_goals try rw [apartAfter_applyChange]
  all_goals simp

theorem closeBook_apart (i : Nat) : apartAfter (closeBook i s) = s.apart := by
  unfold closeBook
  repeat' split
  all_goals simp [foldl_apart _ State.removeSection_apart]

theorem addSection_apart (i key : Nat) (label : Str) : apartAfter (addSection i key label s) = s.apart := by
  unfold addSection
  repeat' split
  all_goals simp

theorem setSection_apart (k : Nat) (label : Str) (key : Nat) : apartAfter (setSection k label key s) = s.apart := by
  unfold setSection
  repeat' split
  all_goals try rw [apartAfter_applyChange]
  all_goals simp

theorem dropSection_apart (k : Nat) : apartAfter (dropSection k s) = s.apart := by
  unfold dropSection
  repeat' split
  all_goals try rw [apartAfter_applyChange]
  all_goals simp

theorem addSheet_apart (k n : Nat) : apartAfter (addSheet k n s) = s.apart := by
  unfold addSheet
  repeat' split
  all_goals try rw [apartAfter_applyChange]
  all_goals simp

theorem dropSheet_apart (i : Nat) : apartAfter (dropSheet i s) = s.apart := by
  unfold dropSheet
  repeat' split
  all_goals try rw [apartAfter_applyChange]
  all_goals simp

theorem setLayout_apart (i : Nat) (l : Layout) (flagsFit : Bool) : apartAfter (setLayout i l flagsFit s) = s.apart := by
  unfold setLayout
  repeat' split
  all_goals try rw [apartAfter_applyChange]
  all_goals simp

theorem addEntry_apart (k : Nat) (x y : Str) (role status : Nat) (o : Option Nat) : apartAfter (addEntry k x y role status o s) = s.apart := by
  unfold addEntry
  repeat' split
  all_goals try rw [apartAfter_applyChange]
  all_goals simp

theorem dropEntry_apart (i : Nat) : apartAfter (dropEntry i s) = s.apart := by
  unfold dropEntry
  repeat' split
  all_goals try rw [apartAfter_applyChange]
  all_goals simp

theorem editName_apart (i : Nat) (x y : Str) : apartAfter (editName i x y s) = s.apart := by
  unfold editName
  repeat' split
  all_goals try rw [apartAfter_applyChange]
  all_goals simp

theorem editRole_apart (i role : Nat) : apartAfter (editRole i role s) = s.apart := by
  unfold editRole
  repeat' split
  all_goals try rw [apartAfter_applyChange]
  all_goals simp

theorem editStatus_apart (i status : Nat) : apartAfter (editStatus i status s) = s.apart := by
  unfold editStatus
  repeat' split
  all_goals try rw [apartAfter_applyChange]
  all_goals simp

theorem editPortrait_apart (i : Nat) (o : Option Nat) : apartAfter (editPortrait i o s) = s.apart := by
  unfold editPortrait
  repeat' split
  all_goals try rw [apartAfter_applyChange]
  all_goals simp

theorem moveEntry_apart (i k : Nat) : apartAfter (moveEntry i k s) = s.apart := by
  unfold moveEntry
  repeat' split
  all_goals try rw [apartAfter_applyChange]
  all_goals simp

theorem swapPortraits_apart (i j : Nat) : apartAfter (swapPortraits i j s) = s.apart := by
  unfold swapPortraits
  repeat' split
  all_goals try rw [apartAfter_applyChange]
  all_goals simp

theorem State.finish_apart (p : Port) (tag : Nat) (a : Answer) : (s.finish p tag a).apart = s.apart := by
  simp [State.apart, State.portrait]

theorem State.grantDesk_apart {s g : State} {p : Port} {h : HeldRequest} (hg : s.grantDesk p = some (g, h)) :
    g.apart = s.apart := by
  obtain ⟨rfl, -⟩ | ⟨run, rfl, -⟩ := State.grantDesk_cases hg <;> rfl

/-- A request row leaves what its effect leaves. -/
theorem State.serve_apart {s : State} {p : Port} {row : Option Request → Option Effect}
    (h : ∀ g r op, row r = some op → apartAfter (op g) = g.apart) : (s.serve p row).apart = s.apart := by
  unfold State.serve
  split
  · rfl
  rename_i g r hg
  split
  · rfl
  · rename_i op hop
    exact (State.finish_apart ..).trans ((h g _ op hop).trans (State.grantDesk_apart hg))

end

/-- The book and roster rows leave the fields outside the books, the rosters and the desk. -/
theorem exec_bookRow_apart {c : Instr} {p : Port} {s t : State}
    (hc : c ∈ [.openBook p, .setBook p, .closeBook p, .addSection p, .setSection p, .dropSection p, .addSheet p, .dropSheet p,
      .setLayout p, .addEntry p, .dropEntry p, .editEntryName p, .editEntryRole p, .editEntryStatus p, .editEntryPortrait p,
      .moveEntry p, .swapPortraits p]) (h : exec c s = .next t) : t.apart = s.apart := by
  simp only [List.mem_cons, List.not_mem_nil, or_false] at hc
  rcases hc with rfl | rfl | rfl | rfl | rfl | rfl | rfl | rfl | rfl | rfl | rfl | rfl | rfl | rfl | rfl | rfl | rfl <;>
    cases h <;> refine State.serve_apart fun g r op hr => ?_ <;> split at hr <;> cases hr
  · exact openBook_apart g ..
  · exact setBook_apart g ..
  · exact closeBook_apart g ..
  · exact addSection_apart g ..
  · exact setSection_apart g ..
  · exact dropSection_apart g ..
  · exact addSheet_apart g ..
  · exact dropSheet_apart g ..
  · exact setLayout_apart g ..
  · exact addEntry_apart g ..
  · exact dropEntry_apart g ..
  · exact editName_apart g ..
  · exact editRole_apart g ..
  · exact editStatus_apart g ..
  · exact editPortrait_apart g ..
  · exact moveEntry_apart g ..
  · exact swapPortraits_apart g ..

/-! ### The READ rows -/

/-- The fields that the READ rows leave: all but the ports, the counters, and the arbiter's turn, run and engine. -/
def State.offDesk (s : State) : State × PerPort Nat × Nat :=
  ({ s with ports := State.reset.ports, arbiter := Arbiter.reset, counters := [] }, s.arbiter.weights, s.arbiter.imageWeight)

theorem State.offDesk_eq_iff {s t : State} : t.offDesk = s.offDesk ↔
    { t with ports := s.ports, arbiter := s.arbiter, counters := s.counters } = s ∧
      t.arbiter.weights = s.arbiter.weights ∧ t.arbiter.imageWeight = s.arbiter.imageWeight := by
  cases s; cases t
  simp [State.offDesk]

section
variable (s : State)

theorem State.finish_offDesk (p : Port) (tag : Nat) (a : Answer) : (s.finish p tag a).offDesk = s.offDesk := by
  have harb : (s.finish p tag a).arbiter = { s.arbiter with engine := none } := by
    unfold State.finish
    split <;> simp [State.formReply, State.enqueueReply]
  simp [State.offDesk, harb]

theorem State.grantDesk_offDesk {s g : State} {p : Port} {h : HeldRequest} (hg : s.grantDesk p = some (g, h)) :
    g.offDesk = s.offDesk := by
  obtain ⟨rfl, -⟩ | ⟨run, rfl, -⟩ := State.grantDesk_cases hg <;> rfl

theorem State.serve_offDesk {s : State} {p : Port} {row : Option Request → Option Effect}
    (h : ∀ g r op, row r = some op → (op g).1.offDesk = g.offDesk) : (s.serve p row).offDesk = s.offDesk := by
  unfold State.serve
  split
  · rfl
  rename_i g r hg
  split
  · rfl
  · rename_i op hop
    rw [State.finish_offDesk, h g _ op hop, State.grantDesk_offDesk hg]

end

/-- The READ rows, and the rows that touch a port's notices and mask alone, move nothing outside the desk. -/
theorem exec_readRow_offDesk {c : Instr} {p : Port} {s t : State}
    (hc : c ∈ [.readBook p, .readSection p, .readSheet p, .readEntry p, .readRosterIndex p, .readPortrait p, .readImagePort p,
      .readPlacementUnit p, .readPlacementResult p, .readTile p, .readJob p, .readPressJobCollections p, .readRenderer p,
      .readPressLink p, .readDeskPort p, .readArbiter p, .readCounters p, .readSettingsPort p, .readNotices p,
      .setNoticeMask p, .unknownRequestCode p]) (h : exec c s = .next t) : t.offDesk = s.offDesk := by
  simp only [List.mem_cons, List.not_mem_nil, or_false] at hc
  rcases hc with rfl | rfl | rfl | rfl | rfl | rfl | rfl | rfl | rfl | rfl | rfl | rfl | rfl | rfl | rfl | rfl | rfl | rfl |
      rfl | rfl | rfl <;>
    cases h <;> refine State.serve_offDesk fun g r op hr => ?_ <;> split at hr <;> cases hr <;> try rfl
  · unfold setNoticeMask
    split <;> rfl
  · dsimp only
    split <;> rfl

/-- Settles O59. -/
theorem bookAndReadRowsLeaveTheRest : Obligations.BookAndReadRowsLeaveTheRest := by
  unfold Obligations.BookAndReadRowsLeaveTheRest
  exact ⟨fun c p s t hc h => State.apart_eq_iff.1 (exec_bookRow_apart hc h),
    fun c p s t hc h => State.offDesk_eq_iff.1 (exec_readRow_offDesk hc h)⟩

end Sys2Proof.Machine
end

section
/-! What the READ rows answer. -/

namespace Sys2Proof.Machine

open Sys2Proof

/-- A served READ ends with what it reads. -/
theorem reads_of_served {c : Instr} {s g : State} {p : Port} {r : Request} {tag : Nat} {a : Answer}
    {row : Option Request → Option Effect} {f : State → Answer} (h : s.served p r tag = some g)
    (hc : exec c s = .next (s.serve p row)) (hr : row (some r) = some (reading f)) (hf : f g = a) :
    exec c s = .next (g.finish p tag a) :=
  answers_of_served h hc hr (by rw [reading, hf])

/-- The first place of an element in a list that it splits. -/
theorem findIdx_of_split {before after : List Nat} {i : Nat} (h : i ∉ before) :
    (before ++ i :: after).findIdx (· == i) = before.length := by
  rw [List.findIdx_append, if_neg, List.findIdx_cons]
  · simp
  · rw [List.findIdx_lt_length]
    rintro ⟨x, hx, he⟩
    exact h (by simpa [← eq_of_beq he] using hx)

theorem indexIn_of_split {before after : List Nat} {i : Nat} (h : i ∉ before) :
    indexIn (before ++ i :: after) i = some before.length := by
  simp [indexIn, findIdx_of_split h]

/-- A sheet as it is read begins with its section and its position (R10). -/
theorem sheetBytes_eq {s : State} {i : Nat} {sh : Sheet} {c : Section} {before after : List Nat}
    (hc : s.sec sh.section_ = some c) (hl : c.sheets = before ++ i :: after) (hi : i ∉ before) :
    ∃ rest, sheetBytes s i sh = byte2 sh.section_ ++ byte2 before.length ++ rest := by
  have hpos : s.positionOf i sh = some before.length := by
    simp [State.positionOf, hc, hl, indexIn_of_split hi]
  unfold sheetBytes
  rw [hpos]
  simp only [byteSlot, Option.getD_some, List.append_assoc, List.append_cancel_left_eq]
  exact ⟨_, rfl⟩

/-- A request in service has the engine, and its port asks no more. -/
theorem State.served_engine {s g : State} {p : Port} {r : Request} {tag : Nat} (h : s.served p r tag = some g) :
    g.arbiter.engine = some (.desk p) ∧ g.asking (.desk p) = false := by
  obtain ⟨k, hg, -, -⟩ := State.served_cases h
  obtain ⟨hslot, hengine⟩ := State.grantDesk_granted hg
  exact ⟨hengine, by rw [State.asking, hslot]; rfl⟩

section
variable {s g : State} {p : Port} {tag : Nat}

/-! ### The tables of the book -/

theorem readBook_answers {i : Nat} (h : s.served p (.readBook i) tag = some g) :
    (∀ b, i < 6 → g.book i = some b → exec (.readBook p) s = .next (g.finish p tag
      (Answer.done false (byte1 1 ++ (byte1 1 ++ bookBytes b) ++ byteList byte2 b.sections)))) ∧
    (i < 6 → g.book i = none → exec (.readBook p) s = .next (g.finish p tag
      (Answer.done false (byte1 0 ++ byte1 0 ++ byte2 0)))) ∧
    (6 ≤ i → exec (.readBook p) s = .next (g.finish p tag (Answer.refuse .badIndex))) := by
  refine ⟨fun b hi hb => ?_, fun hi hb => ?_, fun hi => reads_of_served h rfl rfl (if_neg (not_lt.2 hi))⟩ <;>
    refine reads_of_served h rfl rfl ((if_pos hi).trans ?_) <;> rw [hb] <;> rfl

theorem readRosterIndex_answers {i j : Nat} (h : s.served p (.readRosterIndex i j) tag = some g) :
    (∀ c e, g.sec i = some c → c.roster[j]? = some e → exec (.readRosterIndex p) s = .next (g.finish p tag
      (Answer.done false (byte2 e)))) ∧
    (∀ c, g.sec i = some c → c.roster.length ≤ j →
      exec (.readRosterIndex p) s = .next (g.finish p tag (Answer.refuse .badIndex))) ∧
    (g.sec i = none → exec (.readRosterIndex p) s = .next (g.finish p tag (Answer.refuse .badIndex))) := by
  refine ⟨fun c e hc he => ?_, fun c hc hj => ?_, fun hc => ?_⟩ <;> refine reads_of_served h rfl rfl ?_
  · simp [readRosterIndex, hc, he]
  · simp [readRosterIndex, hc, List.getElem?_eq_none hj]
  · simp [readRosterIndex, hc]

/-! ### Placement results and tiles -/

theorem readPlacementResult_answers {i : Nat} {sh : Sheet} (h : s.served p (.readPlacementResult i) tag = some g)
    (hs : g.sheet i = some sh) :
    (∀ r, sh.result = some r → exec (.readPlacementResult p) s = .next (g.finish p tag
      (Answer.done false (resultBytes r sh.hold)))) ∧
    (sh.result = none → exec (.readPlacementResult p) s = .next (g.finish p tag (Answer.refuse .notEligible))) := by
  refine ⟨fun r hr => ?_, fun hr => ?_⟩ <;> refine reads_of_served h rfl rfl ?_ <;> simp only [readPlacementResult, hs, hr]

theorem readTile_answers {i j : Nat} {sh : Sheet} (h : s.served p (.readTile i j) tag = some g) (hs : g.sheet i = some sh) :
    (∀ r t, sh.result = some r → r.tiles[j]? = some t → exec (.readTile p) s = .next (g.finish p tag
      (Answer.done false (tileBytes t)))) ∧
    (∀ r, sh.result = some r → r.tiles.length ≤ j →
      exec (.readTile p) s = .next (g.finish p tag (Answer.refuse .badIndex))) ∧
    (sh.result = none → exec (.readTile p) s = .next (g.finish p tag (Answer.refuse .notEligible))) := by
  refine ⟨fun r t hr ht => ?_, fun r hr hj => ?_, fun hr => ?_⟩ <;> refine reads_of_served h rfl rfl ?_
  · simp only [readTile, hs, hr, ht]
  · simp only [readTile, hs, hr, List.getElem?_eq_none hj]
  · simp only [readTile, hs, hr]

/-! ### Presses and units -/

theorem pressOf_of_le {n : Nat} (h : 2 ≤ n) : pressOf n = none := by
  obtain ⟨k, rfl⟩ := Nat.exists_eq_add_of_le' h
  rfl

theorem portOf_of_le {n : Nat} (h : 4 ≤ n) : portOf n = none := by
  obtain ⟨k, rfl⟩ := Nat.exists_eq_add_of_le' h
  rfl

end

/-- Settles O11, by what each READ returns on what stands. -/
theorem readRowsAnswerWithWhatStands : Obligations.ReadRowsAnswerWithWhatStands := by
  unfold Obligations.ReadRowsAnswerWithWhatStands
  refine ⟨fun s g p tag i j => ⟨fun h => readBook_answers h, fun h => ⟨fun hi => ?_, fun hi => ?_⟩,
      fun h => ⟨fun hi => ?_, fun sh c before after _ hsh hc hl hb => sheetBytes_eq hc hl hb, fun hi => ?_⟩,
      fun h => ⟨fun hi => ?_, fun hi => ?_⟩, fun h => readRosterIndex_answers h⟩,
    fun s g p tag i j => ⟨fun h => ⟨fun hi => ?_, fun hi => ?_⟩, fun h => ?_, fun h => ?_, fun h hs => ?_, fun h hs => ?_,
      fun sh h hs => readPlacementResult_answers h hs, fun sh h hs => readTile_answers h hs⟩,
    fun s g p tag n => ⟨fun h => ⟨fun j hj => ?_, fun hj => ?_⟩, fun h hn => ?_, fun h hn => ?_, fun q h hq => ?_, fun h => ?_,
      fun q h hq => ?_⟩,
    fun s g p tag n => ⟨fun h => ⟨fun d hd => ?_, fun hn => ?_⟩, fun h => ⟨?_, (State.served_engine h).2⟩,
      fun h => ⟨fun hn => ?_, fun hn => ?_⟩, fun h => ?_⟩⟩ <;>
    refine reads_of_served h rfl rfl ?_
  · exact if_pos hi
  · exact if_neg (not_lt.2 hi)
  · exact if_pos hi
  · exact if_neg (not_lt.2 hi)
  · exact if_pos hi
  · exact if_neg (not_lt.2 hi)
  · exact if_pos hi
  · exact if_neg (not_lt.2 hi)
  · rfl
  · rfl
  · simp only [readPlacementResult, hs]
  · simp only [readTile, hs]
  · simp only [readJob, hj]
  · simp only [readJob, hj]
  · simp only [readPressJobCollections, pressOf_of_le hn]
  · simp only [readPressLink, pressOf_of_le hn]
  · simp only [readPressJobCollections, hq]
  · rfl
  · simp only [readPressLink, hq]
  · simp only [readDeskPort, hd]
  · simp only [readDeskPort, portOf_of_le hn]
  · obtain ⟨hengine, -⟩ := State.served_engine h
    simp [readArbiter, hengine, ring, requesterCode]
  · exact if_pos hn
  · exact if_neg (by omega)
  · rfl

end Sys2Proof.Machine
end

section
/-! The change guard's two passes, the change sets, and the inputs of a sheet. -/

namespace Sys2Proof.Machine

open Sys2Proof

/-! ### The two passes of the guard (R46, R47) -/

theorem guard_locked {g : State} {set before after : List Nat} {i : Nat} (hl : g.folioOrder = before ++ i :: after)
    (hi : i ∈ set) (hlock : g.isLocked i = true) (hb : ∀ x ∈ before, x ∈ set → g.isLocked x = false) :
    guard g set = some (.locked, i) := by
  simp only [guard, find_in_set hl hi hlock hb]

theorem guard_inPress {g : State} {set before after : List Nat} {i : Nat} (hl : g.folioOrder = before ++ i :: after)
    (hi : i ∈ set) (hp : g.isInPress i = true) (hlock : ∀ x ∈ g.folioOrder, x ∈ set → g.isLocked x = false)
    (hb : ∀ x ∈ before, x ∈ set → g.isInPress x = false) : guard g set = some (.inPress, i) := by
  simp only [guard, find_in_set_none.2 hlock, find_in_set hl hi hp hb]

/-! ### Membership (R29, R30) -/

theorem State.mem_members {s : State} {b : Book} {c : Section} {m : Membership} {j : Nat} :
    j ∈ s.members b c m ↔ j ∈ c.roster ∧ ∃ e, s.entry j = some e ∧ membershipOf b.absent b.withheld e.status = m := by
  rw [State.members, List.mem_filter]
  refine and_congr_right fun _ => ?_
  cases s.entry j <;> simp

theorem membershipOf_tile {a : AbsentPolicy} {w : WithheldPolicy} {st : EntryStatus} :
    membershipOf a w st = .tile ↔ st = .present ∨ st = .absent ∧ a = .silhouette ∨ st = .withheld ∧ w = .silhouette := by
  cases st <;> cases a <;> cases w <;> simp [membershipOf]

theorem membershipOf_listed {a : AbsentPolicy} {w : WithheldPolicy} {st : EntryStatus} :
    membershipOf a w st = .listed ↔ st = .absent ∧ a = .list := by
  cases st <;> cases a <;> cases w <;> simp [membershipOf]

/-- Every entry of a share is in its section's roster and in the entry table (R30, R83). -/
theorem State.mem_shareOf {s : State} {b : Book} {c : Section} {i j : Nat} (h : j ∈ s.shareOf b c i) :
    ∃ e, s.entry j = some e := by
  obtain ⟨-, e, he, -⟩ := State.mem_members.1 (List.mem_of_mem_drop (List.mem_of_mem_take h))
  exact ⟨e, he⟩

/-! ### The inputs (R31) -/

/-- The tiles of a list of entries. -/
def State.tilesOf (s : State) (l : List Nat) : List TileEntry := l.filterMap fun j => (s.entry j).map (tileEntry j)

theorem State.tilesOf_map_id {s : State} {l : List Nat} (h : ∀ j ∈ l, ∃ e, s.entry j = some e) :
    (s.tilesOf l).map (·.id) = l := by
  induction l with
  | nil => rfl
  | cons j l ih =>
    obtain ⟨e, he⟩ := h j List.mem_cons_self
    have ih := ih fun k hk => h k (List.mem_cons_of_mem j hk)
    simpa [State.tilesOf, he, tileEntry] using ih

theorem State.mem_tilesOf {s : State} {l : List Nat} {t : TileEntry} (h : t ∈ s.tilesOf l) :
    ∃ e, s.entry t.id = some e ∧
      t = { id := t.id, surname := e.surname, given := e.given, role := e.role, status := e.status, portrait := e.portrait } := by
  obtain ⟨j, -, hj⟩ := List.mem_filterMap.1 h
  obtain ⟨e, he, rfl⟩ := Option.map_eq_some_iff.1 hj
  exact ⟨e, he, rfl⟩

theorem State.imageOf_eq (s : State) (t : TileEntry) : s.imageOf t =
    if t.status = .present then
      t.portrait.bind (fun q => (s.portrait q).current.map (fun m =>
        { width := m.width, height := m.height, face := m.face, generation := m.generation }))
    else none := by
  unfold State.imageOf
  cases t.status <;> rfl

/-- A sheet slot with no laid sheet has no inputs. -/
theorem State.inputs_none {s : State} {i : Nat} (h : ∀ sh, s.sheet i = some sh → sh.layout = none) : s.inputs i = none := by
  unfold State.inputs
  cases hs : s.sheet i with
  | none => rfl
  | some sh => simp [h sh hs]

/-- The inputs of a laid sheet (R31). -/
theorem State.inputs_some {s : State} {i : Nat} {sh : Sheet} {l : Layout} {c : Section} {b : Book} (hs : s.sheet i = some sh)
    (hl : sh.layout = some l) (hc : s.sec sh.section_ = some c) (hb : s.book c.book = some b) :
    s.inputs i = some
      { layout := l
        overflow := if s.lastSheet c = some i then some (s.overflowOf b c) else none
        tiles := s.tilesOf (s.shareOf b c i)
        images := (s.tilesOf (s.shareOf b c i)).map s.imageOf
        listed := if s.lastSheet c = some i then
          (s.members b c .listed).filterMap (fun j => (s.entry j).map (fun e => (e.given, e.surname))) else []
        footer := footerOf b c (s.folioOf b i)
        absent := b.absent, withheld := b.withheld, tolerance := b.tolerance, holdOnDrift := b.holdOnDrift } := by
  have hhome : s.home sh = some (b, c) := by simp [State.home, hc, hb]
  simp [State.inputs, hs, hl, hhome, State.tilesOf]

theorem State.mem_imageSet {s : State} {i q : Nat} : i ∈ s.imageSet q ↔ i ∈ s.folioOrder ∧
    ∃ inp t, s.inputs i = some inp ∧ t ∈ inp.tiles ∧ t.status = .present ∧ t.portrait = some q := by
  rw [State.imageSet, List.mem_filter]
  refine and_congr_right fun _ => ?_
  cases s.inputs i <;> simp [TileEntry.shows]

/-! ### Folios and the last sheet (R10, R16) -/

theorem State.folioOf_of_split {s : State} {b : Book} {i : Nat} {before after : List Nat}
    (h : s.bookSheets b = before ++ i :: after) (hi : i ∉ before) : s.folioOf b i = b.firstFolio + before.length := by
  rw [State.folioOf, h, findIdx_of_split hi]

theorem State.lastSheet_of_split {s : State} {c : Section} {k : Nat} {before after : List Nat}
    (h : c.sheets = before ++ k :: after) (hk : s.laid k = true) (ha : ∀ x ∈ after, s.laid x = false) :
    s.lastSheet c = some k := by
  have hnone : after.filter s.laid = [] := List.filter_eq_nil_iff.2 fun x hx => by simp [ha x hx]
  rw [State.lastSheet, h, List.filter_append, List.filter_cons_of_pos hk, hnone, List.getLast?_concat]

/-- Settles O17. -/
theorem theGuardRefusesLockedBeforeInPress : Obligations.TheGuardRefusesLockedBeforeInPress := by
  unfold Obligations.TheGuardRefusesLockedBeforeInPress
  refine fun g set => ⟨guard_eq_none, fun _ _ _ => guard_locked, fun _ _ _ => guard_inPress, fun _ _ => mem_changeSet,
    fun _ _ => State.mem_imageSet, fun _ => State.inputs_none, fun i sh l c b hs hl hc hb => ⟨⟨_, State.inputs_some hs hl hc hb,
      rfl, State.tilesOf_map_id fun _ => State.mem_shareOf, fun _ => State.mem_tilesOf, List.map_congr_left fun t _ => g.imageOf_eq t,
      fun hlast => ⟨if_pos hlast, g.members b c .listed, List.filter_sublist, fun j => ?_, if_pos hlast⟩,
      fun hlast => ⟨if_neg hlast, if_neg hlast⟩, rfl, rfl, rfl, rfl, rfl⟩,
    fun _ _ => State.folioOf_of_split, fun _ _ _ => State.lastSheet_of_split, List.filter_sublist, fun j => ?_⟩⟩
  · simp only [State.mem_members, membershipOf_listed]
  · simp only [State.tileSequence, State.mem_members, membershipOf_tile]

end Sys2Proof.Machine
end

section
/-! Approval: the distinct portraits of a sheet, their lock counts, and the promotion of portraits. -/

namespace Sys2Proof.Machine

open Sys2Proof

/-! ### Distinct members -/

theorem mem_distinct {l : List Nat} {q : Nat} : q ∈ distinct l ↔ q ∈ l := by
  induction l with
  | nil => rfl
  | cons a l ih =>
    simp only [distinct, List.mem_cons, List.mem_filter, ih, decide_eq_true_eq]
    tauto

theorem nodup_distinct (l : List Nat) : (distinct l).Nodup := by
  induction l with
  | nil => exact List.nodup_nil
  | cons a l ih => exact List.nodup_cons.2 ⟨by simp, ih.filter _⟩

/-- An update of each portrait of a list without repetition. -/
theorem State.portrait_mapPortraits {f : Portrait → Portrait} {l : List Nat} (hl : l.Nodup) (s : State) (q : Nat) :
    (l.foldl (fun t p => t.mapPortrait p f) s).portrait q = if q ∈ l then f (s.portrait q) else s.portrait q := by
  induction l generalizing s with
  | nil => simp
  | cons p l ih =>
    obtain ⟨hp, hl⟩ := List.nodup_cons.1 hl
    rw [List.foldl_cons, ih hl, State.portrait_mapPortrait]
    by_cases hq : q = p
    · subst hq
      simp [hp]
    · simp [hq]

/-! ### What APPROVE SHEET and UNLOCK SHEET leave before they examine -/

/-- A sheet's lock is set to a value, and the lock counts of its portraits move by `f` (R52, R53). -/
def State.lockMoved (s : State) (i : Nat) (sh : Sheet) (lock : Bool) (f : Portrait → Portrait) : State :=
  sh.shown.foldl (fun t p => t.mapPortrait p f) (s.setSheet i (some { sh with lock := lock }))

theorem State.lockMoved_moves (s : State) (i : Nat) (sh : Sheet) (lock : Bool) (f : Portrait → Portrait) :
    (s.lockMoved i sh lock f).sheet i = some { sh with lock := lock } ∧
      (∀ j, j ≠ i → (s.lockMoved i sh lock f).sheet j = s.sheet j) ∧
      (∀ q, (s.lockMoved i sh lock f).portrait q = if q ∈ sh.pins then f (s.portrait q) else s.portrait q) ∧
      { s.lockMoved i sh lock f with sheets := s.sheets, portraits := s.portraits } = s := by
  have heq : s.lockMoved i sh lock f = { s.setSheet i (some { sh with lock := lock }) with
      portraits := (s.lockMoved i sh lock f).portraits } := State.mapPortraits_eq f sh.shown _
  have hsheet (j : Nat) : (s.lockMoved i sh lock f).sheet j = (s.setSheet i (some { sh with lock := lock })).sheet j := by
    rw [heq]; rfl
  refine ⟨?_, fun j hj => ?_, fun q => ?_, ?_⟩
  · rw [hsheet, State.sheet_setSheet, if_pos rfl]
  · rw [hsheet, State.sheet_setSheet, if_neg hj]
  · rw [State.lockMoved, Sheet.shown, State.portrait_mapPortraits (nodup_distinct _)]
    simp only [mem_distinct]
    rfl
  · rw [heq]; rfl

section
variable {s : State} {i : Nat} {sh : Sheet}

theorem approveSheet_of_notEligible (hs : s.sheet i = some sh) {epoch : Nat}
    (h : sh.state ≠ .placed ∨ (s.epoch i).toNat ≠ epoch) : approveSheet i epoch s = (s, Answer.refuse .notEligible) := by
  unfold approveSheet
  rw [hs]
  by_cases hp : sh.state = .placed
  · exact (if_neg (not_not.2 hp)).trans (if_pos (h.resolve_left (not_not.2 hp)))
  · exact if_pos hp

/-- APPROVE SHEET of a PLACED sheet at its epoch (R52). -/
theorem approveSheet_of_placed (hs : s.sheet i = some sh) (hp : sh.state = .placed) {epoch : Nat}
    (he : (s.epoch i).toNat = epoch) :
    approveSheet i epoch s = if sh.lock then (s, Answer.ok) else
      (s.lockMoved i sh true (fun r => { r with lockCount := r.lockCount + 1 }), Answer.done false (byte2 sh.shown.length)) := by
  unfold approveSheet
  rw [hs]
  exact (if_neg (not_not.2 hp)).trans (if_neg (not_not.2 he))

/-- UNLOCK SHEET of a sheet (R53). -/
theorem unlockSheet_of_sheet (hs : s.sheet i = some sh) :
    unlockSheet i s = if ¬sh.lock then (s, Answer.ok) else
      ((s.lockMoved i sh false (fun r => { r with lockCount := r.lockCount - 1 })).examine sh.shown, Answer.ok) := by
  unfold unlockSheet
  rw [hs]
  rfl

end

/-! ### Promotion (R77) -/

/-- A portrait's record after its promotion. -/
def Portrait.promoted (r : Portrait) : Portrait := { r with current := r.pendingImage, pendingImage := none }

theorem State.promotes_iff (s : State) (i : Nat) : s.promotes i = true ↔
    (s.portrait i).pendingImage.isSome ∧ (s.portrait i).pinCount = 0 ∧ (s.portrait i).lockCount = 0 := by
  simp only [State.promotes, Bool.and_eq_true, decide_eq_true_eq, and_assoc]

theorem State.portrait_promoteOne (s : State) (i q : Nat) :
    (s.promoteOne i).portrait q = if q = i then (s.portrait q).promoted else s.portrait q := by
  have h : (s.promoteOne i).portrait q = (s.mapPortrait i Portrait.promoted).portrait q := rfl
  rw [h, State.portrait_mapPortrait]
  split
  · subst_vars; rfl
  · rfl

theorem State.portrait_promoteOnes {l : List Nat} (hl : l.Nodup) (s : State) (q : Nat) :
    (l.foldl State.promoteOne s).portrait q = if q ∈ l then (s.portrait q).promoted else s.portrait q := by
  induction l generalizing s with
  | nil => simp
  | cons p l ih =>
    obtain ⟨hp, hl⟩ := List.nodup_cons.1 hl
    rw [List.foldl_cons, ih hl, State.portrait_promoteOne]
    by_cases hq : q = p
    · subst hq
      simp [hp]
    · simp [hq]

/-- Promotions move the directory, the pool and the ports alone. -/
theorem State.promoteOnes_eq (l : List Nat) (s : State) :
    l.foldl State.promoteOne s =
      { s with portraits := (l.foldl State.promoteOne s).portraits, pool := (l.foldl State.promoteOne s).pool
               ports := (l.foldl State.promoteOne s).ports } := by
  induction l generalizing s with
  | nil => rfl
  | cons i l ih => rw [List.foldl_cons, ih]; rfl

/-! ### What the sheets that show a portrait, and their staling, depend on -/

/-- The part of a sheet that the shares of its section and its own inputs depend on. -/
def Sheet.laying (sh : Sheet) : Nat × Option Layout := (sh.section_, sh.layout)

/-- Two states hold the same books, sections and entries, and sheets that are laid alike. -/
def State.sameBooks (s t : State) : Prop :=
  t.books = s.books ∧ t.sections = s.sections ∧ (∀ i, (t.sheet i).map Sheet.laying = (s.sheet i).map Sheet.laying) ∧
    t.entries = s.entries

theorem State.folioOrder_congr {s t : State} (h : s.sameBooks t) : t.folioOrder = s.folioOrder := by
  obtain ⟨hb, hc, -, -⟩ := h
  simp only [State.folioOrder, State.bookSheets, State.book, State.sec, hb, hc]

theorem State.shareOf_congr {s t : State} (h : s.sameBooks t) (b : Book) (c : Section) (i : Nat) :
    t.shareOf b c i = s.shareOf b c i := by
  obtain ⟨-, -, hsh, he⟩ := h
  have hcap (j : Nat) : t.capacityOf j = s.capacityOf j := by
    have hj := hsh j
    cases hs : s.sheet j <;> cases ht : t.sheet j <;> simp_all [State.capacityOf, Sheet.laying]
  have hstart (l : List Nat) : t.startIn i l = s.startIn i l := by
    induction l with
    | nil => rfl
    | cons j l ih => rw [State.startIn, State.startIn, ih, hcap]
  simp only [State.shareOf, State.tileSequence, State.members, State.entry, he, hcap, hstart]

/-- The tiles of a sheet name entries, not images: they do not depend on the directory. -/
theorem State.inputs_tiles_congr {s t : State} (h : s.sameBooks t) (i : Nat) :
    (t.inputs i).map (·.tiles) = (s.inputs i).map (·.tiles) := by
  have hshare := State.shareOf_congr h
  obtain ⟨hb, hc, hsh, he⟩ := h
  have hentry : t.entry = s.entry := by funext j; simp only [State.entry, he]
  have hi := hsh i
  unfold State.inputs
  cases hs : s.sheet i with
  | none =>
    have ht : t.sheet i = none := by simpa [hs] using hi
    rw [ht]
    rfl
  | some sh =>
    obtain ⟨sh', ht, hlaying⟩ := Option.map_eq_some_iff.1 (hi.trans (congrArg _ hs))
    obtain ⟨hsec, hlayout⟩ := Prod.mk.inj hlaying
    have hhome : t.home sh' = s.home sh := by simp only [State.home, State.sec, State.book, hb, hc, hsec]
    rw [ht]
    dsimp only [bind, Option.bind]
    rw [hhome, hlayout]
    cases sh.layout with
    | none => rfl
    | some l =>
      cases s.home sh with
      | none => rfl
      | some x => simp only [Option.map_some, hshare, hentry]

theorem State.imageSet_congr {s t : State} (h : s.sameBooks t) (q : Nat) : t.imageSet q = s.imageSet q := by
  unfold State.imageSet
  rw [State.folioOrder_congr h]
  refine List.filter_congr fun i _ => ?_
  have hi := State.inputs_tiles_congr h i
  cases hs : s.inputs i <;> cases ht : t.inputs i <;> simp_all

/-- The sheets, the epochs and the placement queue of another state. -/
def State.withSheets (s u : State) : State := { s with sheets := u.sheets, epochs := u.epochs, queue := u.queue }

@[simp] theorem State.portrait_withSheets (s u : State) (q : Nat) : (s.withSheets u).portrait q = s.portrait q := rfl

/-- Staling reads and moves the sheets, the epochs and the queue alone. -/
theorem State.staleAll_withSheets (s u : State) (set : List Nat) :
    (s.withSheets u).staleAll set = s.withSheets (u.staleAll set) := by
  have hone (u : State) (i : Nat) : (s.withSheets u).staleOne i = s.withSheets (u.staleOne i) := by
    have hs : (s.withSheets u).sheet i = u.sheet i := rfl
    cases h : u.sheet i with
    | none => rw [State.staleOne_none h, State.staleOne_none (hs.trans h)]
    | some sh =>
      cases hj : sh.joins with
      | true => rw [State.staleOne_joins h hj, State.staleOne_joins (hs.trans h) hj]; rfl
      | false =>
        rw [State.staleOne_stays h hj, State.staleOne_stays (hs.trans h) hj]
        split <;> rfl
  exact List.foldl_hom (fun u => s.withSheets u) fun u i => hone u i

/-- The sheets that show a portrait of a list that promotes, in folio order (R77). -/
def State.promotionSet (s : State) (ps : List Nat) : List Nat :=
  s.folioOrder.filter fun i => ps.any fun q => s.promotes q && (s.imageSet q).contains i

/-- Examining promotes what promotes, and stales what shows it, in the state before it. -/
theorem State.examine_eq (s : State) (ps : List Nat) :
    s.examine ps = ((ps.filter s.promotes).foldl State.promoteOne s).withSheets (s.staleAll (s.promotionSet ps)) := by
  obtain ⟨t, ht⟩ : ∃ t, (ps.filter s.promotes).foldl State.promoteOne s = t := ⟨_, rfl⟩
  have heq : t = { s with portraits := t.portraits, pool := t.pool, ports := t.ports } := ht ▸ State.promoteOnes_eq _ s
  have hbooks : s.sameBooks t := by rw [heq]; exact ⟨rfl, rfl, fun _ => rfl, rfl⟩
  have hsheets : t.withSheets s = t := by rw [heq]; rfl
  have hset : t.folioOrder.filter (fun i => (ps.filter s.promotes).any fun p => (t.imageSet p).contains i) =
      s.promotionSet ps := by
    simp only [State.folioOrder_congr hbooks, State.imageSet_congr hbooks, List.any_filter]
    rfl
  unfold State.examine
  dsimp only
  rw [ht, hset]
  conv_lhs => rw [← hsheets]
  exact State.staleAll_withSheets t s _

theorem State.portrait_examine {ps : List Nat} (hp : ps.Nodup) (s : State) (q : Nat) :
    (s.examine ps).portrait q = if q ∈ ps ∧ s.promotes q = true then (s.portrait q).promoted else s.portrait q := by
  rw [State.examine_eq, State.portrait_withSheets, State.portrait_promoteOnes (hp.filter _)]
  simp only [List.mem_filter]

/-- Outside the directory, the pool, the ports, the sheets, the epochs and the queue examining moves nothing. -/
theorem State.examine_frame (s : State) (ps : List Nat) :
    { s.examine ps with
      portraits := s.portraits, pool := s.pool, ports := s.ports, sheets := s.sheets, queue := s.queue
      epochs := s.epochs } = s := by
  rw [State.examine_eq, State.promoteOnes_eq]
  rfl

/-- What examining moves, and what it leaves (R77). -/
theorem State.examine_moves {ps : List Nat} (hp : ps.Nodup) (s : State) :
    (∀ q, (s.examine ps).portrait q =
      if q ∈ ps ∧ s.promotes q = true then (s.portrait q).promoted else s.portrait q) ∧
    (s.examine ps).sheets = (s.staleAll (s.promotionSet ps)).sheets ∧
    (s.examine ps).queue = (s.staleAll (s.promotionSet ps)).queue ∧
    (s.examine ps).epochs = (s.staleAll (s.promotionSet ps)).epochs ∧
    { s.examine ps with
      portraits := s.portraits, pool := s.pool, ports := s.ports, sheets := s.sheets, queue := s.queue
      epochs := s.epochs } = s := by
  refine ⟨s.portrait_examine hp, ?_, ?_, ?_, s.examine_frame ps⟩ <;> rw [State.examine_eq] <;> rfl

/-- A portrait that does not promote is left. -/
theorem State.examine_of_not_promotes {s : State} {i : Nat} (h : s.promotes i = false) : s.examine [i] = s := by
  simp [State.examine, h, State.staleAll]

/-- One portrait that promotes stales the sheets that show it. -/
theorem State.examine_of_promotes {s : State} {i : Nat} (h : s.promotes i = true) :
    s.examine [i] = (s.promoteOne i).staleAll (s.imageSet i) := by
  have hbooks : s.sameBooks (s.promoteOne i) := ⟨rfl, rfl, fun _ => rfl, rfl⟩
  have hset : (s.promoteOne i).imageSet i = s.imageSet i := State.imageSet_congr hbooks i
  have hfilter : (s.promoteOne i).folioOrder.filter (fun j => ((s.promoteOne i).imageSet i).contains j) = s.imageSet i := by
    rw [hset]
    refine List.filter_congr fun j hj => ?_
    rw [Bool.eq_iff_iff, List.contains_iff_mem, State.imageSet, List.mem_filter]
    exact and_iff_right hj
  simp only [State.examine, List.filter_cons, h, if_true, List.filter_nil, List.foldl_cons, List.foldl_nil, List.any_cons,
    List.any_nil, Bool.or_false, hfilter]

/-! ### The pool of a promotion -/

theorem Pool.blocksOf_giveBack (pl : Pool) {o o' : Owner} (h : o' ≠ o) : (pl.giveBack o).blocksOf o' = pl.blocksOf o' := by
  unfold Pool.blocksOf Pool.giveBack
  rw [List.filter_filter]
  congr 1
  refine List.filter_congr fun e _ => ?_
  by_cases he : e.2 = o' <;> simp [he, h]

theorem Pool.blocksOf_giveBack_self (pl : Pool) (o : Owner) : (pl.giveBack o).blocksOf o = [] := by
  simp [Pool.blocksOf, Pool.giveBack]

/-- An owner without blocks takes those that are passed to it. -/
theorem Pool.blocksOf_pass {pl : Pool} {src dst : Owner} (h : pl.blocksOf dst = []) :
    (pl.pass src dst).blocksOf dst = pl.blocksOf src := by
  have hd : ∀ e ∈ pl.owned, e.2 ≠ dst := by simpa [Pool.blocksOf] using h
  unfold Pool.blocksOf Pool.pass
  rw [List.filter_map, List.map_map]
  have hfilter : pl.owned.filter ((fun e => decide (e.2 = dst)) ∘ fun e => (e.1, if e.2 = src then dst else e.2)) =
      pl.owned.filter fun e => decide (e.2 = src) := by
    refine List.filter_congr fun e he => ?_
    by_cases hs : e.2 = src
    · simp [hs]
    · simp [hs, hd e he]
  rw [hfilter]
  rfl

theorem Pool.blocksOf_pass_src (pl : Pool) {src dst : Owner} (h : dst ≠ src) : (pl.pass src dst).blocksOf src = [] := by
  simp only [Pool.blocksOf, Pool.pass, List.map_eq_nil_iff, List.filter_eq_nil_iff, List.mem_map, decide_eq_true_eq]
  rintro _ ⟨e, -, rfl⟩
  dsimp only
  split
  · exact h
  · assumption

/-- Settles O22. -/
theorem approvalLocksTheSheetAndItsPortraits : Obligations.ApprovalLocksTheSheetAndItsPortraits := by
  unfold Obligations.ApprovalLocksTheSheetAndItsPortraits
  refine ⟨fun s g p tag i epoch sh hs => ⟨fun h => ⟨fun hn => ?_, fun hp he hl => ?_, fun hp he hl => ?_⟩,
      fun h => ⟨fun hl => ?_, fun hl => ?_⟩, nodup_distinct _, fun q => mem_distinct⟩,
    fun s ps set hp hset => ?_,
    fun s i => ⟨s.promotes_iff i, State.examine_of_not_promotes, State.examine_of_promotes, ?_, fun j hj => ?_, rfl, ?_, ?_,
      fun a => rfl,
      fun p => congrArg DeskPort.notices (State.port_mapPorts _ _ p)⟩⟩
  · exact answers_of_served h rfl rfl (approveSheet_of_notEligible hs hn)
  · exact answers_of_served h rfl rfl ((approveSheet_of_placed hs hp he).trans (if_pos hl))
  · exact ⟨_, answers_of_served h rfl rfl ((approveSheet_of_placed hs hp he).trans (if_neg (by simp [hl]))),
      g.lockMoved_moves i sh true _⟩
  · exact answers_of_served h rfl rfl ((unlockSheet_of_sheet hs).trans (if_pos (by simp [hl])))
  · exact ⟨_, answers_of_served h rfl rfl ((unlockSheet_of_sheet hs).trans (if_neg (not_not.2 hl))),
      g.lockMoved_moves i sh false _⟩
  · rw [hset]
    exact s.examine_moves hp
  · exact (s.portrait_promoteOne i i).trans (if_pos rfl)
  · rw [State.portrait_promoteOne, if_neg hj]
  · exact (Pool.blocksOf_pass (Pool.blocksOf_giveBack_self _ _)).trans (Pool.blocksOf_giveBack _ (by simp))
  · exact Pool.blocksOf_pass_src _ (by simp)

end Sys2Proof.Machine
end

section
/-! The end mark of a load and its grant. -/

namespace Sys2Proof.Machine

open Sys2Proof

/-! ### What latches and counts leave in the notice sets -/

/-- A latch sets its own flag and no other (R181). -/
theorem DeskPort.notices_latch (d : DeskPort) (k : Notice) (x : Subject) (n : Nat) :
    (tabFind (d.latch k x).notices n).map (·.subject) =
      if n = k.flag then some x else (tabFind d.notices n).map (·.subject) := by
  simp only [DeskPort.latch, DeskPort.updateAttention, tabFind_tabInsert]
  split <;> rfl

theorem DeskPort.notices_latch_other (d : DeskPort) {k : Notice} (x : Subject) {n : Nat} (h : n ≠ k.flag) :
    tabFind (d.latch k x).notices n = tabFind d.notices n := by
  simp only [DeskPort.latch, DeskPort.updateAttention, tabFind_tabInsert, if_neg h]

/-- A raise latches COUNTER_WRAP at most (R187). -/
theorem State.notices_raise (s : State) (u i : Nat) (p : Port) {n : Nat} (h : n ≠ 11) :
    tabFind ((s.raise u i).port p).notices n = tabFind (s.port p).notices n := by
  unfold State.raise
  split
  · rw [State.latchAll, State.port_mapPorts, DeskPort.notices_latch_other _ _ h]
    rfl
  · rfl

/-! ### The end mark as it arrives (R68, R71) -/

section
variable {s : State} {r : LoadRecord} {check : Word32}

theorem State.takeEndMark_refused (hs : s.image.state = .receiving) (hr : s.image.load = some r) {reason : Reason}
    (h : r.endCheck check = some reason) :
    s.takeEndMark check = s.dropLoad.imageRefuseLatch reason (some r.header.slot) := by
  simp only [State.takeEndMark, hs, hr, h, State.refuseLoad, ImagePort.target, Option.map_some]

theorem State.takeEndMark_waits (hs : s.image.state = .receiving) (hr : s.image.load = some r)
    (h : r.endCheck check = none) :
    s.takeEndMark check = { s with image := { s.image with state := .endWait, timer := none } } := by
  simp only [State.takeEndMark, hs, hr, h]

end

/-! ### The grant (R72 to R74) -/

section
variable {s g : State} {r : LoadRecord}

/-- A granted end mark is taken, and the engine becomes FREE. -/
theorem exec_imageEndMarkGrant (hs : s.image.state = .endWait) (hg : s.grantImage = some g) :
    exec .imageEndMarkGrant s = .next g.endMarkGrant.freeEngine := by
  have h : exec .imageEndMarkGrant s = execImageEndMarkGrant s := rfl
  rw [h, execImageEndMarkGrant, hs]
  simp only [hg]

theorem State.endMarkGrant_frozen (hr : s.image.load = some r) (hl : 0 < (s.portrait r.header.slot).lockCount) :
    s.endMarkGrant = s.dropLoad.imageRefuseLatch .frozen (some r.header.slot) := by
  simp only [State.endMarkGrant, hr, if_pos hl, State.refuseLoad, ImagePort.target, Option.map_some]

theorem State.endMarkGrant_unpinned (hr : s.image.load = some r) (hl : (s.portrait r.header.slot).lockCount = 0)
    (hp : (s.portrait r.header.slot).pinCount = 0) :
    s.endMarkGrant = if (s.imageSet r.header.slot).any s.isInPress then
      s.dropLoad.imageRefuseLatch .inPress (some r.header.slot) else s.commitLoad r := by
  simp only [State.endMarkGrant, hr, hl, hp, State.refuseLoad, ImagePort.target, Option.map_some, lt_irrefl, if_false, if_true]

theorem State.endMarkGrant_pinned (hr : s.image.load = some r) (hl : (s.portrait r.header.slot).lockCount = 0)
    (hp : 0 < (s.portrait r.header.slot).pinCount) : s.endMarkGrant = s.pendLoad r := by
  simp only [State.endMarkGrant, hr, hl, lt_irrefl, if_false, if_neg hp.ne']

end

/-- A load is counted and answered, and the engine becomes FREE (R72, R186). -/
def State.loadEnds (s : State) (o : LoadOutcome) (gen : Nat) : State :=
  ((s.raise imageUnit 0).imageReply .done none o (some gen)).freeEngine

/-- What the end of a load moves, and what it leaves. -/
theorem State.loadEnds_moves (s : State) (o : LoadOutcome) (gen : Nat) :
    (s.loadEnds o gen).image = { s.image with
      reply := some { status := .done, reason := none, outcome := o, value := some gen, freeCount := s.pool.freeCount } } ∧
    (∀ p n, n ≠ 11 → tabFind ((s.loadEnds o gen).port p).notices n = tabFind (s.port p).notices n) ∧
    (s.loadEnds o gen).arbiter.engine = none ∧ (s.loadEnds o gen).counters = (s.raise 6 0).counters ∧
    { s.loadEnds o gen with ports := s.ports, image := s.image, arbiter := s.arbiter, counters := s.counters } = s := by
  refine ⟨?_, fun p n h => s.notices_raise imageUnit 0 p h, rfl, rfl, ?_⟩
  · simp [State.loadEnds, State.imageReply]
  · simp [State.loadEnds, State.imageReply]

theorem State.portrait_committed (s : State) (r : LoadRecord) (j : Nat) :
    (s.committed r).portrait j = if j = r.header.slot then
      { s.portrait r.header.slot with
        state := .ready, current := some (r.image (((s.portrait r.header.slot).generation + 1) % 256)), pendingImage := none
        generation := ((s.portrait r.header.slot).generation + 1) % 256 }
      else s.portrait j := by
  have h : (s.committed r).portrait j = (s.mapPortrait r.header.slot fun q =>
    { q with state := .ready, current := some (r.image (nextGeneration (s.portrait r.header.slot).generation))
             pendingImage := none, generation := nextGeneration (s.portrait r.header.slot).generation }).portrait j := rfl
  rw [h, State.portrait_mapPortrait]
  rfl

/-- The state of a commit before its answer: the image is current, the sheets that show it are staled, and PORTRAIT_COMMITTED is
latched (R73). -/
def State.committedAll (s g : State) (r : LoadRecord) : State :=
  ((g.committed r).withSheets (s.staleAll (s.imageSet r.header.slot))).latchAll .portraitCommitted (.portrait (some r.header.slot))

theorem State.commitLoad_ends {s g : State} {run : Nat} (hg : g = s.hold .image run) (r : LoadRecord) :
    (g.commitLoad r).freeEngine =
      (s.committedAll g r).loadEnds .committed (((s.portrait r.header.slot).generation + 1) % 256) := by
  subst hg
  have hbooks : s.sameBooks ((s.hold .image run).committed r) := ⟨rfl, rfl, fun _ => rfl, rfl⟩
  have hsheets : ((s.hold .image run).committed r).withSheets s = (s.hold .image run).committed r := rfl
  have hstale : ((s.hold .image run).committed r).staleAll (((s.hold .image run).committed r).imageSet r.header.slot) =
      ((s.hold .image run).committed r).withSheets (s.staleAll (s.imageSet r.header.slot)) := by
    rw [State.imageSet_congr hbooks, ← State.staleAll_withSheets, hsheets]
  rw [State.commitLoad_eq, hstale]
  rfl

/-- The state of a load that goes pending, before its answer (R74). -/
def State.pended (s : State) (r : LoadRecord) : State :=
  (({ s with pool := (s.pool.giveBack (.pending r.header.slot)).pass .inbound (.pending r.header.slot) } : State).mapPortrait
    r.header.slot fun q =>
    { q with pendingImage := some (r.image (nextGeneration (s.portrait r.header.slot).generation))
             generation := nextGeneration (s.portrait r.header.slot).generation }).imageIdle

theorem State.pendLoad_ends (s : State) (r : LoadRecord) :
    (s.pendLoad r).freeEngine = (s.pended r).loadEnds .pending (((s.portrait r.header.slot).generation + 1) % 256) := rfl

theorem State.portrait_pended (s : State) (r : LoadRecord) (j : Nat) :
    (s.pended r).portrait j = if j = r.header.slot then
      { s.portrait r.header.slot with
        pendingImage := some (r.image (((s.portrait r.header.slot).generation + 1) % 256))
        generation := ((s.portrait r.header.slot).generation + 1) % 256 }
      else s.portrait j := by
  have h : (s.pended r).portrait j = (s.mapPortrait r.header.slot fun q =>
    { q with pendingImage := some (r.image (nextGeneration (s.portrait r.header.slot).generation))
             generation := nextGeneration (s.portrait r.header.slot).generation }).portrait j := rfl
  rw [h, State.portrait_mapPortrait]
  rfl

/-- The grant that commits (R73). -/
theorem exec_endMark_commits {s g : State} {r : LoadRecord} {i gen : Nat} (hs : s.image.state = .endWait)
    (hr : s.image.load = some r) (hg : s.grantImage = some g) (hi : r.header.slot = i)
    (hgen : gen = ((s.portrait i).generation + 1) % 256) (hl : (s.portrait i).lockCount = 0)
    (hp : (s.portrait i).pinCount = 0) (hset : ∀ j ∈ s.imageSet i, s.isInPress j = false) :
    ∃ t : State, exec .imageEndMarkGrant s = .next t ∧
      t.portrait i = { s.portrait i with
        state := .ready, current := some (r.image gen), pendingImage := none, generation := gen } ∧
      (∀ j, j ≠ i → t.portrait j = s.portrait j) ∧
      t.pool = ((s.pool.giveBack (.current i)).giveBack (.pending i)).pass .inbound (.current i) ∧
      t.sheets = (s.staleAll (s.imageSet i)).sheets ∧ t.queue = (s.staleAll (s.imageSet i)).queue ∧
      t.epochs = (s.staleAll (s.imageSet i)).epochs ∧
      (∀ p, (tabFind (t.port p).notices 8).map (·.subject) = some (.portrait (some i))) ∧
      t.image = { state := .idle, header := none, load := none, timer := none
                  reply := some { status := .done, reason := none, outcome := .committed, value := some gen
                                  freeCount := t.pool.freeCount } } ∧
      t.arbiter.engine = none ∧ t.counters = (s.raise 6 0).counters ∧
      { t with
         portraits := s.portraits, pool := s.pool, sheets := s.sheets, queue := s.queue, epochs := s.epochs
         ports := s.ports, image := s.image, arbiter := s.arbiter, counters := s.counters } = s := by
  subst hi hgen
  obtain ⟨run, hrun⟩ := State.grantImage_holds hg
  have hgrant : g.endMarkGrant = g.commitLoad r := by
    have himage : ¬(g.imageSet r.header.slot).any g.isInPress = true := by
      have hbooks : s.sameBooks g := hrun ▸ ⟨rfl, rfl, fun _ => rfl, rfl⟩
      rw [State.imageSet_congr hbooks, hrun, List.any_eq_true]
      rintro ⟨j, hj, hpress⟩
      exact Bool.false_ne_true ((hset j hj).symm.trans hpress)
    subst hrun
    exact (State.endMarkGrant_unpinned (s := s.hold .image run) hr hl hp).trans (if_neg himage)
  have hexec := exec_imageEndMarkGrant hs hg
  rw [hgrant, State.commitLoad_ends hrun] at hexec
  obtain ⟨himg, hnot, heng, hcnt, hframe⟩ :=
    (s.committedAll g r).loadEnds_moves .committed (((s.portrait r.header.slot).generation + 1) % 256)
  subst hrun
  have hpool := congrArg State.pool hframe
  have hsheets := congrArg State.sheets hframe
  have hqueue := congrArg State.queue hframe
  have hepochs := congrArg State.epochs hframe
  have hrest := congrArg (fun u : State => ({ u with
    portraits := s.portraits, pool := s.pool, sheets := s.sheets, queue := s.queue, epochs := s.epochs
    ports := s.ports, image := s.image, arbiter := s.arbiter, counters := s.counters } : State)) hframe
  have hportrait (j : Nat) := (congrArg (fun u : State => u.portrait j) hframe).trans
    (State.portrait_committed (s.hold .image run) r j)
  refine ⟨_, hexec, (hportrait _).trans (if_pos rfl), fun j hj => (hportrait j).trans (if_neg hj), hpool,
    hsheets, hqueue, hepochs, fun p => ?_,
    himg.trans ?_, heng, hcnt.trans (State.raise_counters_congr _ _ 6 0 rfl), hrest⟩
  · rw [hnot p 8 (by decide), State.committedAll, State.latchAll, State.port_mapPorts, DeskPort.notices_latch]
    rfl
  · exact hpool ▸ rfl

/-- The grant that makes the image pending (R74). -/
theorem exec_endMark_pends {s g : State} {r : LoadRecord} {i gen : Nat} (hs : s.image.state = .endWait)
    (hr : s.image.load = some r) (hg : s.grantImage = some g) (hi : r.header.slot = i)
    (hgen : gen = ((s.portrait i).generation + 1) % 256) (hl : (s.portrait i).lockCount = 0)
    (hp : 0 < (s.portrait i).pinCount) :
    ∃ t : State, exec .imageEndMarkGrant s = .next t ∧
      t.portrait i = { s.portrait i with pendingImage := some (r.image gen), generation := gen } ∧
      (∀ j, j ≠ i → t.portrait j = s.portrait j) ∧
      t.pool = (s.pool.giveBack (.pending i)).pass .inbound (.pending i) ∧
      t.image = { state := .idle, header := none, load := none, timer := none
                  reply := some { status := .done, reason := none, outcome := .pending, value := some gen
                                  freeCount := t.pool.freeCount } } ∧
      (∀ p n, n ≠ 11 → tabFind (t.port p).notices n = tabFind (s.port p).notices n) ∧
      t.arbiter.engine = none ∧ t.counters = (s.raise 6 0).counters ∧
      { t with
         portraits := s.portraits, pool := s.pool, ports := s.ports, image := s.image, arbiter := s.arbiter
         counters := s.counters } = s := by
  subst hi hgen
  obtain ⟨run, rfl⟩ := State.grantImage_holds hg
  have hexec := exec_imageEndMarkGrant hs hg
  rw [State.endMarkGrant_pinned (s := s.hold .image run) hr hl hp, State.pendLoad_ends] at hexec
  obtain ⟨himg, hnot, heng, hcnt, hframe⟩ :=
    ((s.hold .image run).pended r).loadEnds_moves .pending (((s.portrait r.header.slot).generation + 1) % 256)
  have hpool := congrArg State.pool hframe
  have hportrait (j : Nat) := (congrArg (fun u : State => u.portrait j) hframe).trans
    (State.portrait_pended (s.hold .image run) r j)
  have hrest := congrArg (fun u : State => ({ u with
    portraits := s.portraits, pool := s.pool, ports := s.ports, image := s.image, arbiter := s.arbiter
    counters := s.counters } : State)) hframe
  exact ⟨_, hexec, (hportrait _).trans (if_pos rfl), fun j hj => (hportrait j).trans (if_neg hj), hpool,
    himg.trans (hpool ▸ rfl), hnot, heng, hcnt.trans (State.raise_counters_congr _ _ 6 0 rfl), hrest⟩

/-- Settles O26. -/
theorem endMarksCommitPendOrRefuse : Obligations.EndMarksCommitPendOrRefuse := by
  unfold Obligations.EndMarksCommitPendOrRefuse
  refine ⟨fun s check => ⟨fun r hs hr => ⟨fun hn => ?_, fun hn hc => ?_, fun hn hc => ?_⟩, fun hs => ?_, fun hs => ?_⟩,
    fun s g r i gen hs hr hg hi hgen => ⟨fun hl => ?_, fun hl hp hset => ?_, exec_endMark_commits hs hr hg hi hgen,
      exec_endMark_pends hs hr hg hi hgen⟩⟩
  · exact congrArg _ (State.takeEndMark_refused hs hr (if_pos hn))
  · exact congrArg _ (State.takeEndMark_refused hs hr ((if_neg (not_not.2 hn)).trans (if_pos hc)))
  · exact congrArg _ (State.takeEndMark_waits hs hr ((if_neg (not_not.2 hn)).trans (if_neg (not_not.2 hc))))
  · have hbusy : s.takeEndMark check = s.imageBusy := by simp only [State.takeEndMark, hs]
    exact congrArg _ hbusy
  · have hrefuse : s.takeEndMark check = s.imageRefuse .badForm := by
      rcases hs with hs | hs <;> simp only [State.takeEndMark, hs]
    exact congrArg _ hrefuse
  all_goals
    subst hi
    obtain ⟨run, rfl⟩ := State.grantImage_holds hg
    rw [exec_imageEndMarkGrant hs hg]
  · rw [State.endMarkGrant_frozen (s := s.hold .image run) hr hl]
  · have hbooks : s.sameBooks (s.hold .image run) := ⟨rfl, rfl, fun _ => rfl, rfl⟩
    have hany : ((s.hold .image run).imageSet r.header.slot).any (s.hold .image run).isInPress = true := by
      rw [State.imageSet_congr hbooks]
      exact List.any_eq_true.2 hset
    rw [State.endMarkGrant_unpinned (s := s.hold .image run) hr hl hp, if_pos hany]

end Sys2Proof.Machine
end

section
/-! The placement unit's take, and its completion. -/

namespace Sys2Proof.Machine

open Sys2Proof

/-- The placement unit copies a sheet's epoch and inputs (R79). -/
theorem State.copySheet_some {s : State} {i : Nat} {u : InProgress} (h : s.copySheet i = some u) :
    u.sheet = i ∧ u.epoch = s.epoch i ∧ s.inputs i = some u.inputs := by
  simp only [State.copySheet, Option.bind_eq_bind, Option.bind_eq_some_iff, Option.some.injEq] at h
  obtain ⟨sh, -, ⟨b, c⟩, -, inp, hinp, rfl⟩ := h
  exact ⟨rfl, rfl, hinp⟩

/-- The examination of the proof suspension moves the job table and the renderer alone (R130). -/
theorem State.recheckWait_eq (s : State) :
    s.recheckWait = { s with jobs := s.recheckWait.jobs, renderer := s.recheckWait.renderer } := by
  obtain h | ⟨j, -, -, -, h⟩ := s.recheckWait_cases <;> rw [h]
  rfl

/-- It keeps every job's tag. -/
theorem State.recheckWait_tags (s : State) : s.recheckWait.jobs.map (·.tag) = s.jobs.map (·.tag) := by
  obtain h | ⟨j, -, -, -, h⟩ := s.recheckWait_cases <;> rw [h]
  exact s.putJob_tags _

theorem State.notices_latchAll (s : State) (k : Notice) (x : Subject) (p : Port) :
    (tabFind ((s.latchAll k x).port p).notices k.flag).map (·.subject) = some x := by
  rw [State.latchAll, State.port_mapPorts, DeskPort.notices_latch, if_pos rfl]

theorem State.notices_latchAt_other (s : State) (q : Port) {k : Notice} (x : Subject) (p : Port) {n : Nat} (h : n ≠ k.flag) :
    tabFind ((s.latchAt q k x).port p).notices n = tabFind (s.port p).notices n := by
  unfold State.latchAt
  by_cases hp : p = q
  · rw [hp, State.port_setPort_self, DeskPort.notices_latch_other _ _ h]
  · rw [State.port_setPort_other _ _ hp]

/-! ### The job that a HELD sheet drops (R123) -/

/-- The RUN job of a sheet that has not started. -/
def Job.unstartedRun (j : Job) (i : Nat) : Bool := decide (j.sheet = i) && decide (j.kind = .run) && !j.started

section
variable {s : State} {i : Nat}

theorem State.dropRunJob_of_none (h : ∀ j ∈ s.jobs, j.sheet = i → j.kind = .proof ∨ j.started = true) :
    s.dropRunJob i = s := by
  have hfind : s.jobs.find? (·.unstartedRun i) = none := by
    refine List.find?_eq_none.2 fun j hj => ?_
    simp only [Job.unstartedRun, Bool.and_eq_true, decide_eq_true_eq, Bool.not_eq_true', not_and, Bool.not_eq_false]
    rintro ⟨hs, hk⟩
    exact (h j hj hs).resolve_left fun hp => by simp [hp] at hk
  unfold State.dropRunJob
  rw [show (s.jobs.find? fun j => decide (j.sheet = i) && decide (j.kind = .run) && !j.started) = none from hfind]

theorem State.dropRunJob_of_job {j : Job} {sh : Sheet} (hall : ∀ k ∈ s.jobs, k.sheet = i → k = j) (hj : j ∈ s.jobs)
    (hi : j.sheet = i) (hk : j.kind = .run) (hst : j.started = false) (hs : s.sheet i = some sh) :
    s.dropRunJob i = (({ s with jobs := s.jobs.filter (fun k => decide (k.tag ≠ j.tag)) } : State).setSheet i
      (some { sh with job := none })).latchAt j.port .jobDropped (.job j.tag) := by
  have hfind : s.jobs.find? (·.unstartedRun i) = some j := by
    cases h : s.jobs.find? (·.unstartedRun i) with
    | none =>
      have := List.find?_eq_none.1 h j hj
      simp [Job.unstartedRun, hi, hk, hst] at this
    | some k =>
      have hks : k.sheet = i := by
        have := List.find?_some h
        simp only [Job.unstartedRun, Bool.and_eq_true, decide_eq_true_eq] at this
        exact this.1.1
      rw [hall k (List.mem_of_find?_eq_some h) hks]
  unfold State.dropRunJob
  rw [show (s.jobs.find? fun j => decide (j.sheet = i) && decide (j.kind = .run) && !j.started) = some j from hfind, hs]

/-- Dropping a RUN job moves the jobs, the ports and its own sheet alone. -/
theorem State.dropRunJob_frame (s : State) (i : Nat) :
    { s.dropRunJob i with sheets := s.sheets, ports := s.ports, jobs := s.jobs } = s ∧
      ∀ j, j ≠ i → (s.dropRunJob i).sheet j = s.sheet j := by
  unfold State.dropRunJob
  split
  · exact ⟨rfl, fun _ _ => rfl⟩
  split
  · exact ⟨rfl, fun _ _ => rfl⟩
  · exact ⟨rfl, fun j hj => by rw [State.sheet_latchAt, State.sheet_setSheet, if_neg hj]; rfl⟩

end

/-! ### The completion (R20) -/

section
variable {s : State} {u : InProgress} {sh : Sheet}

/-- A completion moves the jobs, the ports and its own sheet alone. -/
theorem State.acceptCompletion_frame (s : State) (u : InProgress) :
    { s.acceptCompletion u with sheets := s.sheets, ports := s.ports, jobs := s.jobs } = s ∧
      ∀ j, j ≠ u.sheet → (s.acceptCompletion u).sheet j = s.sheet j := by
  unfold State.acceptCompletion
  split
  · exact ⟨rfl, fun _ _ => rfl⟩
  rename_i sh _
  split
  · split
    · exact ⟨rfl, fun j hj => by rw [State.sheet_latchAll, State.sheet_setSheet, if_neg hj]⟩
    · rename_i r _
      obtain ⟨hframe, hsheet⟩ := State.dropRunJob_frame
        ((s.setSheet u.sheet (some { sh with state := .held, result := some u.result, hold := some r })).latchAll .sheetHeld
          (.sheet u.sheet)) u.sheet
      have hrest := congrArg (fun v : State => ({ v with sheets := s.sheets, ports := s.ports, jobs := s.jobs } : State)) hframe
      exact ⟨hrest, fun j hj => by rw [hsheet j hj, State.sheet_latchAll, State.sheet_setSheet, if_neg hj]⟩
  · exact ⟨rfl, fun _ _ => rfl⟩

theorem State.acceptCompletion_placed (hs : s.sheet u.sheet = some sh) (hp : sh.state = .placing)
    (he : s.epoch u.sheet = u.epoch) (hr : u.inputs.holdReason = none) :
    s.acceptCompletion u =
      (s.setSheet u.sheet (some { sh with state := .placed, result := some u.result, hold := none })).latchAll .sheetPlaced
        (.sheet u.sheet) := by
  simp only [State.acceptCompletion, hs, hp, he, hr, and_self, if_true]

theorem State.acceptCompletion_held (hs : s.sheet u.sheet = some sh) (hp : sh.state = .placing)
    (he : s.epoch u.sheet = u.epoch) {r : Hold} (hr : u.inputs.holdReason = some r) :
    s.acceptCompletion u =
      ((s.setSheet u.sheet (some { sh with state := .held, result := some u.result, hold := some r })).latchAll .sheetHeld
        (.sheet u.sheet)).dropRunJob u.sheet := by
  simp only [State.acceptCompletion, hs, hp, he, hr, and_self, if_true]

theorem State.acceptCompletion_ignored (h : s.sheet u.sheet = none ∨ (∃ sh, s.sheet u.sheet = some sh ∧ sh.state ≠ .placing) ∨
    s.epoch u.sheet ≠ u.epoch) : s.acceptCompletion u = s := by
  unfold State.acceptCompletion
  split
  · rfl
  · rename_i sh hsh
    refine if_neg fun ⟨hp, he⟩ => ?_
    rcases h with h | ⟨sh', hsh', hp'⟩ | h
    · simp [h] at hsh
    · exact hp' (Option.some.inj (hsh'.symm.trans hsh) ▸ hp)
    · exact h he

end

/-- The state after a completion: the unit is IDLE, the book table has taken it, and the proof suspension is examined. -/
def State.completed (s : State) (u : InProgress) : State := (({ s with placing := none } : State).acceptCompletion u).recheckWait

theorem exec_placementCompletion {s : State} {u : InProgress} (h : s.placing = some u) :
    exec .placementCompletion s = .next (s.completed u) := by
  have hexec : exec .placementCompletion s = execPlacementCompletion s := rfl
  rw [hexec, execPlacementCompletion, h]
  rfl

section
variable {s : State} {u : InProgress} {sh : Sheet}

/-- What a completion leaves, whatever it brings. -/
theorem State.completed_frame (s : State) (u : InProgress) :
    (s.completed u).placing = none ∧ (s.completed u).queue = s.queue ∧ (s.completed u).epochs = s.epochs ∧
      (∀ i, i ≠ u.sheet → (s.completed u).sheet i = s.sheet i) := by
  obtain ⟨hframe, hsheet⟩ := ({ s with placing := none } : State).acceptCompletion_frame u
  have hplacing := congrArg State.placing hframe
  have hqueue := congrArg State.queue hframe
  have hepochs := congrArg State.epochs hframe
  rw [State.completed, State.recheckWait_eq]
  exact ⟨hplacing, hqueue, hepochs, hsheet⟩

theorem State.completed_sheet (s : State) (u : InProgress) (i : Nat) :
    (s.completed u).sheet i = (({ s with placing := none } : State).acceptCompletion u).sheet i := by
  rw [State.completed, State.recheckWait_eq]
  rfl

theorem State.completed_port (s : State) (u : InProgress) (p : Port) :
    (s.completed u).port p = (({ s with placing := none } : State).acceptCompletion u).port p := by
  rw [State.completed, State.recheckWait_eq]
  rfl

/-- After a completion a proof may take the renderer (R130; assumption 10). -/
theorem State.completed_mayYield (b : State)
    (h : { ({ s with placing := none } : State).acceptCompletion u with sheets := b.sheets, ports := b.ports } = b) :
    State.mayYield { b with sheets := (s.completed u).sheets, ports := (s.completed u).ports } (s.completed u) := by
  have hyield := (({ s with placing := none } : State).acceptCompletion u).recheckWait_mayYield
  have hsheets : (s.completed u).sheets = (({ s with placing := none } : State).acceptCompletion u).sheets := by
    rw [State.completed, State.recheckWait_eq]
  have hports : (s.completed u).ports = (({ s with placing := none } : State).acceptCompletion u).ports := by
    rw [State.completed, State.recheckWait_eq]
  rw [hsheets, hports, ← h]
  exact hyield

/-- A sheet that has no hold reason is PLACED (R20). -/
theorem State.completed_placed (hs : s.sheet u.sheet = some sh) (hp : sh.state = .placing)
    (he : s.epoch u.sheet = u.epoch) (hr : u.inputs.holdReason = none) :
    (s.completed u).sheet u.sheet = some { sh with state := .placed, result := some u.result, hold := none } ∧
      (∀ p, (tabFind ((s.completed u).port p).notices 0).map (·.subject) = some (.sheet u.sheet)) ∧
      State.mayYield { s with placing := none, sheets := (s.completed u).sheets, ports := (s.completed u).ports }
        (s.completed u) := by
  have hx := State.acceptCompletion_placed (s := { s with placing := none }) hs hp he hr
  refine ⟨?_, fun p => ?_, State.completed_mayYield { s with placing := none } (by rw [hx]; rfl)⟩
  · rw [State.completed_sheet, hx, State.sheet_latchAll, State.sheet_setSheet, if_pos rfl]
  · rw [State.completed_port, hx]
    exact State.notices_latchAll ..

/-- A sheet with a hold reason is HELD, and with no RUN job to drop nothing else moves (R20, R123). -/
theorem State.completed_held (hs : s.sheet u.sheet = some sh) (hp : sh.state = .placing)
    (he : s.epoch u.sheet = u.epoch) {r : Hold} (hr : u.inputs.holdReason = some r)
    (hj : ∀ j ∈ s.jobs, j.sheet = u.sheet → j.kind = .proof ∨ j.started = true) :
    (s.completed u).sheet u.sheet = some { sh with state := .held, result := some u.result, hold := some r } ∧
      (∀ p, (tabFind ((s.completed u).port p).notices 1).map (·.subject) = some (.sheet u.sheet)) ∧
      State.mayYield { s with placing := none, sheets := (s.completed u).sheets, ports := (s.completed u).ports }
        (s.completed u) := by
  have hx := State.acceptCompletion_held (s := { s with placing := none }) hs hp he hr
  rw [State.dropRunJob_of_none (by exact hj)] at hx
  refine ⟨?_, fun p => ?_, State.completed_mayYield { s with placing := none } (by rw [hx]; rfl)⟩
  · rw [State.completed_sheet, hx, State.sheet_latchAll, State.sheet_setSheet, if_pos rfl]
  · rw [State.completed_port, hx]
    exact State.notices_latchAll ..

/-- A RUN job that has not started is dropped with the hold of its sheet (R123). -/
theorem State.completed_dropped (hs : s.sheet u.sheet = some sh) (hp : sh.state = .placing)
    (he : s.epoch u.sheet = u.epoch) {r : Hold} {j : Job} (hr : u.inputs.holdReason = some r)
    (hall : ∀ k ∈ s.jobs, k.sheet = u.sheet → k = j) (hj : j ∈ s.jobs) (hi : j.sheet = u.sheet) (hk : j.kind = .run)
    (hst : j.started = false) :
    (s.completed u).sheet u.sheet = some { sh with state := .held, result := some u.result, hold := some r, job := none } ∧
      (∀ k ∈ (s.completed u).jobs, k.tag ≠ j.tag) ∧
      (∀ p, (tabFind ((s.completed u).port p).notices 1).map (·.subject) = some (.sheet u.sheet)) ∧
      (tabFind ((s.completed u).port j.port).notices 4).map (·.subject) = some (.job j.tag) ∧
      State.mayYield { s with
        placing := none, sheets := (s.completed u).sheets, ports := (s.completed u).ports
        jobs := s.jobs.filter (fun k => decide (k.tag ≠ j.tag)) } (s.completed u) := by
  have hx := State.acceptCompletion_held (s := { s with placing := none }) hs hp he hr
  rw [State.dropRunJob_of_job (sh := { sh with state := .held, result := some u.result, hold := some r }) (by exact hall)
    (by exact hj) hi hk hst (by rw [State.sheet_latchAll, State.sheet_setSheet, if_pos rfl])] at hx
  refine ⟨?_, fun k hk => ?_, fun p => ?_, ?_, State.completed_mayYield
    { s with placing := none, jobs := s.jobs.filter (fun k => decide (k.tag ≠ j.tag)) } (by rw [hx]; rfl)⟩
  · rw [State.completed_sheet, hx, State.sheet_latchAt, State.sheet_setSheet, if_pos rfl]
  · have htag := List.mem_map_of_mem (f := (·.tag)) hk
    rw [State.completed, State.recheckWait_tags, hx] at htag
    obtain ⟨k', hk', htag⟩ := List.mem_map.1 htag
    have hne : k'.tag ≠ j.tag := by simpa using List.of_mem_filter hk'
    rwa [← htag]
  · rw [State.completed_port, hx, State.notices_latchAt_other _ _ _ _ (by decide)]
    exact State.notices_latchAll (s.setSheet u.sheet (some { sh with
      state := .held, result := some u.result, hold := some r })) .sheetHeld (.sheet u.sheet) p
  · rw [State.completed_port, hx, State.latchAt, State.port_setPort_self, DeskPort.notices_latch]
    rfl

end

/-- Settles O28. -/
theorem placementTakesAndPosts : Obligations.PlacementTakesAndPosts := by
  unfold Obligations.PlacementTakesAndPosts
  refine ⟨fun s i q sh u hp hq hs hu => ⟨?_, State.copySheet_some hu⟩, fun s u hp => ⟨fun sh hs hst he => ?_, fun h => ?_⟩⟩
  · have hexec : exec .placementTake s = execPlacementTake s := rfl
    simp only [hexec, execPlacementTake, hp, hq, hs, hu]
  · obtain ⟨hidle, hqueue, hepochs, hother⟩ := s.completed_frame u
    exact ⟨_, exec_placementCompletion hp, hidle, hqueue, hepochs, hother, State.completed_placed hs hst he,
      fun r hr => State.completed_held hs hst he hr, fun r j hr => State.completed_dropped hs hst he hr⟩
  · have hx := State.acceptCompletion_ignored (s := { s with placing := none }) h
    refine ⟨_, exec_placementCompletion hp, ?_⟩
    rw [State.completed, hx]
    refine ⟨State.recheckWait_mayYield _, ?_⟩
    rw [State.recheckWait_eq]
    exact ⟨rfl, rfl, rfl, rfl, rfl⟩

end Sys2Proof.Machine
end

section
/-! The end of a job, and the confirmation that may bring it. -/

namespace Sys2Proof.Machine

open Sys2Proof

/-! ### A set of sheets staled -/

/-- Staling a sheet again leaves its record (R18). -/
theorem Sheet.staled_staled (sh : Sheet) : sh.staled.staled = sh.staled := by
  cases hj : sh.joins with
  | false => rw [Sheet.staled_of_not_joins hj, Sheet.staled_of_not_joins hj]
  | true =>
    have hst : sh.staled.state = .stale := sh.staled_stale_iff.2 (.inr hj)
    exact Sheet.staled_of_not_joins (Sheet.not_joins_of_stale hst)

theorem State.sheet_staleAll (s : State) (set : List Nat) (j : Nat) :
    (s.staleAll set).sheet j = if j ∈ set then (s.sheet j).map Sheet.staled else s.sheet j := by
  induction set generalizing s with
  | nil => rfl
  | cons i l ih =>
    rw [State.staleAll_cons, ih, State.sheet_staleOne]
    by_cases hj : j = i
    · subst hj
      simp [Function.comp_def, Sheet.staled_staled]
    · simp [hj]

/-- A sheet of the set that joins the queue is in it. -/
theorem State.mem_queue_staleAll {s : State} {set : List Nat} {j : Nat} {sh : Sheet} (h : s.sheet j = some sh)
    (hj : sh.joins = true) (hm : j ∈ set) : j ∈ (s.staleAll set).queue := by
  induction set generalizing s with
  | nil => cases hm
  | cons i l ih =>
    rw [State.staleAll_cons]
    by_cases hi : j = i
    · subst hi
      obtain ⟨tail, hq, -⟩ := (s.staleOne j).staleAll_queue l
      rw [hq, State.queue_staleOne, h]
      simp [hj]
    · exact ih (by rw [State.sheet_staleOne, if_neg hi, h]) ((List.mem_cons.1 hm).resolve_left hi)

/-! ### What examining leaves of a sheet and of a port -/

theorem State.mem_promotionSet {s : State} {ps : List Nat} {i : Nat} :
    i ∈ s.promotionSet ps ↔ ∃ q ∈ ps, s.promotes q = true ∧ i ∈ s.imageSet q := by
  simp only [State.promotionSet, List.mem_filter, List.any_eq_true, Bool.and_eq_true, List.contains_iff_mem]
  exact and_iff_right_of_imp fun ⟨q, _, _, hi⟩ => List.mem_of_mem_filter hi

theorem State.sheet_examine (s : State) (ps : List Nat) (i : Nat) :
    (s.examine ps).sheet i = if i ∈ s.promotionSet ps then (s.sheet i).map Sheet.staled else s.sheet i := by
  rw [State.examine_eq, ← State.sheet_staleAll]
  rfl

theorem State.mem_queue_examine {s : State} {ps : List Nat} {i : Nat} {sh : Sheet} (h : s.sheet i = some sh)
    (hj : sh.joins = true) (hm : i ∈ s.promotionSet ps) : i ∈ (s.examine ps).queue := by
  rw [State.examine_eq]
  exact State.mem_queue_staleAll h hj hm

/-- A promotion latches PORTRAIT_PROMOTED and no other flag. -/
theorem State.notices_examine (s : State) (ps : List Nat) (p : Port) {n : Nat} (h : n ≠ 9) :
    tabFind ((s.examine ps).port p).notices n = tabFind (s.port p).notices n := by
  rw [State.examine_eq]
  refine List.foldlRecOn (motive := fun t => tabFind (State.port t p).notices n = tabFind (s.port p).notices n) _ _ rfl
    fun t ht i _ => ?_
  rw [State.promoteOne, State.latchAll, State.port_mapPorts, DeskPort.notices_latch_other _ _ h]
  exact ht

/-! ### The state in which the pins of an ended job are examined (R138) -/

theorem State.portrait_unpin (s : State) (l : List Nat) (q : Nat) :
    (s.unpin l).portrait q = { s.portrait q with pinCount := (s.portrait q).pinCount - l.count q } := by
  induction l generalizing s with
  | nil => rfl
  | cons a l ih =>
    have hcons : s.unpin (a :: l) = (s.mapPortrait a fun r => { r with pinCount := r.pinCount - 1 }).unpin l := rfl
    rw [hcons, ih, State.portrait_mapPortrait, List.count_cons]
    by_cases hq : q = a
    · subst hq
      simp [Nat.sub_sub, Nat.add_comm]
    · simp [hq, Ne.symm hq]

/-- A job has left the job table, its pins are released, and its sheet, its port and its press link know of it (R138). -/
def State.jobLeft (s : State) (j : Job) (notice : Notice) : State :=
  let t := (((s.removeJob j).unpin (s.jobPins j)).releaseSheet j).latchAt j.port notice (.job j.tag)
  t.setLink j.press ((t.link j.press).jobEnd j.tag)

theorem State.endJob_eq (s : State) (j : Job) (notice : Notice) :
    s.endJob j notice = (s.jobLeft j notice).examine (distinct (s.jobPins j)) := rfl

/-- What has moved by then. -/
theorem State.jobLeft_eq (s : State) (j : Job) (notice : Notice) :
    s.jobLeft j notice =
      { s with
        jobs := s.jobs.filter (fun k => decide (k.tag ≠ j.tag))
        renderer := if j.state = .active then { s.renderer with band := none, stallTimer := none } else s.renderer
        portraits := (s.unpin (s.jobPins j)).portraits
        sheets := (s.releaseSheet j).sheets
        ports := (s.latchAt j.port notice (.job j.tag)).ports
        links := (s.setLink j.press ((s.link j.press).jobEnd j.tag)).links } := by
  have hunpin : (s.removeJob j).unpin (s.jobPins j) =
      { s.removeJob j with portraits := (s.unpin (s.jobPins j)).portraits } := by
    have hcomm : (s.removeJob j).unpin (s.jobPins j) = (s.unpin (s.jobPins j)).removeJob j := by
      unfold State.unpin
      exact List.foldl_hom (fun t : State => t.removeJob j) fun _ _ => rfl
    have heq : s.unpin (s.jobPins j) = { s with portraits := (s.unpin (s.jobPins j)).portraits } :=
      State.mapPortraits_eq _ _ s
    rw [hcomm, heq]
    rfl
  unfold State.jobLeft
  rw [hunpin]
  unfold State.releaseSheet
  have hs : ({ s.removeJob j with portraits := (s.unpin (s.jobPins j)).portraits } : State).sheet j.sheet = s.sheet j.sheet := rfl
  rw [hs]
  cases s.sheet j.sheet <;> rfl

section
variable {s : State} {j : Job} {notice : Notice} {sh : Sheet}

theorem State.sheet_jobLeft (h : s.sheet j.sheet = some sh) (i : Nat) :
    (s.jobLeft j notice).sheet i = if i = j.sheet then some (sh.leavePress j.done) else s.sheet i := by
  have hsheet : (s.jobLeft j notice).sheet i = (s.releaseSheet j).sheet i := by rw [State.jobLeft_eq]; rfl
  rw [hsheet, State.releaseSheet, h]
  exact State.sheet_setSheet ..

theorem State.portrait_jobLeft (h : s.sheet j.sheet = some sh) (q : Nat) :
    (s.jobLeft j notice).portrait q = { s.portrait q with
      pinCount := (s.portrait q).pinCount - (if j.started = true then sh.pins.count q else 0) } := by
  have hpins : (s.jobPins j).count q = if j.started = true then sh.pins.count q else 0 := by
    simp only [State.jobPins, h]
    split <;> rfl
  have hportrait : (s.jobLeft j notice).portrait q = (s.unpin (s.jobPins j)).portrait q := by rw [State.jobLeft_eq]; rfl
  rw [hportrait, State.portrait_unpin, hpins]

theorem State.mem_jobPins (h : s.sheet j.sheet = some sh) (q : Nat) : q ∈ s.jobPins j ↔ j.started = true ∧ q ∈ sh.pins := by
  simp only [State.jobPins, h]
  split <;> simp [*]

/-- The release of a job's sheet leaves which sheets show a portrait. -/
theorem State.imageSet_jobLeft (h : s.sheet j.sheet = some sh) (q : Nat) : (s.jobLeft j notice).imageSet q = s.imageSet q := by
  refine State.imageSet_congr ⟨by rw [State.jobLeft_eq], by rw [State.jobLeft_eq], fun i => ?_, by rw [State.jobLeft_eq]⟩ q
  rw [State.sheet_jobLeft h]
  split
  · subst_vars
    rw [h]
    rfl
  · rfl

/-- The sheet of an ended job is staled when a portrait that the job pinned promotes and the sheet shows it (R77). -/
theorem State.mem_promotionSet_jobLeft (h : s.sheet j.sheet = some sh) :
    j.sheet ∈ (s.jobLeft j notice).promotionSet (distinct (s.jobPins j)) ↔
      j.started = true ∧ ∃ q ∈ sh.pins, (s.portrait q).pendingImage.isSome ∧
        (s.portrait q).pinCount ≤ sh.pins.count q ∧ (s.portrait q).lockCount = 0 ∧ j.sheet ∈ s.imageSet q := by
  simp only [State.mem_promotionSet, mem_distinct, State.mem_jobPins h, State.promotes_iff, State.portrait_jobLeft h,
    State.imageSet_jobLeft h]
  constructor
  · rintro ⟨q, ⟨hst, hq⟩, ⟨hp, hc, hl⟩, hi⟩
    rw [if_pos hst, Nat.sub_eq_zero_iff_le] at hc
    exact ⟨hst, q, hq, hp, hc, hl, hi⟩
  · rintro ⟨hst, q, hq, hp, hc, hl, hi⟩
    refine ⟨q, ⟨hst, hq⟩, ⟨hp, ?_, hl⟩, hi⟩
    rwa [if_pos hst, Nat.sub_eq_zero_iff_le]

/-! ### What the end of a job leaves -/

theorem State.endJob_jobs (s : State) (j : Job) (notice : Notice) :
    (s.endJob j notice).jobs = s.jobs.filter (fun k => decide (k.tag ≠ j.tag)) := by
  have hframe := congrArg State.jobs ((s.jobLeft j notice).examine_frame (distinct (s.jobPins j)))
  rw [State.endJob_eq]
  refine Eq.trans hframe ?_
  rw [State.jobLeft_eq]

theorem State.endJob_links (s : State) (j : Job) (notice : Notice) :
    (s.endJob j notice).links = (s.setLink j.press ((s.link j.press).jobEnd j.tag)).links := by
  have hframe := congrArg State.links ((s.jobLeft j notice).examine_frame (distinct (s.jobPins j)))
  rw [State.endJob_eq]
  refine Eq.trans hframe ?_
  rw [State.jobLeft_eq]

theorem State.endJob_renderer (s : State) (j : Job) (notice : Notice) : (s.endJob j notice).renderer =
    if j.state = .active then { s.renderer with band := none, stallTimer := none } else s.renderer := by
  have hframe := congrArg State.renderer ((s.jobLeft j notice).examine_frame (distinct (s.jobPins j)))
  rw [State.endJob_eq]
  refine Eq.trans hframe ?_
  rw [State.jobLeft_eq]

/-- The notice of a job's end is latched at the job's port alone. -/
theorem State.endJob_notices (s : State) (j : Job) {notice : Notice} (h : notice = .jobDone ∨ notice = .jobAborted) :
    (tabFind ((s.endJob j notice).port j.port).notices notice.flag).map (·.subject) = some (.job j.tag) ∧
      ∀ p, p ≠ j.port →
        tabFind ((s.endJob j notice).port p).notices notice.flag = tabFind (s.port p).notices notice.flag := by
  have hflag : notice.flag ≠ 9 := by rcases h with rfl | rfl <;> decide
  have hport (p : Port) : (s.jobLeft j notice).port p = (s.latchAt j.port notice (.job j.tag)).port p := by
    rw [State.jobLeft_eq]; rfl
  refine ⟨?_, fun p hp => ?_⟩
  · rw [State.endJob_eq, State.notices_examine _ _ _ hflag, hport, State.latchAt, State.port_setPort_self,
      DeskPort.notices_latch, if_pos rfl]
  · rw [State.endJob_eq, State.notices_examine _ _ _ hflag, hport, State.latchAt, State.port_setPort_other _ _ hp]

/-- A portrait that the job pinned loses the pins of its tiles, and may then promote (R62, R77). -/
theorem State.endJob_portrait (h : s.sheet j.sheet = some sh) (q : Nat) (r : Portrait)
    (hr : r = { s.portrait q with
      pinCount := (s.portrait q).pinCount - (if j.started = true then sh.pins.count q else 0) }) :
    (s.endJob j notice).portrait q =
      if j.started = true ∧ q ∈ sh.pins ∧ r.pendingImage.isSome ∧ r.pinCount = 0 ∧ r.lockCount = 0 then
        { r with current := r.pendingImage, pendingImage := none }
      else r := by
  have hq : (s.jobLeft j notice).portrait q = r := (State.portrait_jobLeft h q).trans hr.symm
  rw [State.endJob_eq, State.portrait_examine (nodup_distinct _)]
  simp only [mem_distinct, State.mem_jobPins h, State.promotes_iff, hq, and_assoc]
  rfl

theorem Sheet.joins_leavePress (h : sh.state = .inPress) (done : Nat) : (sh.leavePress done).joins = true := by
  unfold Sheet.joins Sheet.leavePress
  cases hh : sh.hold <;> simp [h]

theorem Sheet.staled_leavePress (h : sh.state = .inPress) (done : Nat) :
    (sh.leavePress done).staled.state = .stale ∧ (sh.leavePress done).staled.result = none ∧
      (sh.leavePress done).staled.hold = none := by
  unfold Sheet.staled Sheet.leavePress
  cases hh : sh.hold <;> simp [h]

/-- The sheet of an ended job (R21). -/
theorem State.endJob_sheet (h : s.sheet j.sheet = some sh) :
    ∃ sh', (s.endJob j notice).sheet j.sheet = some sh' ∧ sh'.printCount = min 65535 (sh.printCount + j.done) ∧
      sh'.job = none ∧ sh'.lock = sh.lock ∧ sh'.layout = sh.layout ∧
      (∀ staled : Prop,
        (staled ↔ j.started = true ∧ ∃ q ∈ sh.pins, (s.portrait q).pendingImage.isSome ∧
          (s.portrait q).pinCount ≤ sh.pins.count q ∧ (s.portrait q).lockCount = 0 ∧ j.sheet ∈ s.imageSet q) →
        sh.state = .inPress →
        (¬staled → sh'.state = (if sh.hold.isSome then .held else .placed) ∧ sh'.result = sh.result ∧ sh'.hold = sh.hold) ∧
        (staled → sh'.state = .stale ∧ sh'.result = none ∧ sh'.hold = none ∧ j.sheet ∈ (s.endJob j notice).queue)) := by
  have hleft : (s.jobLeft j notice).sheet j.sheet = some (sh.leavePress j.done) := by rw [State.sheet_jobLeft h, if_pos rfl]
  simp only [← State.mem_promotionSet_jobLeft (notice := notice) h]
  rw [State.endJob_eq, State.sheet_examine, hleft]
  by_cases hm : j.sheet ∈ (s.jobLeft j notice).promotionSet (distinct (s.jobPins j))
  · obtain ⟨-, hlock, hlayout, hcount, hjob⟩ := (sh.leavePress j.done).staled_keeps
    rw [if_pos hm]
    refine ⟨_, rfl, hcount, hjob, hlock, hlayout, fun staled hiff hp => ⟨fun hn => absurd (hiff.2 hm) hn, fun _ => ?_⟩⟩
    obtain ⟨hst, hres, hhold⟩ := Sheet.staled_leavePress hp j.done
    exact ⟨hst, hres, hhold, State.mem_queue_examine hleft (Sheet.joins_leavePress hp j.done) hm⟩
  · rw [if_neg hm]
    exact ⟨_, rfl, rfl, rfl, rfl, rfl, fun staled hiff hp => ⟨fun _ => ⟨if_pos hp, rfl, rfl⟩, fun hst => absurd (hiff.1 hst) hm⟩⟩

end

/-! ### The press link of an ended job (R151) -/

theorem mem_keepDue {own : Attempt → Bool} {l : List Attempt} {a : Attempt} (h : a ∈ keepDue own l) : a ∈ l :=
  (keepDue_sublist own l).subset h

/-- The link forgets the job: no frame and no rule of its tag is left, its records are void, and it is not in transmission. -/
theorem Link.jobEnd_forgets (l : Link) (tag : Nat) :
    (∀ f ∈ (l.jobEnd tag).fifo, f.tag ≠ tag) ∧ (∀ r ∈ (l.jobEnd tag).rules, r.tag ≠ tag) ∧
      (∀ a ∈ (l.jobEnd tag).attempts, a.tag = tag → a.voided = true) ∧
      (∀ t, (l.jobEnd tag).transmission = some t → t.tag ≠ tag) := by
  refine ⟨fun f hf => ?_, fun r hr => ?_, fun a ha ht => ?_, fun t ht => ?_⟩
  · have hf := (List.dropWhile_sublist _).subset hf
    simpa using List.of_mem_filter hf
  · simpa using List.of_mem_filter (show r ∈ l.rules.filter (fun o => decide (o.tag ≠ tag)) from hr)
  · obtain ⟨b, -, hb⟩ := List.mem_map.1 (mem_keepDue ha)
    split at hb
    · rw [← hb]
    · rename_i hne
      subst hb
      simp [ht] at hne
  · obtain ⟨-, hne⟩ := Option.filter_eq_some_iff.1 (show l.transmission.filter (fun t => !decide (t.tag = tag)) = some t from ht)
    simpa using hne

/-- Settles O34. -/
theorem aJobEndReleasesWhatTheJobHeld : Obligations.AJobEndReleasesWhatTheJobHeld := by
  unfold Obligations.AJobEndReleasesWhatTheJobHeld
  refine ⟨fun s j notice sh h => ?_, fun s tag j hj => ⟨fun hne => ?_, fun he => ?_⟩⟩
  · have hlink (q : Press) : (s.endJob j notice).link q = (s.setLink j.press ((s.link j.press).jobEnd j.tag)).link q :=
      congrArg (fun l => l.get q) (s.endJob_links j notice)
    obtain ⟨hfifo, hrules, hattempts, htransmission⟩ := (s.link j.press).jobEnd_forgets j.tag
    refine ⟨s.endJob_jobs j notice, State.endJob_sheet h, State.endJob_portrait h, s.endJob_notices j, fun q hq => ?_, ?_⟩
    · rw [hlink, State.link_setLink_other _ _ hq]
    · rw [hlink, State.link_setLink_self]
      refine ⟨hfifo, hrules, hattempts, htransmission, fun ha => ?_⟩
      rw [State.endJob_renderer, if_pos ha]
      exact ⟨rfl, rfl⟩
  · simp only [State.takeConfirmation, hj, if_neg hne]
  · have htake : s.takeConfirmation tag =
        (s.putJob { j with done := j.done + 1, spoils := 0 }).endJob { j with done := j.done + 1, spoils := 0 } .jobDone := by
      simp only [State.takeConfirmation, hj, if_pos he]
    obtain ⟨hnotice, -⟩ := (s.putJob { j with done := j.done + 1, spoils := 0 }).endJob_notices
      { j with done := j.done + 1, spoils := 0 } (.inl rfl)
    refine ⟨htake, fun k hk => ?_, htake ▸ hnotice⟩
    rw [htake, State.endJob_jobs] at hk
    simpa using List.of_mem_filter hk

end Sys2Proof.Machine
end

section
/-! The grid of a placement result: its cells and rows, the place of each tile in the body, and the footer line. -/

namespace Sys2Proof.Machine

open Sys2Proof

/-! ### Division rounded up -/

theorem ceilDiv_le_iff {a b m : Nat} (hb : 0 < b) : ceilDiv a b ≤ m ↔ a ≤ m * b := by
  rw [ceilDiv, ← Nat.lt_succ_iff, Nat.div_lt_iff_lt_mul hb, Nat.succ_mul]
  omega

theorem le_ceilDiv_mul (a : Nat) {b : Nat} (hb : 0 < b) : a ≤ ceilDiv a b * b := (ceilDiv_le_iff hb).1 le_rfl

theorem ceilDiv_pred_mul_lt {a b : Nat} (hb : 0 < b) (h : 0 < ceilDiv a b) : (ceilDiv a b - 1) * b < a :=
  lt_of_not_ge fun hle => absurd ((ceilDiv_le_iff hb).2 hle) (by omega)

theorem ceilDiv_pos {a b : Nat} (hb : 0 < b) (h : 0 < a) : 0 < ceilDiv a b :=
  Nat.pos_of_ne_zero fun h0 => absurd ((ceilDiv_le_iff hb).1 h0.le) (by omega)

/-! ### What SET LAYOUT accepts (R13, R14) -/

theorem Layout.valid_ranges {l : Layout} (h : l.valid = true) :
    1 ≤ l.columns ∧ 80 ≤ l.cellHeight ∧ 12 ≤ l.lineHeight ∧ l.lineHeight ≤ 128 ∧ 4 ≤ l.advance ∧ l.advance ≤ 64 ∧
      1200 ≤ l.sheetWidth ∧ 1600 ≤ l.sheetHeight := by
  simp only [Layout.valid, Layout.inRange, Bool.and_eq_true, decide_eq_true_eq] at h
  omega

theorem Layout.valid_checks {l : Layout} (h : l.valid = true) :
    l.bodyLeft + l.bodyWidth ≤ l.sheetWidth ∧ l.bodyTop + l.bodyHeight ≤ l.sheetHeight ∧
      l.columns * l.cellWidth + (l.columns - 1) * l.gutterAcross ≤ l.bodyWidth ∧ 1 ≤ l.rowsMax ∧
      (l.featureFirst = true → 3 ≤ l.columns ∧ 2 ≤ l.rowsMax) := by
  simp only [Layout.valid, Bool.and_eq_true, decide_eq_true_eq] at h
  obtain ⟨⟨⟨⟨⟨-, hleft, htop⟩, hwide⟩, hrows⟩, hfeature⟩, -⟩ := h
  exact ⟨hleft, htop, hwide, hrows, hfeature⟩

theorem Layout.columns_pos {l : Layout} (h : l.valid = true) : 0 < l.columns := (Layout.valid_ranges h).1

theorem Layout.pitchY_pos {l : Layout} (h : l.valid = true) : 0 < l.pitchY := by
  have := Layout.valid_ranges h
  unfold Layout.pitchY
  omega

/-- The cells of a row with the gutters between them fit the body (R14). -/
theorem Layout.row_fits {l : Layout} (h : l.valid = true) : (l.columns - 1) * l.pitchX + l.cellWidth ≤ l.bodyWidth := by
  obtain ⟨-, -, hwide, -, -⟩ := Layout.valid_checks h
  obtain ⟨c, hc⟩ := Nat.exists_eq_add_of_lt (Layout.columns_pos h)
  calc (l.columns - 1) * l.pitchX + l.cellWidth = l.columns * l.cellWidth + (l.columns - 1) * l.gutterAcross := by
        rw [hc, Layout.pitchX, Nat.zero_add, Nat.add_sub_cancel]
        ring
    _ ≤ l.bodyWidth := hwide

/-- The rows a layout has room for, each with its caption strip, stand above the list strip (R13). -/
theorem Layout.rows_fit {l : Layout} (h : l.valid = true) {m : Nat} (hm : (m : Int) ≤ l.rowsMax) :
    m * l.pitchY + l.listStrip ≤ l.bodyHeight + l.gutterDown := by
  have hdiv : (m : Int) ≤ ((l.bodyHeight : Int) - l.listStrip + l.gutterDown) / l.pitchY := hm.trans (min_le_right _ _)
  rw [Int.le_ediv_iff_mul_le (Int.natCast_pos.2 (Layout.pitchY_pos h))] at hdiv
  zify
  linarith

/-! ### Rows used (R87) -/

theorem Layout.featureActive_iff {l : Layout} (h : l.valid = true) (n : Nat) :
    l.featureActive n = true ↔ l.featureFirst = true ∧ 2 ≤ n := by
  obtain ⟨-, -, -, -, hfeature⟩ := Layout.valid_checks h
  simp only [Layout.featureActive, Bool.and_eq_true, decide_eq_true_eq]
  exact ⟨fun ⟨⟨hf, hn⟩, _⟩ => ⟨hf, hn⟩, fun ⟨hf, hn⟩ => ⟨⟨hf, hn⟩, (hfeature hf).1⟩⟩

theorem Layout.three_le_columns {l : Layout} {n : Nat} (h : l.featureActive n = true) : 3 ≤ l.columns := by
  simp only [Layout.featureActive, Bool.and_eq_true, decide_eq_true_eq] at h
  exact h.2

theorem Layout.cells_plain {l : Layout} {n : Nat} (h : l.featureActive n = false) : l.cells n = n := by
  simp [Layout.cells, h]

theorem Layout.cells_feature {l : Layout} {n : Nat} (h : l.featureActive n = true) : l.cells n = n + 3 := by
  simp [Layout.cells, h]

theorem Layout.rowsUsed_plain {l : Layout} {n : Nat} (hn : 0 < n) (h : l.featureActive n = false) :
    l.rowsUsed n = ceilDiv n l.columns := by
  simp [Layout.rowsUsed, Layout.cells_plain h, h, hn.ne']

theorem Layout.rowsUsed_feature {l : Layout} {n : Nat} (hn : 0 < n) (h : l.featureActive n = true) :
    l.rowsUsed n = max 2 (ceilDiv (n + 3) l.columns) := by
  simp [Layout.rowsUsed, Layout.cells_feature h, h, hn.ne']

theorem Layout.cells_le {l : Layout} {n : Nat} (hv : l.valid = true) (hn : 0 < n) :
    l.cells n ≤ l.rowsUsed n * l.columns := by
  have hC := Layout.columns_pos hv
  cases h : l.featureActive n with
  | false =>
    rw [Layout.cells_plain h, Layout.rowsUsed_plain hn h]
    exact le_ceilDiv_mul n hC
  | true =>
    rw [Layout.cells_feature h, Layout.rowsUsed_feature hn h]
    exact (le_ceilDiv_mul (n + 3) hC).trans (Nat.mul_le_mul_right _ (le_max_right _ _))

/-- The rows above the last are full, when feature does not force the second row. -/
theorem Layout.full_rows_lt {l : Layout} {n : Nat} (hv : l.valid = true) (hn : 0 < n)
    (h : l.featureActive n = true → 3 ≤ l.rowsUsed n) : (l.rowsUsed n - 1) * l.columns < l.cells n := by
  have hC := Layout.columns_pos hv
  cases hf : l.featureActive n with
  | false =>
    rw [Layout.cells_plain hf, Layout.rowsUsed_plain hn hf]
    exact ceilDiv_pred_mul_lt hC (ceilDiv_pos hC hn)
  | true =>
    have h3 := h hf
    rw [Layout.rowsUsed_feature hn hf] at h3 ⊢
    have hmax : max 2 (ceilDiv (n + 3) l.columns) = ceilDiv (n + 3) l.columns := by omega
    rw [Layout.cells_feature hf, hmax]
    exact ceilDiv_pred_mul_lt hC (by omega)

/-- The tiles a layout has capacity for take no more than rows_max rows (R82, R87). -/
theorem Layout.rowsUsed_le {l : Layout} {n : Nat} (hv : l.valid = true) (hn : 0 < n) (hcap : n ≤ l.capacity) :
    (l.rowsUsed n : Int) ≤ l.rowsMax := by
  obtain ⟨-, -, -, hrows, hfeature⟩ := Layout.valid_checks hv
  have hC := Layout.columns_pos hv
  obtain ⟨m, hm⟩ := Int.eq_ofNat_of_zero_le (show 0 ≤ l.rowsMax by omega)
  have hroom : n + (if l.featureFirst then 3 else 0) ≤ m * l.columns := by
    have hflow := hcap.trans (min_le_right _ _)
    rw [hm, mul_comm] at hflow
    zify
    omega
  rw [hm] at hfeature ⊢
  norm_cast at hfeature ⊢
  cases hf : l.featureActive n with
  | false =>
    rw [Layout.rowsUsed_plain hn hf, ceilDiv_le_iff hC]
    omega
  | true =>
    obtain ⟨hff, -⟩ := (Layout.featureActive_iff hv n).1 hf
    obtain ⟨-, h2⟩ := hfeature hff
    rw [if_pos hff] at hroom
    rw [Layout.rowsUsed_feature hn hf]
    exact max_le h2 ((ceilDiv_le_iff hC).2 (by omega))

/-! ### Cells (R88) -/

theorem Layout.cellOf_plain {l : Layout} {n i row col : Nat} (hv : l.valid = true) (h : l.featureActive n = false)
    (hc : l.cellOf n i = (row, col)) : row * l.columns + col = i ∧ col < l.columns := by
  rw [Layout.cellOf, h] at hc
  obtain ⟨rfl, rfl⟩ := Prod.mk.inj hc
  exact ⟨Nat.div_add_mod' i l.columns, Nat.mod_lt _ (Layout.columns_pos hv)⟩

theorem Layout.cellOf_feature_zero {l : Layout} {n : Nat} (h : l.featureActive n = true) : l.cellOf n 0 = (0, 0) := by
  simp [Layout.cellOf, h]

/-- Beside the 2 × 2 cells of the feature tile the rows are filled in order: one cell is skipped on row 0, three after it. -/
theorem Layout.cellOf_feature {l : Layout} {n i row col : Nat} (h : l.featureActive n = true) (hi : 0 < i)
    (hc : l.cellOf n i = (row, col)) :
    (row < 2 → 2 ≤ col) ∧ row * l.columns + col = i + (if row = 0 then 1 else 3) ∧ col < l.columns := by
  have hC := Layout.three_le_columns h
  rw [Layout.cellOf, if_pos h, if_neg hi.ne'] at hc
  split at hc
  case isTrue h0 =>
    obtain ⟨rfl, rfl⟩ := Prod.mk.inj hc
    rw [if_pos rfl]
    omega
  case isFalse h0 =>
    split at hc
    case isTrue h1 =>
      obtain ⟨rfl, rfl⟩ := Prod.mk.inj hc
      rw [if_neg one_ne_zero]
      omega
    case isFalse h1 =>
      obtain ⟨rfl, rfl⟩ := Prod.mk.inj hc
      obtain ⟨m, hm⟩ : ∃ m, m = i - 1 - 2 * (l.columns - 2) := ⟨_, rfl⟩
      rw [← hm]
      have hdiv := Nat.div_add_mod' m l.columns
      have hmod := Nat.mod_lt m (show 0 < l.columns by omega)
      generalize m / l.columns = q at hdiv ⊢
      generalize m % l.columns = r at hdiv hmod ⊢
      rw [if_neg (by omega), Nat.add_mul]
      omega

theorem Layout.col_lt {l : Layout} {n i row col : Nat} (hv : l.valid = true) (hc : l.cellOf n i = (row, col)) :
    col < l.columns := by
  cases hf : l.featureActive n with
  | false => exact (Layout.cellOf_plain hv hf hc).2
  | true =>
    rcases Nat.eq_zero_or_pos i with rfl | hi
    · obtain ⟨-, rfl⟩ := Prod.mk.inj ((Layout.cellOf_feature_zero hf).symm.trans hc)
      exact Layout.columns_pos hv
    · exact (Layout.cellOf_feature hf hi hc).2.2

/-- A tile's cell is one of those the tiles take. -/
theorem Layout.cell_lt_cells {l : Layout} {n i row col : Nat} (hv : l.valid = true) (hi : i < n)
    (hc : l.cellOf n i = (row, col)) : row * l.columns + col < l.cells n := by
  cases hf : l.featureActive n with
  | false =>
    rw [Layout.cells_plain hf, (Layout.cellOf_plain hv hf hc).1]
    exact hi
  | true =>
    rw [Layout.cells_feature hf]
    rcases Nat.eq_zero_or_pos i with rfl | hpos
    · obtain ⟨rfl, rfl⟩ := Prod.mk.inj ((Layout.cellOf_feature_zero hf).symm.trans hc)
      omega
    · rw [(Layout.cellOf_feature hf hpos hc).2.1]
      split <;> omega

theorem Layout.row_lt {l : Layout} {n i row col : Nat} (hv : l.valid = true) (hi : i < n)
    (hc : l.cellOf n i = (row, col)) : row < l.rowsUsed n :=
  Nat.lt_of_mul_lt_mul_right (a := l.columns) <|
    (Nat.le_add_right _ col).trans_lt ((Layout.cell_lt_cells hv hi hc).trans_le (Layout.cells_le hv (by omega)))

/-- The cells follow the tiles' order, row by row; the feature tile's corner is the first cell. -/
theorem Layout.cell_lt_cell {l : Layout} {n i j row col row' col' : Nat} (hv : l.valid = true) (hij : i < j)
    (hi : l.cellOf n i = (row, col)) (hj : l.cellOf n j = (row', col')) : row < row' ∨ (row = row' ∧ col < col') := by
  have hcol := Layout.col_lt hv hi
  have hcol' := Layout.col_lt hv hj
  have horder : row * l.columns + col < row' * l.columns + col' := by
    cases hf : l.featureActive n with
    | false =>
      obtain ⟨hpos, -⟩ := Layout.cellOf_plain hv hf hi
      obtain ⟨hpos', -⟩ := Layout.cellOf_plain hv hf hj
      omega
    | true =>
      obtain ⟨-, hpos', -⟩ := Layout.cellOf_feature hf (by omega) hj
      rcases Nat.eq_zero_or_pos i with rfl | h0
      · obtain ⟨rfl, rfl⟩ := Prod.mk.inj ((Layout.cellOf_feature_zero hf).symm.trans hi)
        split at hpos' <;> omega
      · obtain ⟨hbeside, hpos, -⟩ := Layout.cellOf_feature hf h0 hi
        rcases Nat.eq_zero_or_pos row with rfl | hrow
        · rw [if_pos rfl] at hpos
          split at hpos' <;> omega
        · rw [if_neg hrow.ne'] at hpos
          rcases Nat.eq_zero_or_pos row' with rfl | hrow'
          · have hrow2 : row < 2 := by
              by_contra h2
              have := Nat.mul_le_mul_right l.columns (not_lt.1 h2)
              rw [if_pos rfl] at hpos'
              omega
            have := Nat.mul_le_mul_right l.columns hrow
            have := hbeside hrow2
            rw [if_pos rfl] at hpos'
            omega
          · rw [if_neg hrow'.ne'] at hpos'
            omega
  rcases lt_trichotomy row row' with h | h | h
  · exact .inl h
  · subst h
    exact .inr ⟨rfl, by omega⟩
  · have := Nat.mul_le_mul_right l.columns h
    rw [Nat.succ_mul] at this
    omega

/-! ### The centred last row (R89) -/

theorem Layout.two_le_rowsUsed {l : Layout} {n : Nat} (hn : 0 < n) (hf : l.featureActive n = true) : 2 ≤ l.rowsUsed n := by
  rw [Layout.rowsUsed_feature hn hf]
  exact le_max_left _ _

theorem Layout.shift_eq {l : Layout} {n : Nat} (hn : 0 < n) :
    (l.shift n : Int) =
      if l.centreLast = true ∧ l.lastRowCells n < l.columns ∧ ¬(l.featureActive n = true ∧ l.rowsUsed n = 2) then
        ((l.columns : Int) - l.lastRowCells n) * l.pitchX / 2
      else 0 := by
  have hrows : (l.featureActive n = true ∧ l.rowsUsed n ≤ 2) ↔ (l.featureActive n = true ∧ l.rowsUsed n = 2) :=
    and_congr_right fun hf => ⟨fun h => le_antisymm h (Layout.two_le_rowsUsed hn hf), fun h => h.le⟩
  simp only [Layout.shift, hrows, hn, true_and]
  split
  case isTrue h =>
    have hcells : 0 ≤ (l.columns : Int) - l.lastRowCells n := by omega
    exact Int.toNat_of_nonneg (Int.ediv_nonneg (Int.mul_nonneg hcells (Int.natCast_nonneg _)) (by norm_num))
  case isFalse => rfl

/-- The last row, centred, still ends at the last column (R89). -/
theorem Layout.shift_le {l : Layout} {n i row col : Nat} (hv : l.valid = true) (hi : i < n)
    (hc : l.cellOf n i = (row, col)) (hlast : row + 1 = l.rowsUsed n) :
    col * l.pitchX + l.shift n ≤ (l.columns - 1) * l.pitchX := by
  have hcol := Layout.col_lt hv hc
  have hk : (col : Int) < l.lastRowCells n := by
    have := Layout.cell_lt_cells hv hi hc
    rw [Layout.lastRowCells, ← hlast]
    push_cast
    linarith [(Nat.cast_lt (α := Int)).2 this, Int.natCast_add (row * l.columns) col, Int.natCast_mul row l.columns]
  have hshift : (l.shift n : Int) ≤ ((l.columns : Int) - 1 - col) * l.pitchX := by
    have hpitch := Int.natCast_nonneg l.pitchX
    have hroom : 0 ≤ ((l.columns : Int) - 1 - col) * l.pitchX := Int.mul_nonneg (by omega) hpitch
    rw [Layout.shift_eq (by omega : 0 < n)]
    split
    case isFalse => exact hroom
    case isTrue h =>
      have hcells : ((l.columns : Int) - l.lastRowCells n) * l.pitchX ≤ ((l.columns : Int) - 1 - col) * l.pitchX :=
        Int.mul_le_mul_of_nonneg_right (by omega) hpitch
      omega
  obtain ⟨c, hC⟩ := Nat.exists_eq_add_of_lt hcol
  rw [hC] at hshift ⊢
  rw [show ((col + c + 1 : Nat) : Int) - 1 - col = c by push_cast; ring] at hshift
  rw [Nat.add_sub_cancel, Nat.add_mul]
  have : l.shift n ≤ c * l.pitchX := by exact_mod_cast hshift
  omega

/-! ### The places of the tiles (R90) -/

theorem Layout.areaX_eq {l : Layout} {n i row col : Nat} (hc : l.cellOf n i = (row, col)) :
    l.areaX n i = l.bodyLeft + col * l.pitchX + (if row + 1 = l.rowsUsed n then l.shift n else 0) := by
  rw [Layout.areaX, hc]

theorem Layout.areaY_eq {l : Layout} {n i row col : Nat} (hc : l.cellOf n i = (row, col)) :
    l.areaY n i = l.bodyTop + row * l.pitchY := by
  rw [Layout.areaY, hc]

theorem Layout.areaWidth_cell (l : Layout) : l.areaWidth false = l.cellWidth := rfl

theorem Layout.areaWidth_feature (l : Layout) : l.areaWidth true = 2 * l.cellWidth + l.gutterAcross := rfl

theorem Layout.areaHeight_cell (l : Layout) : l.areaHeight false = l.cellHeight := rfl

theorem Layout.areaHeight_feature (l : Layout) :
    l.areaHeight true = 2 * l.cellHeight + l.captionHeight + l.gutterDown := rfl

/-- A feature tile is the first, over the cells of two rows and two columns. -/
theorem Layout.isFeature_iff {l : Layout} {n i : Nat} : l.isFeature n i = true ↔ l.featureActive n = true ∧ i = 0 := by
  simp [Layout.isFeature]

/-- The feature tile's area starts at the body's corner, in a row that is not the last. -/
theorem Layout.feature_area {l : Layout} {n i row col : Nat} (hi : i < n) (hc : l.cellOf n i = (row, col))
    (hf : l.isFeature n i = true) : row = 0 ∧ col = 0 ∧ 2 ≤ l.rowsUsed n ∧ l.areaX n i = l.bodyLeft := by
  obtain ⟨hact, rfl⟩ := Layout.isFeature_iff.1 hf
  obtain ⟨rfl, rfl⟩ := Prod.mk.inj ((Layout.cellOf_feature_zero hact).symm.trans hc)
  have hrows := Layout.two_le_rowsUsed hi hact
  rw [Layout.areaX_eq hc, if_neg (by omega)]
  exact ⟨rfl, rfl, hrows, by omega⟩

theorem Layout.area_inside_across {l : Layout} {n i : Nat} (hv : l.valid = true) (hi : i < n) :
    l.areaX n i + l.areaWidth (l.isFeature n i) ≤ l.bodyLeft + l.bodyWidth := by
  obtain ⟨⟨row, col⟩, hc⟩ : ∃ c, l.cellOf n i = c := ⟨_, rfl⟩
  have hfit := Layout.row_fits hv
  cases hf : l.isFeature n i with
  | true =>
    obtain ⟨-, -, -, hx⟩ := Layout.feature_area hi hc hf
    have hwide : 1 * l.pitchX ≤ (l.columns - 1) * l.pitchX :=
      Nat.mul_le_mul_right _ (Nat.le_sub_of_add_le
        ((Nat.le_succ 2).trans (Layout.three_le_columns (Layout.isFeature_iff.1 hf).1)))
    rw [hx, Layout.areaWidth_feature]
    unfold Layout.pitchX at *
    omega
  | false =>
    rw [Layout.areaX_eq hc, Layout.areaWidth_cell]
    split
    case isTrue hlast =>
      have := Layout.shift_le hv hi hc hlast
      omega
    case isFalse =>
      have hcol := Layout.col_lt hv hc
      have : col * l.pitchX ≤ (l.columns - 1) * l.pitchX := Nat.mul_le_mul_right _ (by omega)
      omega

theorem Layout.area_inside_down {l : Layout} {n i : Nat} (hv : l.valid = true) (hcap : n ≤ l.capacity) (hi : i < n) :
    l.areaY n i + l.areaHeight (l.isFeature n i) + l.captionHeight + l.listStrip ≤ l.bodyTop + l.bodyHeight := by
  obtain ⟨⟨row, col⟩, hc⟩ : ∃ c, l.cellOf n i = c := ⟨_, rfl⟩
  have hrows := Layout.rows_fit hv (Layout.rowsUsed_le hv (by omega) hcap)
  rw [Layout.areaY_eq hc]
  cases hf : l.isFeature n i with
  | true =>
    obtain ⟨rfl, -, htwo, -⟩ := Layout.feature_area hi hc hf
    have := Nat.mul_le_mul_right l.pitchY htwo
    rw [Layout.areaHeight_feature]
    unfold Layout.pitchY at *
    omega
  | false =>
    have := Nat.mul_le_mul_right l.pitchY (Layout.row_lt hv hi hc)
    rw [Nat.succ_mul] at this
    rw [Layout.areaHeight_cell]
    unfold Layout.pitchY at *
    omega

/-- A later tile stands to the right of an earlier one or below its caption strip. -/
theorem Layout.areas_apart {l : Layout} {n i j : Nat} (hv : l.valid = true) (hij : i < j) (hj : j < n) :
    l.areaX n i + l.areaWidth (l.isFeature n i) ≤ l.areaX n j ∨
      l.areaY n i + l.areaHeight (l.isFeature n i) + l.captionHeight ≤ l.areaY n j := by
  obtain ⟨⟨row, col⟩, hc⟩ : ∃ c, l.cellOf n i = c := ⟨_, rfl⟩
  obtain ⟨⟨row', col'⟩, hc'⟩ : ∃ c, l.cellOf n j = c := ⟨_, rfl⟩
  rw [Layout.areaY_eq hc, Layout.areaY_eq hc']
  cases hf : l.isFeature n i with
  | true =>
    obtain ⟨rfl, -, -, hx⟩ := Layout.feature_area (hij.trans hj) hc hf
    obtain ⟨hbeside, -, -⟩ := Layout.cellOf_feature (Layout.isFeature_iff.1 hf).1 (by omega) hc'
    rw [hx, Layout.areaX_eq hc', Layout.areaWidth_feature, Layout.areaHeight_feature]
    rcases Nat.lt_or_ge row' 2 with h | h
    · have := Nat.mul_le_mul_right l.pitchX (hbeside h)
      unfold Layout.pitchX at *
      omega
    · have := Nat.mul_le_mul_right l.pitchY h
      unfold Layout.pitchY at *
      omega
  | false =>
    rw [Layout.areaX_eq hc, Layout.areaX_eq hc', Layout.areaWidth_cell, Layout.areaHeight_cell]
    rcases Layout.cell_lt_cell hv hij hc hc' with h | ⟨rfl, h⟩
    · have := Nat.mul_le_mul_right l.pitchY h
      rw [Nat.succ_mul] at this
      unfold Layout.pitchY at *
      omega
    · have := Nat.mul_le_mul_right l.pitchX h
      rw [Nat.succ_mul] at this
      unfold Layout.pitchX at *
      omega

/-! ### The tile records (R94) -/

theorem tilesFrom_getElem? (inp : Inputs) (n start i : Nat) (l : List (TileEntry × Option ImageInput)) :
    (tilesFrom inp n start l)[i]? = (l[i]?).map (fun e => tileOf inp n (start + i) e.1 e.2) := by
  induction l generalizing start i with
  | nil => rfl
  | cons e l ih =>
    cases i with
    | zero => rfl
    | succ i =>
      rw [tilesFrom, List.getElem?_cons_succ, List.getElem?_cons_succ, ih, Nat.add_right_comm, Nat.add_assoc]

/-- The tile record of an index is that of the entry at the index. -/
theorem Inputs.tileList_getElem? {inp : Inputs} {i : Nat} {t : Tile} (h : inp.tileList[i]? = some t) :
    ∃ e m, inp.tiles[i]? = some e ∧ t = tileOf inp inp.tiles.length i e m := by
  rw [Inputs.tileList, tilesFrom_getElem?, Option.map_eq_some_iff] at h
  obtain ⟨⟨e, m⟩, hzip, rfl⟩ := h
  rw [List.getElem?_zip_eq_some] at hzip
  exact ⟨e, m, hzip.1, by rw [Nat.zero_add]⟩

/-! ### The footer line (R92) -/

/-- The footer line of a sheet stands below the body, or else at the sheet's last rows. -/
theorem Layout.footerLine_y (l : Layout) (footer : Str) :
    (l.footerLine footer).y =
      if l.bodyTop + l.bodyHeight + l.lineHeight ≤ l.sheetHeight then l.bodyTop + l.bodyHeight
      else l.sheetHeight - l.lineHeight := by
  unfold Layout.footerLine
  dsimp only
  split <;> rfl

theorem Layout.footerLine_short {l : Layout} {footer : Str} (h : footer.length ≤ l.sheetWidth / l.advance) :
    (l.footerLine footer).text = footer ∧ (l.footerLine footer).cut = false ∧
      (l.footerLine footer).x = (l.sheetWidth - footer.length * l.advance) / 2 := by
  rw [Layout.footerLine, if_pos h]
  exact ⟨rfl, rfl, rfl⟩

theorem Layout.footerLine_long {l : Layout} {footer : Str} (h : l.sheetWidth / l.advance < footer.length) :
    (l.footerLine footer).text = footer.take (l.sheetWidth / l.advance - 1) ++ [95] ∧ (l.footerLine footer).cut = true ∧
      (l.footerLine footer).x = 0 := by
  rw [Layout.footerLine, if_neg (not_le.2 h)]
  exact ⟨rfl, rfl, rfl⟩

/-- The footer line stands within the sheet's width: a line longer than that was cut to it. -/
theorem Layout.footerLine_fits {l : Layout} (hv : l.valid = true) (footer : Str) :
    (l.footerLine footer).x + (l.footerLine footer).text.length * l.advance ≤ l.sheetWidth := by
  obtain ⟨-, -, -, -, hadv, hadv64, hwide, -⟩ := Layout.valid_ranges hv
  rcases Nat.lt_or_ge (l.sheetWidth / l.advance) footer.length with h | h
  · obtain ⟨htext, -, hx⟩ := Layout.footerLine_long h
    have hroom : 1 ≤ l.sheetWidth / l.advance := (Nat.one_le_div_iff (by omega)).2 (by omega)
    have hlen : (footer.take (l.sheetWidth / l.advance - 1) ++ [95]).length = l.sheetWidth / l.advance := by
      rw [List.length_append, List.length_take, List.length_singleton]
      omega
    rw [htext, hx, hlen, Nat.zero_add]
    exact Nat.div_mul_le_self _ _
  · obtain ⟨htext, -, hx⟩ := Layout.footerLine_short h
    have := (Nat.le_div_iff_mul_le (by omega)).1 h
    rw [htext, hx]
    omega

/-! ### The clauses of the grid -/

/-- The cells a sheet's tiles take and the rows they use (R87, R88). -/
theorem Layout.grid_plain {l : Layout} {n i row col : Nat} (hv : l.valid = true) (hi : i < n)
    (hc : l.cellOf n i = (row, col)) (hf : l.featureActive n = false) :
    row * l.columns + col = i ∧ (l.rowsUsed n - 1) * l.columns < n ∧ n ≤ l.rowsUsed n * l.columns := by
  have hfull := Layout.full_rows_lt hv (Nat.zero_lt_of_lt hi) (fun h => Bool.noConfusion (hf.symm.trans h))
  have hcells := Layout.cells_le hv (Nat.zero_lt_of_lt hi)
  rw [Layout.cells_plain hf] at hfull hcells
  exact ⟨(Layout.cellOf_plain hv hf hc).1, hfull, hcells⟩

theorem Layout.grid_feature {l : Layout} {n i row col : Nat} (hv : l.valid = true) (hi : i < n)
    (hc : l.cellOf n i = (row, col)) (hf : l.featureActive n = true) :
    2 ≤ l.rowsUsed n ∧ n + 3 ≤ l.rowsUsed n * l.columns ∧
      (3 ≤ l.rowsUsed n → (l.rowsUsed n - 1) * l.columns < n + 3) ∧ (i = 0 → row = 0 ∧ col = 0) ∧
      (0 < i → (row < 2 → 2 ≤ col) ∧ row * l.columns + col = i + (if row = 0 then 1 else 3)) := by
  have hn : 0 < n := by omega
  have hcells := Layout.cells_le hv hn
  have hfull := fun h3 : 3 ≤ l.rowsUsed n => Layout.full_rows_lt hv hn fun _ => h3
  rw [Layout.cells_feature hf] at hfull hcells
  refine ⟨Layout.two_le_rowsUsed hn hf, hcells, hfull, ?_, fun hpos => ?_⟩
  · rintro rfl
    exact Prod.mk.inj (hc.symm.trans (Layout.cellOf_feature_zero hf))
  · obtain ⟨hbeside, hcell, -⟩ := Layout.cellOf_feature hf hpos hc
    exact ⟨hbeside, hcell⟩

end Sys2Proof.Machine
end

section
/-! A band frame's spans and payload, and the theorem that settles O31. -/

namespace Sys2Proof.Machine

open Sys2Proof

/-! ### Runs of numbers -/

/-- The numbers below a bound with a property that no number between two of them lacks are a run. -/
theorem filter_range_eq_range' {p : Nat → Bool} (hp : ∀ {a b c}, a ≤ b → b ≤ c → p a = true → p c = true → p b = true)
    (n : Nat) : ∃ a len, (List.range n).filter p = List.range' a len := by
  induction n with
  | zero => exact ⟨0, 0, rfl⟩
  | succ n ih =>
    obtain ⟨a, len, ih⟩ := ih
    rw [List.range_succ, List.filter_append, ih]
    have hmem : ∀ v, (v < n ∧ p v = true) ↔ a ≤ v ∧ v < a + len := fun v => by
      rw [← List.mem_range'_1, ← ih, List.mem_filter, List.mem_range]
    cases hn : p n with
    | false => exact ⟨a, len, by simp [hn]⟩
    | true =>
      rcases Nat.eq_zero_or_pos len with rfl | hlen
      · exact ⟨n, 1, by simp [hn]⟩
      · obtain ⟨hlt, hlast⟩ := (hmem (a + len - 1)).2 (by omega)
        have hend : a + len = n := by
          by_contra hne
          have := (hmem (a + len)).1 ⟨by omega, hp (by omega) (by omega) hlast hn⟩
          omega
        exact ⟨a, len + 1, by simp [hn, List.range'_concat, hend]⟩

/-- A run's members within a window of rows, counted. -/
theorem length_filter_range' (y top rows a len : Nat) :
    ((List.range' a len).filter (fun v => decide (top ≤ y + v) && decide (y + v < top + rows))).length =
      min (y + a + len) (top + rows) - max (y + a) top := by
  induction len with
  | zero =>
    rw [List.range'_zero, List.filter_nil, List.length_nil]
    omega
  | succ len ih =>
    rw [List.range'_concat, List.filter_append, List.length_append, ih, Nat.one_mul, List.filter_singleton]
    by_cases h : top ≤ y + (a + len) ∧ y + (a + len) < top + rows
    · rw [← Bool.decide_and, decide_eq_true h, cond_true, List.length_singleton]
      omega
    · rw [← Bool.decide_and, decide_eq_false h, cond_false, List.length_nil]
      omega

/-! ### An item's span (R141) -/

theorem Item.crosses_iff (it : Item) (top rows : Nat) :
    it.crosses top rows = true ↔ max it.y top < min (it.y + it.height) (top + rows) := by
  rw [Item.crosses, decide_eq_true_iff]
  rfl

theorem Item.span_height {it : Item} {top rows : Nat} (h : it.crosses top rows = true) :
    max it.y top + (it.span top rows).height = min (it.y + it.height) (top + rows) := by
  rw [Item.crosses_iff] at h
  simp only [Item.span, Item.firstRow, Item.endRow]
  omega

theorem Item.span_y (it : Item) (top rows : Nat) : (it.span top rows).y + top = max it.y top := by
  simp only [Item.span, Item.firstRow]
  omega

theorem Item.span_rowOffset (it : Item) (top rows : Nat) : (it.span top rows).rowOffset = top - it.y := by
  simp only [Item.span, Item.firstRow]
  omega

/-- A span lies inside its band, and one that starts above it starts at the band's top. -/
def Span.inside (rows : Nat) (sp : Span) : Prop :=
  0 < sp.height ∧ sp.y + sp.height ≤ rows ∧ (0 < sp.rowOffset → sp.y = 0)

theorem Item.span_inside {it : Item} {top rows : Nat} (h : it.crosses top rows = true) : (it.span top rows).inside rows := by
  have hheight := Item.span_height h
  have hy := it.span_y top rows
  have hoff := it.span_rowOffset top rows
  rw [Item.crosses_iff] at h
  unfold Span.inside
  omega

/-- The payload bytes a span takes (R141). -/
def Span.payloadSize (sp : Span) : Nat :=
  match sp.body with
  | .portrait _ _ _ _ _ _ _ => sp.width * sp.height * 3
  | .placeholder _ _ _ => 0
  | .text _ len _ _ _ => len

/-- An entry of the span list lies inside its band and has the payload its span takes. -/
def entryFits (rows : Nat) (e : Span × List Byte) : Prop := e.1.inside rows ∧ e.2.length = e.1.payloadSize

theorem Item.mem_entry {it : Item} {payload : List Byte} {top rows : Nat} {e : Span × List Byte} :
    e ∈ it.entry payload top rows ↔ it.crosses top rows = true ∧ e = (it.span top rows, payload) := by
  unfold Item.entry
  split <;> simp_all

theorem Item.entry_fits {it : Item} {payload : List Byte} {top rows : Nat} {e : Span × List Byte}
    (he : e ∈ it.entry payload top rows)
    (hlen : it.crosses top rows = true → payload.length = (it.span top rows).payloadSize) : entryFits rows e := by
  obtain ⟨hcross, rfl⟩ := Item.mem_entry.1 he
  exact ⟨Item.span_inside hcross, hlen hcross⟩

/-! ### Text -/

theorem length_flatMap_byte1 (text : Str) : (text.flatMap byte1).length = text.length := by
  induction text with
  | nil => rfl
  | cons c text ih => rw [List.flatMap_cons, List.length_append, ih, Nat.add_comm]; rfl

theorem textItem_fits {k : TextKind} {x y advance lineHeight top rows : Nat} {text : Str} {cut : Bool} {e : Span × List Byte}
    (he : e ∈ (textItem k x y text advance lineHeight cut).entry (text.flatMap byte1) top rows) : entryFits rows e :=
  Item.entry_fits he fun _ => length_flatMap_byte1 text

/-- The spans of numbered lines: line `i` stands `i` lines down. -/
theorem mem_textSpans {k : TextKind} {advance lineHeight top rows y : Nat} {lines : List (Nat × Str)} {e : Span × List Byte} :
    e ∈ textSpans k advance lineHeight top rows y lines ↔
      ∃ i x text, lines[i]? = some (x, text) ∧
        e ∈ (textItem k x (y + i * lineHeight) text advance lineHeight false).entry (text.flatMap byte1) top rows := by
  induction lines generalizing y with
  | nil => simp [textSpans]
  | cons line lines ih =>
    obtain ⟨x, text⟩ := line
    rw [textSpans, List.mem_append, ih]
    constructor
    · rintro (he | ⟨i, x', text', hi, he⟩)
      · exact ⟨0, x, text, rfl, by rwa [Nat.zero_mul]⟩
      · exact ⟨i + 1, x', text', hi, by rwa [Nat.succ_mul, Nat.add_comm (i * lineHeight), ← Nat.add_assoc]⟩
    · rintro ⟨i, x', text', hi, he⟩
      cases i with
      | zero =>
        obtain ⟨rfl, rfl⟩ := Prod.mk.inj (Option.some.inj hi)
        rw [Nat.zero_mul] at he
        exact .inl he
      | succ i =>
        rw [Nat.succ_mul, Nat.add_comm (i * lineHeight), ← Nat.add_assoc] at he
        exact .inr ⟨i, x', text', hi, he⟩

theorem textSpans_fits {k : TextKind} {advance lineHeight top rows y : Nat} {lines : List (Nat × Str)} {e : Span × List Byte}
    (he : e ∈ textSpans k advance lineHeight top rows y lines) : entryFits rows e := by
  obtain ⟨i, x, text, -, he⟩ := mem_textSpans.1 he
  exact textItem_fits he

theorem textSpans_body {k : TextKind} {advance lineHeight top rows y : Nat} {lines : List (Nat × Str)} {e : Span × List Byte}
    (he : e ∈ textSpans k advance lineHeight top rows y lines) : ∃ len, e.1.body = .text k len advance lineHeight false := by
  obtain ⟨i, x, text, -, he⟩ := mem_textSpans.1 he
  obtain ⟨-, rfl⟩ := Item.mem_entry.1 he
  exact ⟨text.length, rfl⟩

/-! ### The span of a portrait (R107, R141) -/

theorem Fit.sourceRow_mono (f : Fit) {u v : Nat} (h : u ≤ v) : f.sourceRow u ≤ f.sourceRow v := by
  have : u * 4096 / f.scale ≤ v * 4096 / f.scale := Nat.div_le_div_right (Nat.mul_le_mul_right _ h)
  unfold Fit.sourceRow
  omega

/-- The rows of an area that show its source are a run. -/
theorem inkRows_eq_range' (f : Fit) (areaHeight sourceHeight : Nat) :
    ∃ a len, inkRows f areaHeight sourceHeight = List.range' a len := by
  refine filter_range_eq_range' (fun {u v w} huv hvw hu hw => ?_) areaHeight
  have hlow := f.sourceRow_mono huv
  have hhigh := f.sourceRow_mono hvw
  simp only [Bool.and_eq_true, decide_eq_true_eq] at hu hw ⊢
  omega

/-- A window inside its source shows it in every row. -/
theorem inkRows_of_inside {f : Fit} {areaHeight sourceHeight : Nat} (hh : 0 < f.h) (h0 : 0 ≤ f.y0)
    (h1 : f.y0 + f.h ≤ sourceHeight) : inkRows f areaHeight sourceHeight = List.range areaHeight := by
  refine List.filter_eq_self.2 fun v _ => ?_
  rw [Bool.and_eq_true, decide_eq_true_iff, decide_eq_true_iff, Fit.sourceRow]
  have hmin := Nat.min_le_right (v * 4096 / f.scale) (f.h - 1)
  generalize min (v * 4096 / f.scale) (f.h - 1) = d at hmin ⊢
  omega

theorem inkColumns_of_inside {f : Fit} {areaWidth sourceWidth : Nat} (hw : 0 < f.w) (h0 : 0 ≤ f.x0)
    (h1 : f.x0 + f.w ≤ sourceWidth) : inkColumns f areaWidth sourceWidth = List.range areaWidth := by
  refine List.filter_eq_self.2 fun u _ => ?_
  rw [Bool.and_eq_true, decide_eq_true_iff, decide_eq_true_iff, Fit.sourceColumn]
  have hmin := Nat.min_le_right (u * 4096 / f.scale) (f.w - 1)
  generalize min (u * 4096 / f.scale) (f.w - 1) = d at hmin ⊢
  omega

theorem headD_range (n : Nat) : (List.range n).headD 0 = 0 := by
  cases n with
  | zero => rfl
  | succ n => rw [List.range_succ_eq_map]; rfl

theorem length_portraitPayload (pl : Pool) (blocks : List Nat) (sourceWidth : Nat) (f : Fit) (columns rows : List Nat) :
    (portraitPayload pl blocks sourceWidth f columns rows).length = columns.length * rows.length * 3 := by
  have hpixel : ∀ u v, (pl.pixel blocks sourceWidth u v).length = 3 := fun u v => by
    rw [Pool.pixel, List.length_map, List.length_range]
  simp only [portraitPayload, List.length_flatMap, hpixel, List.map_const', List.sum_replicate, smul_eq_mul]
  ring

/-- The rectangle of an area's dots that show a source pixel (R107, R141). -/
def portraitItem (t : Tile) (p g : Nat) (f : Fit) (m : Image) : Item :=
  { x := t.x + (inkColumns f t.width m.width).headD 0, y := t.y + (inkRows f t.height m.height).headD 0
    width := (inkColumns f t.width m.width).length, height := (inkRows f t.height m.height).length
    body := .portrait p g f.x0 f.y0 f.w f.h f.scale }

/-- The rows of an area within a band that show a source pixel. -/
def portraitRows (t : Tile) (f : Fit) (m : Image) (top rows : Nat) : List Nat :=
  (inkRows f t.height m.height).filter (fun v => decide (top ≤ t.y + v) && decide (t.y + v < top + rows))

theorem length_portraitRows {t : Tile} {p g : Nat} {f : Fit} {m : Image} {top rows : Nat}
    (h : (portraitItem t p g f m).crosses top rows = true) :
    (portraitRows t f m top rows).length = ((portraitItem t p g f m).span top rows).height := by
  have hheight := Item.span_height h
  rw [Item.crosses_iff] at h
  obtain ⟨a, len, hrun⟩ := inkRows_eq_range' f t.height m.height
  have hy : (portraitItem t p g f m).y = t.y + (List.range' a len).headD 0 := by rw [← hrun]; rfl
  have hlen : (portraitItem t p g f m).height = len := by
    rw [← List.length_range' (s := a) (n := len) (step := 1), ← hrun]; rfl
  rw [portraitRows, hrun, length_filter_range']
  rw [hy, hlen] at h hheight
  cases len with
  | zero => omega
  | succ len =>
    rw [List.range'_succ, List.headD_cons] at h hheight
    omega

theorem tileSpan_placeholder {s : State} {t : Tile} {top rows pattern : Nat} (h : t.kind = .placeholder pattern) :
    tileSpan s t top rows =
      ({ x := t.x, y := t.y, width := t.width, height := t.height
         body := .placeholder pattern t.width t.height } : Item).entry [] top rows := by
  rw [tileSpan, h]

theorem tileSpan_portrait_none {s : State} {t : Tile} {top rows p g : Nat} {f : Fit} {fl : TileFlags}
    (h : t.kind = .portrait p g f fl) (hm : (s.portrait p).current = none) : tileSpan s t top rows = [] := by
  simp only [tileSpan, h, hm]

theorem tileSpan_portrait {s : State} {t : Tile} {top rows p g : Nat} {f : Fit} {fl : TileFlags} {m : Image}
    (h : t.kind = .portrait p g f fl) (hm : (s.portrait p).current = some m) :
    tileSpan s t top rows =
      (portraitItem t p g f m).entry
        (portraitPayload s.pool (s.pool.blocksOf (.current p)) m.width f (inkColumns f t.width m.width)
          (portraitRows t f m top rows)) top rows := by
  simp only [tileSpan, h, hm]
  rfl

/-- A portrait whose window lies inside its source fills its area. -/
theorem portraitItem_of_inside {t : Tile} {p g : Nat} {f : Fit} {m : Image} (hw : 0 < f.w) (hh : 0 < f.h) (hx : 0 ≤ f.x0)
    (hx1 : f.x0 + f.w ≤ m.width) (hy : 0 ≤ f.y0) (hy1 : f.y0 + f.h ≤ m.height) :
    portraitItem t p g f m =
      { x := t.x, y := t.y, width := t.width, height := t.height
        body := .portrait p g f.x0 f.y0 f.w f.h f.scale } := by
  rw [portraitItem, inkColumns_of_inside hw hx hx1, inkRows_of_inside hh hy hy1]
  simp only [headD_range, List.length_range, Nat.add_zero]

/-! ### The span list of a band (R141) -/

theorem tileSpan_fits {s : State} {t : Tile} {top rows : Nat} {e : Span × List Byte} (he : e ∈ tileSpan s t top rows) :
    entryFits rows e := by
  cases hk : t.kind with
  | placeholder pattern =>
    rw [tileSpan_placeholder hk] at he
    exact Item.entry_fits he fun _ => rfl
  | portrait p g f fl =>
    cases hm : (s.portrait p).current with
    | none =>
      rw [tileSpan_portrait_none hk hm] at he
      exact absurd he List.not_mem_nil
    | some m =>
      rw [tileSpan_portrait hk hm] at he
      refine Item.entry_fits he fun hcross => ?_
      rw [length_portraitPayload, length_portraitRows hcross]
      rfl

theorem tileSpan_body {s : State} {t : Tile} {top rows : Nat} {e : Span × List Byte} (he : e ∈ tileSpan s t top rows)
    (k : TextKind) (len advance lineHeight : Nat) (cut : Bool) : e.1.body ≠ .text k len advance lineHeight cut := by
  cases hk : t.kind with
  | placeholder pattern =>
    rw [tileSpan_placeholder hk] at he
    obtain ⟨-, rfl⟩ := Item.mem_entry.1 he
    exact SpanBody.noConfusion
  | portrait p g f fl =>
    cases hm : (s.portrait p).current with
    | none =>
      rw [tileSpan_portrait_none hk hm] at he
      exact absurd he List.not_mem_nil
    | some m =>
      rw [tileSpan_portrait hk hm] at he
      obtain ⟨-, rfl⟩ := Item.mem_entry.1 he
      exact SpanBody.noConfusion

/-- A tile's spans are its own and those of its caption lines. -/
theorem tileSpans_body {s : State} {l : Layout} {t : Tile} {top rows : Nat} {e : Span × List Byte}
    (he : e ∈ tileSpans s l top rows t) {k : TextKind} (hk : k ≠ .caption) (len advance lineHeight : Nat) (cut : Bool) :
    e.1.body ≠ .text k len advance lineHeight cut := by
  rcases List.mem_append.1 he with he | he
  · exact tileSpan_body he k len advance lineHeight cut
  · obtain ⟨len', hbody⟩ := textSpans_body he
    rw [hbody]
    exact fun h => hk (SpanBody.text.inj h).1.symm

/-- The spans of the not-pictured lines of a result in a band. -/
def listSpans (l : Layout) (r : PlacementResult) (top rows : Nat) : List (Span × List Byte) :=
  textSpans .list l.advance l.lineHeight top rows l.listTop (r.notPictured.map (fun t => (l.bodyLeft, t)))

/-- The footer line of a result as an item. -/
def footerItem (l : Layout) (r : PlacementResult) : Item :=
  textItem .footer r.footerLine.x r.footerLine.y r.footerLine.text l.advance l.lineHeight r.footerLine.cut

/-- The span of the footer line of a result in a band it crosses. -/
def footerSpans (l : Layout) (r : PlacementResult) (top rows : Nat) : List (Span × List Byte) :=
  (footerItem l r).entry (r.footerLine.text.flatMap byte1) top rows

theorem bandSpans_eq (s : State) (l : Layout) (r : PlacementResult) (top rows : Nat) :
    bandSpans s l r top rows =
      r.tiles.flatMap (tileSpans s l top rows) ++ listSpans l r top rows ++ footerSpans l r top rows := rfl

theorem mem_bandSpans {s : State} {l : Layout} {r : PlacementResult} {top rows : Nat} {e : Span × List Byte} :
    e ∈ bandSpans s l r top rows ↔
      (∃ t ∈ r.tiles, e ∈ tileSpan s t top rows) ∨
      (∃ t ∈ r.tiles, e ∈ textSpans .caption l.advance l.lineHeight top rows t.stripTop
        (t.caption.map (fun c => (t.x + c.x, c.text)))) ∨
      e ∈ listSpans l r top rows ∨ e ∈ footerSpans l r top rows := by
  simp only [bandSpans_eq, List.mem_append, List.mem_flatMap, tileSpans, and_or_left, exists_or, or_assoc]

theorem bandSpans_fits {s : State} {l : Layout} {r : PlacementResult} {top rows : Nat} {e : Span × List Byte}
    (he : e ∈ bandSpans s l r top rows) : entryFits rows e := by
  rcases mem_bandSpans.1 he with ⟨t, -, he⟩ | ⟨t, -, he⟩ | he | he
  · exact tileSpan_fits he
  · exact textSpans_fits he
  · exact textSpans_fits he
  · exact textItem_fits he

theorem length_footerSpans_le (l : Layout) (r : PlacementResult) (top rows : Nat) :
    (footerSpans l r top rows).length ≤ 1 := by
  unfold footerSpans Item.entry
  split
  · exact le_rfl
  · exact Nat.zero_le 1

/-- The payload of a list of entries is as long as its spans take. -/
theorem length_payload {rows : Nat} {l : List (Span × List Byte)} (h : ∀ e ∈ l, entryFits rows e) :
    (l.flatMap (·.2)).length = ((l.map (·.1)).map Span.payloadSize).sum := by
  rw [List.length_flatMap, List.map_map]
  exact congrArg List.sum (List.map_congr_left fun e he => (h e he).2)

theorem mem_spans_of_entry {it : Item} {payload : List Byte} {top rows : Nat} {l : List (Span × List Byte)}
    (hcross : it.crosses top rows = true) (h : ∀ e ∈ it.entry payload top rows, e ∈ l) : it.span top rows ∈ l.map (·.1) :=
  List.mem_map.2 ⟨_, h _ (Item.mem_entry.2 ⟨hcross, rfl⟩), rfl⟩

/-! ### The band frame (R140) -/

theorem State.bandFrame_eq {s : State} {j : Job} {b : BandInProduction} {sh : Sheet} {l : Layout} {r : PlacementResult}
    (hsh : s.sheet j.sheet = some sh) (hl : sh.layout = some l) (hr : sh.result = some r) :
    s.bandFrame j b =
      some
        { tag := j.tag, serial := b.serial, copy := b.copy, band := b.band, bandCount := l.bands
          bandHeight := l.bandHeight b.band, sheetWidth := l.sheetWidth, proof := decide (j.kind = .proof)
          startCorrection := 0
          spans := (bandSpans s l r (bandTop b.band) (l.bandHeight b.band)).map (·.1)
          payload := (bandSpans s l r (bandTop b.band) (l.bandHeight b.band)).flatMap (·.2) } := by
  simp only [State.bandFrame, hsh, hl, hr, Option.bind_eq_bind, Option.bind_some]

/-- The spans of a frame part by part: the tiles with their captions, the list lines, the footer (R141). -/
theorem bandSpans_parts (s : State) (l : Layout) (r : PlacementResult) (top rows : Nat) :
    ∃ tiles lists foot : List Span, (bandSpans s l r top rows).map (·.1) = tiles ++ lists ++ foot ∧
      (∀ sp ∈ tiles, ∀ len a lh cut, sp.body ≠ .text .list len a lh cut ∧ sp.body ≠ .text .footer len a lh cut) ∧
      (∀ sp ∈ lists, ∃ len, sp.body = .text .list len l.advance l.lineHeight false) ∧ foot.length ≤ 1 ∧
      (∀ sp ∈ foot, sp.body = .text .footer r.footerLine.text.length l.advance l.lineHeight r.footerLine.cut) := by
  refine ⟨(r.tiles.flatMap (tileSpans s l top rows)).map (·.1), (listSpans l r top rows).map (·.1),
    (footerSpans l r top rows).map (·.1), by rw [bandSpans_eq, List.map_append, List.map_append], ?_, ?_, ?_, ?_⟩
  · intro sp hsp len a lh cut
    obtain ⟨e, he, rfl⟩ := List.mem_map.1 hsp
    obtain ⟨t, -, he⟩ := List.mem_flatMap.1 he
    exact ⟨tileSpans_body he (by decide) len a lh cut, tileSpans_body he (by decide) len a lh cut⟩
  · intro sp hsp
    obtain ⟨e, he, rfl⟩ := List.mem_map.1 hsp
    exact textSpans_body he
  · rw [List.length_map]
    exact length_footerSpans_le l r top rows
  · intro sp hsp
    obtain ⟨e, he, rfl⟩ := List.mem_map.1 hsp
    obtain ⟨-, rfl⟩ := Item.mem_entry.1 he
    rfl

/-! ### Every item that crosses a band has its span (R141) -/

section
variable {s : State} {l : Layout} {r : PlacementResult} {top rows : Nat}

theorem placeholder_span_mem {t : Tile} {pattern : Nat} {it : Item} (hcross : it.crosses top rows = true) (ht : t ∈ r.tiles)
    (hk : t.kind = .placeholder pattern)
    (hit : it = { x := t.x, y := t.y, width := t.width, height := t.height
                  body := .placeholder pattern t.width t.height }) :
    it.span top rows ∈ (bandSpans s l r top rows).map (·.1) := by
  subst hit
  exact mem_spans_of_entry hcross fun e he => mem_bandSpans.2 (.inl ⟨t, ht, by rwa [tileSpan_placeholder hk]⟩)

theorem portrait_span_mem {t : Tile} {p g : Nat} {f : Fit} {fl : TileFlags} {m : Image}
    (hcross : (portraitItem t p g f m).crosses top rows = true) (ht : t ∈ r.tiles) (hk : t.kind = .portrait p g f fl)
    (hm : (s.portrait p).current = some m) :
    (portraitItem t p g f m).span top rows ∈ (bandSpans s l r top rows).map (·.1) :=
  mem_spans_of_entry hcross fun e he => mem_bandSpans.2 (.inl ⟨t, ht, by rwa [tileSpan_portrait hk hm]⟩)

theorem caption_span_mem {t : Tile} {k : Nat} {c : CaptionLine} {it : Item} (hcross : it.crosses top rows = true)
    (ht : t ∈ r.tiles) (hc : t.caption[k]? = some c)
    (hit : it = textItem .caption (t.x + c.x) (t.stripTop + k * l.lineHeight) c.text l.advance l.lineHeight false) :
    it.span top rows ∈ (bandSpans s l r top rows).map (·.1) := by
  subst hit
  refine mem_spans_of_entry (payload := c.text.flatMap byte1) hcross fun e he =>
    mem_bandSpans.2 (.inr (.inl ⟨t, ht, mem_textSpans.2 ?_⟩))
  exact ⟨k, t.x + c.x, c.text, by rw [List.getElem?_map, hc]; rfl, he⟩

theorem list_span_mem {k : Nat} {text : Str} {it : Item} (hcross : it.crosses top rows = true)
    (hk : r.notPictured[k]? = some text)
    (hit : it = textItem .list l.bodyLeft (l.listTop + k * l.lineHeight) text l.advance l.lineHeight false) :
    it.span top rows ∈ (bandSpans s l r top rows).map (·.1) := by
  subst hit
  refine mem_spans_of_entry (payload := text.flatMap byte1) hcross fun e he =>
    mem_bandSpans.2 (.inr (.inr (.inl (mem_textSpans.2 ?_))))
  exact ⟨k, l.bodyLeft, text, by rw [List.getElem?_map, hk]; rfl, he⟩

theorem footer_span_mem (hcross : (footerItem l r).crosses top rows = true) :
    (footerItem l r).span top rows ∈ (bandSpans s l r top rows).map (·.1) :=
  mem_spans_of_entry hcross fun _ he => mem_bandSpans.2 (.inr (.inr (.inr he)))

end

/-- The band count is the sheet's height in bands of 128 rows, rounded up. -/
theorem Layout.bands_eq (l : Layout) : l.bands = (l.sheetHeight + 127) / 128 := by
  rw [Layout.bands, ceilDiv, Config.bandRows]
  omega

/-- Settles O31: the grid from where the cells lie among the rows, the frame from the entries of the band's span list. -/
theorem gridFooterAndBandFramesFollowTheResult : Obligations.GridFooterAndBandFramesFollowTheResult := by
  unfold Obligations.GridFooterAndBandFramesFollowTheResult
  refine ⟨fun l n i row col hv hcap hi hc => ?_, fun inp i t ht => ?_, fun l footer f hv hf => ?_,
    fun s j b f sh l r top rows hsh hl hr hf htop hrows => ?_, fun it top rows => ?_⟩
  · have hn : 0 < n := by omega
    refine ⟨Layout.featureActive_iff hv n, Layout.rowsUsed_le hv hn hcap, Layout.row_lt hv hi hc, Layout.col_lt hv hc,
      Layout.grid_plain hv hi hc, Layout.grid_feature hv hi hc, fun k hk => ?_, Layout.areaX_eq hc, Layout.areaY_eq hc,
      ?_, ?_, Layout.area_inside_across hv hi, Layout.area_inside_down hv hcap hi, fun j hij hj => ?_⟩
    · subst hk
      exact Layout.shift_eq hn
    · rw [Layout.areaX_eq hc, Nat.add_assoc]
      exact Nat.le_add_right _ _
    · rw [Layout.areaY_eq hc]
      exact Nat.le_add_right _ _
    · exact (Layout.areas_apart hv hij hj).imp_right .inr
  · obtain ⟨e, m, he, rfl⟩ := Inputs.tileList_getElem? ht
    exact ⟨rfl, rfl, rfl, rfl, rfl, rfl, by rw [he]; rfl⟩
  · subst hf
    obtain ⟨-, hheight, -⟩ := Layout.valid_checks hv
    obtain ⟨-, -, -, hline, -, -, -, hsheet⟩ := Layout.valid_ranges hv
    have hy := Layout.footerLine_y l footer
    refine ⟨?_, Layout.footerLine_fits hv footer, hy, Layout.footerLine_short, Layout.footerLine_long⟩
    rw [hy]
    split <;> omega
  · rw [State.bandFrame_eq hsh hl hr] at hf
    obtain rfl := Option.some.inj hf
    obtain rfl : bandTop b.band = top := htop.symm
    obtain rfl : l.bandHeight b.band = rows := hrows.symm
    refine ⟨by rw [Layout.bands_eq], fun sp hsp => ?_, length_payload fun e => bandSpans_fits, bandSpans_parts s l r _ _,
      fun it hcross hit => ?_⟩
    · obtain ⟨e, he, rfl⟩ := List.mem_map.1 hsp
      exact (bandSpans_fits he).1
    · rcases hit with ⟨t, pattern, ht, hk, rfl⟩ | ⟨t, p, g, ft, fl, m, ht, hk, hm, hw, hh, hx, hx1, hy, hy1, rfl⟩ |
        ⟨t, k, c, ht, hc, rfl⟩ | ⟨k, text, hk, rfl⟩ | rfl
      · exact placeholder_span_mem hcross ht hk rfl
      · rw [← portraitItem_of_inside hw hh hx hx1 hy hy1] at hcross ⊢
        exact portrait_span_mem hcross ht hk hm
      · exact caption_span_mem hcross ht hc rfl
      · exact list_span_mem hcross hk rfl
      · exact footer_span_mem hcross
  · exact ⟨it.crosses_iff top rows, fun h =>
      ⟨rfl, rfl, rfl, it.span_y top rows, it.span_rowOffset top rows, Item.span_height h⟩⟩

end Sys2Proof.Machine
end

section
/-! Collation as a strict total order, and the place at which an entry joins a roster: the theorem that settles O19. -/

namespace Sys2Proof.Machine

open Sys2Proof

/-! ### The three answers of collation (R27) -/

theorem collate_eq (i : Nat) (e : Entry) (j : Nat) (f : Entry) :
    collate i e j f = .eq ↔ collateKey i e = collateKey j f := by
  simp only [collateKey, toLex_inj, Prod.mk.injEq, ← compareNum_eq, ← compareStr_eq]
  unfold collate
  cases compareNum (roleRank e.role) (roleRank f.role) <;> simp
  cases compareStr (fold e.surname) (fold f.surname) <;> simp
  cases compareStr (fold e.given) (fold f.given) <;> simp

theorem collate_gt (i : Nat) (e : Entry) (j : Nat) (f : Entry) :
    collate i e j f = .gt ↔ collateKey j f < collateKey i e := by
  rw [← not_le, le_iff_lt_or_eq, ← collate_lt, ← collate_eq]
  cases collate i e j f <;> simp

/-- Of two entries with different ids that do not sort one way round, the other way round holds. -/
theorem collate_lt_of_not_lt {i j : Nat} {e f : Entry} (h : ¬collate i e j f = .lt) (hne : i ≠ j) : collate j f i e = .lt := by
  rw [collate_lt] at h ⊢
  exact lt_of_le_of_ne (not_lt.1 h) (collateKey_ne f e hne.symm)

/-! ### The place of an entry in a roster (R28) -/

/-- Under the records that `entry` gives, entry `a` stands before entry `b` by collation; `State.collates` is this order under
the records of a state. -/
def collatesBy (entry : Nat → Option Entry) (a b : Nat) : Prop :=
  ∃ x y, entry a = some x ∧ entry b = some y ∧ collate a x b y = .lt

/-- An element put between those before it and those after it leaves a list in order. -/
theorem pairwise_insert_between {α : Type} {R : α → α → Prop} {before after : List α} {a : α}
    (h : (before ++ after).Pairwise R) (hb : ∀ b ∈ before, R b a) (ha : ∀ c ∈ after, R a c) :
    (before ++ a :: after).Pairwise R := by
  obtain ⟨h1, h2, h3⟩ := List.pairwise_append.1 h
  exact List.pairwise_append.2 ⟨h1, List.pairwise_cons.2 ⟨ha, h2⟩,
    fun b hb' => List.forall_mem_cons.2 ⟨hb b hb', h3 b hb'⟩⟩

section
variable {entry : Nat → Option Entry}

theorem collatesBy_trans {a b c : Nat} (h : collatesBy entry a b) (h' : collatesBy entry b c) : collatesBy entry a c := by
  obtain ⟨x, y, hx, hy, hlt⟩ := h
  obtain ⟨y', z, hy', hz, hlt'⟩ := h'
  obtain rfl : y = y' := Option.some.inj (hy.symm.trans hy')
  rw [collate_lt] at hlt hlt'
  exact ⟨x, z, hx, hz, (collate_lt ..).2 (hlt.trans hlt')⟩

/-- An entry joins a roster in strict order between the entries that stand before it and those that stand after it. -/
theorem rosterInsert_split {i : Nat} {e : Entry} (hi : entry i = some e) {l : List Nat} (hn : i ∉ l)
    (hm : ∀ j ∈ l, (entry j).isSome) (hl : l.Pairwise (collatesBy entry)) :
    ∃ before after, l = before ++ after ∧ rosterInsert entry i e l = before ++ i :: after ∧
      (∀ j ∈ before, collatesBy entry j i) ∧ ∀ j ∈ after, collatesBy entry i j := by
  induction l with
  | nil => exact ⟨[], [], rfl, rfl, by simp, by simp⟩
  | cons j l ih =>
    obtain ⟨hj, hl⟩ := List.pairwise_cons.1 hl
    rw [List.mem_cons, not_or] at hn
    obtain ⟨hne, hn⟩ := hn
    obtain ⟨hjs, hm⟩ := List.forall_mem_cons.1 hm
    obtain ⟨f, hf⟩ := Option.isSome_iff_exists.1 hjs
    simp only [rosterInsert, hf]
    split
    · rename_i hlt
      have hij : collatesBy entry i j := ⟨e, f, hi, hf, hlt⟩
      exact ⟨[], j :: l, rfl, rfl, by simp,
        List.forall_mem_cons.2 ⟨hij, fun k hk => collatesBy_trans hij (hj k hk)⟩⟩
    · rename_i hlt
      have hji : collatesBy entry j i := ⟨f, e, hf, hi, collate_lt_of_not_lt hlt hne⟩
      obtain ⟨before, after, rfl, hins, hbefore, hafter⟩ := ih hn hm hl
      exact ⟨j :: before, after, rfl, by rw [hins]; rfl, List.forall_mem_cons.2 ⟨hji, hbefore⟩, hafter⟩

end

/-- Settles O19: collation is the order of the collation keys, and an entry joins a roster at the one cut of it that has the
smaller entries before and the greater ones after. -/
theorem collationKeepsRostersInStrictOrder : Obligations.CollationKeepsRostersInStrictOrder := by
  unfold Obligations.CollationKeepsRostersInStrictOrder
  refine ⟨⟨fun i e j f h => ?_, fun i e j f => ?_, fun i e j f k h hij hjk => ?_⟩, fun entry i e l hn hm hi hl => ?_⟩
  · by_contra hne
    exact collateKey_ne e f hne ((collate_eq ..).1 h)
  · rw [collate_lt, collate_gt]
  · rw [collate_lt] at hij hjk ⊢
    exact hij.trans hjk
  · obtain ⟨before, after, rfl, hins, hbefore, hafter⟩ := rosterInsert_split hi hn hm hl
    refine ⟨?_, before, after, rfl, hins⟩
    rw [hins]
    exact pairwise_insert_between hl hbefore hafter

end Sys2Proof.Machine
end

section
/-! The requests that no row names, and the changes of rosters and entries under the change guard: the theorems that settle O8,
O20 and O21. -/

namespace Sys2Proof.Machine

open Sys2Proof

/-! ### The row of unknown requests (R36, R172) -/

section
variable {s g : State} {p : Port} {h : HeldRequest}

theorem exec_unknownRequestCode_of_none (hg : s.grantDesk p = some (g, h)) (hr : requestOf h = none) :
    exec (.unknownRequestCode p) s = .next (g.finish p h.tag (Answer.refuse .badForm)) := by
  change Host.Outcome.next (s.serve p _) = _
  rw [State.serve_of_grant hg, hr]
  rfl

/-- An EDIT ENTRY of a group outside the four is judged by its entry first. -/
theorem exec_unknownRequestCode_of_editOther (hg : s.grantDesk p = some (g, h)) {e : Nat}
    (hr : requestOf h = some (.editOther e)) :
    exec (.unknownRequestCode p) s = .next (g.finish p h.tag
      (Answer.refuse (if (g.entry e).isSome ∧ e < 3072 then .badForm else .badIndex))) := by
  change Host.Outcome.next (s.serve p _) = _
  rw [State.serve_of_grant hg, hr]
  by_cases he : (g.entry e).isSome ∧ e < 3072 <;> simp [he, Config.entrySlots]

theorem exec_unknownRequestCode_of_request (hg : s.grantDesk p = some (g, h)) {r : Request} (hr : requestOf h = some r)
    (hne : ∀ e, r ≠ .editOther e) : exec (.unknownRequestCode p) s = .next s := by
  change Host.Outcome.next (s.serve p _) = _
  rw [State.serve_of_grant hg, hr]
  cases r with
  | editOther e => exact absurd rfl (hne e)
  | _ => rfl

end

/-- Settles O8, by what the port holds: no request, an EDIT ENTRY of a foreign group, or another row's request. -/
theorem unknownRequestsAreRefused : Obligations.UnknownRequestsAreRefused := by
  unfold Obligations.UnknownRequestsAreRefused
  intro s g p h hg
  refine ⟨exec_unknownRequestCode_of_none hg, fun e he => ⟨fun hlt hs => ?_, fun hno => ?_⟩,
    fun r hr hne => exec_unknownRequestCode_of_request hg hr hne⟩
  · rw [exec_unknownRequestCode_of_editOther hg he, if_pos ⟨hs, hlt⟩]
  · have hno : ¬((g.entry e).isSome ∧ e < 3072) := by
      rintro ⟨hs, hlt⟩
      rcases hno with hge | hnone
      · exact absurd hlt (not_lt.2 hge)
      · simp [hnone] at hs
    rw [exec_unknownRequestCode_of_editOther hg he, if_neg hno]

/-! ### What the roster requests ask for (R34, R35, R41) -/

theorem nameCut_eq (x y : Str) : nameCut x y = decide (24 < x.length ∨ 24 < y.length) := (Bool.decide_or ..).symm

section
variable {s : State}

/-- ADD ENTRY with values that may stand, a place in the roster and a free slot (R34). -/
theorem addEntry_of_room {k i : Nat} {c : Section} {x y : Str} {role status : Nat} {r : Role} {st : EntryStatus}
    {o : Option Nat} (hc : s.sec k = some c) (hr : roleOf role = some r) (hst : entryStatusOf status = some st)
    (hn : nameFits x y = true) (ho : s.portraitUsable o = true) (hl : c.roster.length < 256)
    (hi : isLowestFree 3072 s.entries i) :
    addEntry k x y role status o s =
      applyChange s
        (((s.setEntry i (some
            { section_ := k, surname := x.take 24, given := y.take 24, role := r, status := st, portrait := o })).joinRoster k i
          { section_ := k, surname := x.take 24, given := y.take 24, role := r, status := st, portrait := o }).useUp o)
        (Answer.done (decide (24 < x.length ∨ 24 < y.length)) (byte2 i)) := by
  have hl : c.roster.length < Config.entriesPerRoster := hl
  have hi : tabFree Config.entrySlots s.entries = some i := tabFree_of_isLowestFree hi
  unfold addEntry
  rw [hc, hr, hst]
  dsimp only
  rw [if_neg (not_not.2 hn), if_neg (not_not.2 ho), if_neg (not_not.2 hl), hi, nameCut_eq]
  rfl

theorem dropEntry_of_entry {i : Nat} {e : Entry} (hi : s.entry i = some e) :
    dropEntry i s = applyChange s ((s.leaveRoster e.section_ i).freeEntry i) Answer.ok := by
  unfold dropEntry
  rw [hi]

/-- MOVE ENTRY within the entry's own book (R41). -/
theorem moveEntry_of_book {i k : Nat} {e : Entry} {own target : Section} (hi : s.entry i = some e)
    (ht : s.sec k = some target) (ho : s.sec e.section_ = some own) (hb : target.book = own.book) :
    moveEntry i k s =
      if k = e.section_ then (s, Answer.ok)
      else if ¬target.roster.length < 256 then (s, Answer.refuse .listFull)
      else
        applyChange s
          (((s.leaveRoster e.section_ i).setEntry i (some { e with section_ := k })).joinRoster k i { e with section_ := k })
          Answer.ok := by
  unfold moveEntry
  rw [hi, ht]
  dsimp only
  rw [ho]
  exact if_neg (not_not.2 hb)

/-! ### What the edits ask for (R36 to R40, R42) -/

section
variable {i : Nat} {e : Entry} (hi : s.entry i = some e)
include hi

theorem editName_of_fits {x y : Str} (hn : nameFits x y = true) :
    editName i x y s =
      if e.surname = x.take 24 ∧ e.given = y.take 24 then (s, Answer.done (decide (24 < x.length ∨ 24 < y.length)) [])
      else
        applyChange s (s.rewriteEntry i { e with surname := x.take 24, given := y.take 24 })
          (Answer.done (decide (24 < x.length ∨ 24 < y.length)) []) := by
  rw [← nameCut_eq]
  unfold editName
  rw [hi]
  exact if_neg (not_not.2 hn)

theorem editRole_of_role {role : Nat} {r : Role} (hr : roleOf role = some r) :
    editRole i role s =
      if e.role = r then (s, Answer.ok) else applyChange s (s.rewriteEntry i { e with role := r }) Answer.ok := by
  simp only [editRole, hi, hr]

theorem editStatus_of_status {status : Nat} {st : EntryStatus} (hst : entryStatusOf status = some st) :
    editStatus i status s =
      if e.status = st then (s, Answer.ok) else applyChange s (s.setEntry i (some { e with status := st })) Answer.ok := by
  simp only [editStatus, hi, hst]

theorem editPortrait_of_usable {o : Option Nat} (ho : s.portraitUsable o = true) :
    editPortrait i o s =
      if e.portrait = o then (s, Answer.ok)
      else applyChange s (((s.useDown e.portrait).useUp o).setEntry i (some { e with portrait := o })) Answer.ok := by
  unfold editPortrait
  rw [hi]
  exact if_neg (not_not.2 ho)

theorem swapPortraits_of_entries {j : Nat} {f : Entry} (hj : s.entry j = some f) :
    swapPortraits i j s =
      if i = j then (s, Answer.refuse .badForm)
      else if e.portrait = f.portrait then (s, Answer.ok)
      else
        applyChange s
          ((s.setEntry i (some { e with portrait := f.portrait })).setEntry j (some { f with portrait := e.portrait }))
          Answer.ok := by
  unfold swapPortraits
  rw [hi, hj]

end

end

/-! ### The obligations -/

/-- A row that answers `ok` with no change where the values stand already, and else makes a guarded change (R36). -/
theorem unchanged_or_guarded {c : Instr} {s g after : State} {p : Port} {r : Request} {tag : Nat} {ok : Answer}
    {row : Option Request → Option Effect} {op : Effect} {same : Prop} [Decidable same] (h : s.served p r tag = some g)
    (hc : exec c s = .next (s.serve p row)) (hr : row (some r) = some op)
    (ho : op g = if same then (g, ok) else applyChange g after ok) :
    (same → exec c s = .next (g.finish p tag ok)) ∧ (¬same → guarded c s g after p tag ok) :=
  ⟨fun hs => answers_of_served h hc hr (by rw [ho, if_pos hs]), fun hs => guarded_of_row h hc hr (by rw [ho, if_neg hs])⟩

/-- Settles O20: each row's effect is the guarded change its rule asks for. -/
theorem rosterChangesPassTheGuard : Obligations.RosterChangesPassTheGuard := by
  unfold Obligations.RosterChangesPassTheGuard
  intro s g p tag i k
  refine ⟨fun x y role status o c r st hv hc hr hst hne hx hy ho hl hi => guarded_of_row hv rfl rfl ?_,
    fun e hv hi => guarded_of_row hv rfl rfl (dropEntry_of_entry hi), fun e own target hv hi ht ho hb => ?_⟩
  · exact addEntry_of_room hc hr hst ((nameFits_iff ..).2 ⟨hne, hx, hy⟩) ((g.portraitUsable_iff o).2 ho) hl hi
  · have hmove := moveEntry_of_book hi ht ho hb
    refine ⟨fun hk => answers_of_served hv rfl rfl ?_, fun hk hl => answers_of_served hv rfl rfl ?_,
      fun hk hl => guarded_of_row hv rfl rfl ?_⟩
    · rw [hmove, if_pos hk]
    · rw [hmove, if_neg hk, if_pos (not_lt.2 hl)]
    · rw [hmove, if_neg hk, if_neg (not_not.2 hl)]

/-- Settles O21: each edit leaves equal values alone, and else is the guarded change its rule asks for. -/
theorem entryEditsPassTheGuard : Obligations.EntryEditsPassTheGuard := by
  unfold Obligations.EntryEditsPassTheGuard
  intro s g p tag i j e hi
  refine ⟨fun x y hv hne hx hy => ?_, fun role r hv hr => unchanged_or_guarded hv rfl rfl (editRole_of_role hi hr),
    fun status st hv hst => unchanged_or_guarded hv rfl rfl (editStatus_of_status hi hst),
    fun o hv ho => unchanged_or_guarded hv rfl rfl (editPortrait_of_usable hi ((g.portraitUsable_iff o).2 ho)),
    fun f hv hj => ?_⟩
  · obtain ⟨hsame, hchange⟩ :=
      unchanged_or_guarded (c := .editEntryName p) hv rfl rfl (editName_of_fits hi ((nameFits_iff ..).2 ⟨hne, hx, hy⟩))
    exact ⟨fun hsurname hgiven => hsame ⟨hsurname, hgiven⟩, hchange⟩
  · have hswap := swapPortraits_of_entries hi hj
    have hother (hij : i ≠ j) := unchanged_or_guarded (c := .swapPortraits p) hv rfl rfl (hswap.trans (if_neg hij))
    exact ⟨fun hij => answers_of_served hv rfl rfl (hswap.trans (if_pos hij)), fun hij => (hother hij).1,
      fun hij => (hother hij).2⟩

end Sys2Proof.Machine
end

section
/-! RESERVE PORTRAIT, RELEASE PORTRAIT and SET FACE BOX: what each answers, and the theorem that settles O23. -/

namespace Sys2Proof.Machine

open Sys2Proof

theorem State.portraitHeld_iff (s : State) (i : Nat) :
    s.portraitHeld i = true ↔ i < 3072 ∧ (s.portrait i).state ≠ .free := by
  simp only [State.portraitHeld, Bool.and_eq_true, decide_eq_true_eq]
  rfl

theorem State.not_portraitHeld {s : State} {i : Nat} (h : 3072 ≤ i ∨ (s.portrait i).state = .free) :
    ¬s.portraitHeld i = true := by
  rw [State.portraitHeld_iff]
  rintro ⟨hlt, hne⟩
  rcases h with h | h
  · exact absurd hlt (not_lt.2 h)
  · exact hne h

section
variable {s : State} {i : Nat}

/-! ### RESERVE PORTRAIT (R63) -/

theorem reservePortrait_of_badIndex (h : 3072 ≤ i) : reservePortrait i s = (s, Answer.refuse .badIndex) :=
  if_pos (not_lt.2 h)

theorem reservePortrait_of_lt (h : i < 3072) :
    reservePortrait i s =
      if (s.portrait i).state ≠ .free then (s, Answer.refuse .inUse)
      else
        (s.setPortrait i { s.portrait i with state := .empty, current := none, pendingImage := none },
          Answer.done false (byte1 (s.portrait i).generation)) :=
  if_neg (not_not.2 h)

/-! ### RELEASE PORTRAIT (R64) -/

theorem releasePortrait_of_badIndex (h : 3072 ≤ i ∨ (s.portrait i).state = .free) :
    releasePortrait i s = (s, Answer.refuse .badIndex) :=
  if_pos (State.not_portraitHeld h)

theorem releasePortrait_of_inUse (h : s.portraitHeld i = true) (hu : 0 < (s.portrait i).useCount ∨ s.isLoadTarget i = true) :
    releasePortrait i s = (s, Answer.refuse .inUse) := by
  unfold releasePortrait
  rw [if_neg (not_not.2 h)]
  split
  · rfl
  · rename_i hzero
    exact if_pos (hu.resolve_left hzero)

theorem releasePortrait_of_unused (h : s.portraitHeld i = true) (hu : (s.portrait i).useCount = 0)
    (hl : s.isLoadTarget i = false) :
    releasePortrait i s =
      ((({ s with pool := s.pool.giveBack (.current i) } : State).setPortrait i
          { s.portrait i with state := .free, current := none, pendingImage := none }),
        Answer.done false (byte2 (s.pool.blocksOf (.current i)).length)) := by
  unfold releasePortrait
  rw [if_neg (not_not.2 h), if_neg (by simp [hu]), if_neg (by simp [hl])]
  rfl

/-! ### SET FACE BOX (R65) -/

theorem setFaceBox_of_badIndex (h : 3072 ≤ i ∨ (s.portrait i).state = .free) (face : FaceBox) :
    setFaceBox i face s = (s, Answer.refuse .badIndex) :=
  if_pos (State.not_portraitHeld h)

theorem setFaceBox_of_noImage (h : s.portraitHeld i = true) (hc : (s.portrait i).current = none) (face : FaceBox) :
    setFaceBox i face s = (s, Answer.refuse .notEligible) := by
  unfold setFaceBox
  rw [if_neg (not_not.2 h), hc]

/-- SET FACE BOX of a portrait with an image: the box, the lock, the box that stands, and then the guard (R65). -/
theorem setFaceBox_of_image (h : s.portraitHeld i = true) {m : Image} (hc : (s.portrait i).current = some m) (face : FaceBox) :
    setFaceBox i face s =
      if ¬faceFits m.width m.height face then (s, Answer.refuse .badFace)
      else if 0 < (s.portrait i).lockCount then (s, Answer.refuse .frozen)
      else if m.face = face then (s, Answer.ok)
      else match guard s (s.imageSet i) with
        | some (r, j) => (s, Answer.refuseAt r j)
        | none =>
          ((s.setPortrait i { s.portrait i with current := some { m with face := face } }).staleAll (s.imageSet i),
            Answer.ok) := by
  unfold setFaceBox
  rw [if_neg (not_not.2 h), hc]
  rfl

end

/-- Settles O23, by the answer of each row's effect. -/
theorem portraitRequestsFollowTheirRules : Obligations.PortraitRequestsFollowTheirRules := by
  unfold Obligations.PortraitRequestsFollowTheirRules
  intro s g p tag i
  refine ⟨fun hv => ⟨fun hi => answers_of_served hv rfl rfl ?_, fun hi hs => answers_of_served hv rfl rfl ?_,
      fun hi hs => answers_of_served hv rfl rfl ?_⟩,
    fun hv => ⟨fun hi => answers_of_served hv rfl rfl ?_, fun hi hs hu => answers_of_served hv rfl rfl ?_,
      fun hi hs hu hl => answers_of_served hv rfl rfl ?_⟩,
    fun face hv => ⟨fun hi => answers_of_served hv rfl rfl ?_, fun hi hs => ?_⟩⟩
  · exact reservePortrait_of_badIndex hi
  · rw [reservePortrait_of_lt hi, if_pos hs]
  · rw [reservePortrait_of_lt hi, if_neg (not_not.2 hs)]
  · exact releasePortrait_of_badIndex hi
  · exact releasePortrait_of_inUse ((g.portraitHeld_iff i).2 ⟨hi, hs⟩) hu
  · exact releasePortrait_of_unused ((g.portraitHeld_iff i).2 ⟨hi, hs⟩) hu hl
  · exact setFaceBox_of_badIndex hi face
  · have hheld := (g.portraitHeld_iff i).2 ⟨hi, hs⟩
    refine ⟨fun hc => answers_of_served hv rfl rfl (setFaceBox_of_noImage hheld hc face), fun m hc => ?_⟩
    have himage := setFaceBox_of_image hheld hc face
    refine ⟨fun hf => answers_of_served hv rfl rfl ?_, fun hf hl => answers_of_served hv rfl rfl ?_,
      fun hf hl hm => answers_of_served hv rfl rfl ?_, fun r j hf hl hm hg => answers_of_served hv rfl rfl ?_,
      fun hf hl hm hg => answers_of_served hv rfl rfl ?_⟩
    · rw [himage, if_pos (by simp [hf])]
    · rw [himage, if_neg (not_not.2 hf), if_pos hl]
    · rw [himage, if_neg (not_not.2 hf), if_neg (by simp [hl]), if_pos hm]
    · rw [himage, if_neg (not_not.2 hf), if_neg (by simp [hl]), if_neg hm, hg]
    · rw [himage, if_neg (not_not.2 hf), if_neg (by simp [hl]), if_neg hm, guard_none hg]

end Sys2Proof.Machine
end

section
/-! What a command keeps of the desk ports and of the pool's memory. Every shared operation keeps a port sound and a granted
request GRANTED, writes no byte of the pool, and leaves the blocks of the inbound load inside the pool. -/

namespace Sys2Proof.Machine

open Sys2Proof

/-! ### One desk port -/

/-- A desk port moves as a port may while a request is executed: it stays sound, and a granted request stays GRANTED. -/
structure DeskPort.Follows (d e : DeskPort) : Prop where
  sound : d.sound → e.sound
  granted : ∀ h, d.slot = .granted h → e.slot = .granted h

theorem DeskPort.Follows.refl (d : DeskPort) : d.Follows d := ⟨id, fun _ => id⟩

theorem DeskPort.Follows.trans {d e f : DeskPort} (h : d.Follows e) (h' : e.Follows f) : d.Follows f :=
  ⟨h'.sound ∘ h.sound, fun r hr => h'.granted r (h.granted r hr)⟩

/-- The same, from the last move to the first. -/
theorem DeskPort.Follows.after {d e f : DeskPort} (h' : e.Follows f) (h : d.Follows e) : d.Follows f := h.trans h'

/-- A port whose attention line is brought up to date, with its slot and its replies as they were. -/
theorem DeskPort.follows_updateAttention {d e : DeskPort} (hs : e.slot = d.slot) (hr : e.replies = d.replies) :
    d.Follows e.updateAttention where
  sound hd := ⟨rfl, by simpa [DeskPort.updateAttention, hs, hr] using hd.2⟩
  granted r h := hs.trans h

theorem DeskPort.follows_latch (d : DeskPort) (k : Notice) (x : Subject) : d.Follows (d.latch k x) :=
  DeskPort.follows_updateAttention rfl rfl

/-- What keeps a port's line, slot, replies, notices and mask. -/
theorem DeskPort.follows_of_eq {d e : DeskPort} (ha : e.attention = d.attention) (hs : e.slot = d.slot)
    (hr : e.replies = d.replies) (hn : e.notices = d.notices) (hm : e.mask = d.mask) : d.Follows e where
  sound hd := by simpa [DeskPort.sound, ha, hs, hr, hn, hm] using hd
  granted r h := hs.trans h

/-- Latching again what R182 asks for. -/
theorem DeskPort.follows_relatch (d : DeskPort) (a b : Bool) : d.Follows (d.relatch a b) := by
  unfold DeskPort.relatch
  cases a <;> cases b
  · exact .refl d
  · exact d.follows_latch _ _
  · exact d.follows_latch _ _
  · exact (d.follows_latch _ _).trans (DeskPort.follows_latch _ _ _)

/-! ### The state -/

/-- The blocks of the inbound load are blocks of the pool (R68). -/
def State.loadInPool (s : State) : Prop := ∀ r, s.image.load = some r → ∀ b ∈ r.blocks, b < Config.poolBlocks

/-- What the shared operations keep of the desk ports, of the pool's bytes and of the inbound load. -/
structure State.Keeps (s t : State) : Prop where
  ports : ∀ p, (s.port p).Follows (t.port p)
  cells : t.pool.cells = s.pool.cells
  load : s.loadInPool → t.loadInPool

namespace State.Keeps

theorem refl (s : State) : s.Keeps s := ⟨fun _ => .refl _, rfl, id⟩

theorem trans {s t u : State} (h : s.Keeps t) (h' : t.Keeps u) : s.Keeps u :=
  ⟨fun p => (h.ports p).trans (h'.ports p), h'.cells.trans h.cells, h'.load ∘ h.load⟩

/-- The same, from the last operation to the first. -/
theorem after {s t u : State} (h' : t.Keeps u) (h : s.Keeps t) : s.Keeps u := h.trans h'

/-- An operation that leaves the ports, the pool's bytes and the load record. -/
theorem of_eq {s t : State} (hp : t.ports = s.ports) (hc : t.pool.cells = s.pool.cells) (hl : t.image.load = s.image.load) :
    s.Keeps t :=
  ⟨fun p => by rw [State.port, State.port, hp]; exact .refl _, hc, fun h r hr => h r (hl ▸ hr)⟩

/-- An operation that moves the ports alone, each as a port may. -/
theorem of_ports {s t : State} (hp : ∀ p, (s.port p).Follows (t.port p)) (hc : t.pool = s.pool) (hl : t.image = s.image) :
    s.Keeps t :=
  ⟨hp, by rw [hc], fun h r hr => h r (hl ▸ hr)⟩

/-- The port drops its load record. -/
theorem of_noLoad {s t : State} (hp : t.ports = s.ports) (hc : t.pool.cells = s.pool.cells) (hl : t.image.load = none) :
    s.Keeps t :=
  ⟨fun p => by rw [State.port, State.port, hp]; exact .refl _, hc, fun _ r hr => by simp [hl] at hr⟩

theorem hold (s : State) (r : Requester) (run : Nat) : s.Keeps (s.hold r run) := of_eq rfl rfl rfl

theorem freeEngine (s : State) : s.Keeps s.freeEngine := of_eq rfl rfl rfl

/-- A fold of operations that keep is one. -/
theorem foldl {α : Type} {f : State → α → State} (hf : ∀ (s : State) (a : α), s.Keeps (f s a)) (l : List α)
    (s : State) : s.Keeps (l.foldl f s) :=
  List.foldlRecOn (motive := fun t => s.Keeps t) _ _ (.refl s) fun t ht a _ => ht.trans (hf t a)

theorem setPort (s : State) {p : Port} {d : DeskPort} (h : (s.port p).Follows d) : s.Keeps (s.setPort p d) := by
  refine .of_ports (fun q => ?_) rfl rfl
  by_cases hq : q = p
  · subst hq; rwa [State.port_setPort_self]
  · rw [State.port_setPort_other _ _ hq]; exact .refl _

theorem mapPorts (s : State) {f : DeskPort → DeskPort} (h : ∀ d : DeskPort, d.Follows (f d)) : s.Keeps (s.mapPorts f) :=
  .of_ports (fun p => by rw [State.port_mapPorts]; exact h _) rfl rfl

theorem latchAt (s : State) (p : Port) (k : Notice) (x : Subject) : s.Keeps (s.latchAt p k x) :=
  setPort s (DeskPort.follows_latch _ k x)

theorem latchAll (s : State) (k : Notice) (x : Subject) : s.Keeps (s.latchAll k x) :=
  mapPorts s fun d => d.follows_latch k x

theorem raise (s : State) (u i : Nat) : s.Keeps (s.raise u i) := by
  unfold State.raise
  split
  · exact (latchAll _ _ _).after (of_eq rfl rfl rfl)
  · exact of_eq rfl rfl rfl

theorem raiseTimes (s : State) (u i n : Nat) : s.Keeps (s.raiseTimes u i n) := by
  induction n generalizing s with
  | zero => exact .refl s
  | succ n ih => exact (raise s u i).trans (ih _)

theorem countReply (s : State) (p : Port) (st : Status) : s.Keeps (s.countReply p st) := by
  unfold State.countReply
  split <;> exact raise s _ _

theorem clearNotices (s : State) (p : Port) : s.Keeps (s.clearNotices p) :=
  setPort s ((DeskPort.follows_relatch _ _ _).after (DeskPort.follows_updateAttention rfl rfl))

theorem foldPortraits (f : Portrait → Portrait) (l : List Nat) (s : State) :
    s.Keeps (l.foldl (fun t p => t.mapPortrait p f) s) :=
  foldl (f := fun t p => t.mapPortrait p f) (fun _ _ => of_eq rfl rfl rfl) l s

/-- Staling moves sheets, epochs and the queue alone (R18). -/
theorem staleAll (s : State) (set : List Nat) : s.Keeps (s.staleAll set) := by
  obtain ⟨-, hpool, himage, -, -, hports, -⟩ := s.staleAll_keeps set
  exact of_eq hports (by rw [hpool]) (by rw [himage])

/-- Promotions latch, and pass blocks on with their bytes (R77). -/
theorem examine (s : State) (l : List Nat) : s.Keeps (s.examine l) := by
  have hone (t : State) (i : Nat) : t.Keeps (t.promoteOne i) := (latchAll _ _ _).after (of_eq rfl rfl rfl)
  exact (foldl hone _ s).trans (staleAll _ _)

/-! ### The image port -/

theorem dropLoad (s : State) : s.Keeps s.dropLoad := of_noLoad rfl rfl rfl

theorem imageRefuse (s : State) (r : Reason) : s.Keeps (s.imageRefuse r) := (raise _ _ _).after (of_eq rfl rfl rfl)

theorem imageRefuseLatch (s : State) (r : Reason) (i : Option Nat) : s.Keeps (s.imageRefuseLatch r i) :=
  (imageRefuse s r).trans (latchAll _ _ _)

theorem refuseLoad (s : State) (r : Reason) : s.Keeps (s.refuseLoad r) := (dropLoad s).trans (imageRefuseLatch _ _ _)

theorem takeHeader (s : State) (words : List Word32) : s.Keeps (s.takeHeader words) := by
  unfold State.takeHeader
  split
  · split
    · exact imageRefuseLatch s _ _
    · exact of_eq rfl rfl rfl
  · exact of_eq rfl rfl rfl

/-- An accepted header reserves blocks of the pool (R69). -/
theorem headerGrant (s : State) : s.Keeps s.headerGrant := by
  unfold State.headerGrant
  split
  · exact .refl s
  split
  · exact (imageRefuseLatch _ _ _).after (of_noLoad rfl rfl rfl)
  · refine ⟨fun _ => .refl _, rfl, fun _ r hr => ?_⟩
    cases hr
    exact s.pool.lowestFree_lt _

theorem takeEndMark (s : State) (check : Word32) : s.Keeps (s.takeEndMark check) := by
  unfold State.takeEndMark
  split
  · exact imageRefuse s _
  · exact imageRefuse s _
  · exact of_eq rfl rfl rfl
  · split
    · exact .refl s
    split
    · exact refuseLoad s _
    · exact of_eq rfl rfl rfl

theorem endMarkGrant (s : State) : s.Keeps s.endMarkGrant := by
  unfold State.endMarkGrant
  split
  · exact .refl s
  rename_i r _
  split
  · exact refuseLoad s _
  split
  · split
    · exact refuseLoad s _
    · have hidle : s.Keeps (s.committed r) := of_noLoad rfl rfl rfl
      rw [State.commitLoad_eq]
      exact ((hidle.trans (staleAll _ _)).trans (latchAll _ _ _)).trans ((raise _ _ _).trans (of_eq rfl rfl rfl))
  · have hidle : s.Keeps (s.pended r) := of_noLoad rfl rfl rfl
    exact hidle.trans ((raise _ _ _).trans (of_eq rfl rfl rfl))

theorem abortReply (s : State) : s.Keeps s.abortReply := (raise s _ _).trans (of_eq rfl rfl rfl)

theorem takeAbort (s : State) : s.Keeps s.takeAbort := by
  unfold State.takeAbort
  split
  · exact of_eq rfl rfl rfl
  · exact (abortReply _).after (of_noLoad rfl rfl rfl)
  · exact (dropLoad s).trans (abortReply _)
  · exact (dropLoad s).trans (abortReply _)

theorem loadTimeout (s : State) : s.Keeps s.loadTimeout :=
  ((dropLoad s).trans (raise _ _ _)).trans (latchAll _ _ _)

end State.Keeps

end Sys2Proof.Machine
end

section
/-! What the press events, the renderer and the print rows leave: the books, the image port, the settings, the arbiter, the
placement unit, the other press's lock, and where no image is pending the epochs and the placement queue (R144). -/

namespace Sys2Proof.Machine

open Sys2Proof

/-- The fields that the press events leave. -/
def State.offPress (s : State) :=
  (s.books, s.sections, s.entries, s.image, s.settings, s.arbiter, s.placing, s.tagCounter)

/-- The lock, the state and the outbound lane of a press link. -/
def Link.signals (l : Link) : Registration × Bool × Option LaneFrame := (l.reg, l.online, l.lane)

/-- A move of the job table, of the renderer or of the link of press `q`. -/
structure State.PressMove (q : Press) (s t : State) : Prop where
  keeps : s.Keeps t
  rest : t.offPress = s.offPress
  others : ∀ r, r ≠ q → (t.link r).signals = (s.link r).signals
  settled : s.nonePending → t.nonePending ∧ t.epochs = s.epochs ∧ t.queue = s.queue

/-- The fields that a move leaves when it neither latches nor promotes. -/
def State.still (s : State) := (s.ports, s.pool, s.portraits, s.epochs, s.queue, s.offPress)

namespace State.PressMove

variable {q : Press}

theorem refl (s : State) : s.PressMove q s := ⟨.refl s, rfl, fun _ _ => rfl, fun h => ⟨h, rfl, rfl⟩⟩

theorem trans {s t u : State} (h : s.PressMove q t) (h' : t.PressMove q u) : s.PressMove q u where
  keeps := h.keeps.trans h'.keeps
  rest := h'.rest.trans h.rest
  others r hr := (h'.others r hr).trans (h.others r hr)
  settled hs := by
    obtain ⟨ht, he, hq⟩ := h.settled hs
    obtain ⟨hu, he', hq'⟩ := h'.settled ht
    exact ⟨hu, he'.trans he, hq'.trans hq⟩

/-- The same, from the last move to the first. -/
theorem after {s t u : State} (h' : t.PressMove q u) (h : s.PressMove q t) : s.PressMove q u := h.trans h'

/-- Moves that latch and count. -/
theorem of_keeps {s t : State} (hk : s.Keeps t) (hr : t.offPress = s.offPress) (hl : t.links = s.links)
    (hd : t.portraits = s.portraits) (he : t.epochs = s.epochs) (hq : t.queue = s.queue) : s.PressMove q t where
  keeps := hk
  rest := hr
  others r _ := by simp only [State.link, hl]
  settled hs := ⟨fun i => by simpa only [State.portrait, hd] using hs i, he, hq⟩

/-- Moves of the sheets, the jobs, the renderer, the links and the counters alone. -/
theorem of_still {s t : State} (h : t.still = s.still) (hl : ∀ r, r ≠ q → (t.link r).signals = (s.link r).signals) :
    s.PressMove q t := by
  simp only [State.still, Prod.mk.injEq] at h
  obtain ⟨hp, hpool, hd, he, hq, hr⟩ := h
  have himage : t.image = s.image := by
    simp only [State.offPress, Prod.mk.injEq] at hr
    exact hr.2.2.2.1
  exact ⟨.of_eq hp (by rw [hpool]) (by rw [himage]), hr, hl, fun hs => ⟨fun i => by
    simpa only [State.portrait, hd] using hs i, he, hq⟩⟩

/-- The same where the links stay. -/
theorem of_still_links {s t : State} (h : t.still = s.still) (hl : t.links = s.links) : s.PressMove q t :=
  of_still h fun r _ => by simp only [State.link, hl]

theorem foldl {α : Type} {f : State → α → State} (hf : ∀ (s : State) (a : α), s.PressMove q (f s a)) (l : List α)
    (s : State) : s.PressMove q (l.foldl f s) :=
  List.foldlRecOn (motive := fun t => s.PressMove q t) _ _ (.refl s) fun t ht a _ => ht.trans (hf t a)

/-! ### Latches, counters and links -/

theorem latchAt (s : State) (p : Port) (k : Notice) (x : Subject) : s.PressMove q (s.latchAt p k x) :=
  of_keeps (.latchAt s p k x) rfl rfl rfl rfl rfl

theorem latchAll (s : State) (k : Notice) (x : Subject) : s.PressMove q (s.latchAll k x) :=
  of_keeps (.latchAll s k x) rfl rfl rfl rfl rfl

theorem raise (s : State) (u i : Nat) : s.PressMove q (s.raise u i) :=
  of_keeps (.raise s u i) (by simp [State.offPress]) (by simp) (by simp) (by simp) (by simp)

theorem raiseTimes (s : State) (u i n : Nat) : s.PressMove q (s.raiseTimes u i n) := by
  induction n generalizing s with
  | zero => exact .refl s
  | succ n ih => exact (raise s u i).trans (ih _)

/-- The own press's link moves. -/
theorem setLink (s : State) (l : Link) : s.PressMove q (s.setLink q l) :=
  of_still rfl fun _ hr => by rw [State.link_setLink_other _ _ hr]

/-- A link of either press moves, its signals kept. -/
theorem setLink_signals (s : State) {r : Press} {l : Link} (h : l.signals = (s.link r).signals) :
    s.PressMove q (s.setLink r l) := by
  refine of_still rfl fun r' _ => ?_
  by_cases hr : r' = r
  · rw [hr, State.link_setLink_self, h]
  · rw [State.link_setLink_other _ _ hr]

/-! ### The job table -/

theorem putJob (s : State) (j : Job) : s.PressMove q (s.putJob j) := of_still_links rfl rfl

theorem setSheet (s : State) (i : Nat) (o : Option Sheet) : s.PressMove q (s.setSheet i o) := of_still_links rfl rfl

theorem suspend (s : State) (j : Job) : s.PressMove q (s.suspend j) := of_still_links rfl rfl

theorem examineProof (s : State) : s.PressMove q s.examineProof := by
  obtain h | ⟨j, -, -, -, h⟩ := s.examineProof_cases
  · rw [h]; exact .refl s
  · rw [h]; exact suspend s j

theorem recheckWait (s : State) : s.PressMove q s.recheckWait := examineProof s

theorem startStall (s : State) : s.PressMove q s.startStall := by
  obtain ⟨t, h⟩ := s.startStall_frame
  rw [h]
  exact of_still_links rfl rfl

theorem stallExpiry (s : State) : s.PressMove q s.stallExpiry := by
  unfold State.stallExpiry
  split
  · exact of_still_links rfl rfl
  split
  · exact of_still_links rfl rfl
  split
  · exact suspend s _
  · exact of_still_links rfl rfl

theorem storeStall (s : State) (n : Nat) : s.PressMove q (s.storeStall n) := of_still_links rfl rfl

/-- Counts of portraits move, their pending images kept. -/
theorem foldPortraits {f : Portrait → Portrait} (hf : ∀ r, (f r).pendingImage = r.pendingImage) (l : List Nat) (s : State) :
    s.PressMove q (l.foldl (fun t p => t.mapPortrait p f) s) := by
  refine foldl (f := fun t p => t.mapPortrait p f) (fun t p => ?_) l s
  refine ⟨.of_eq rfl rfl rfl, rfl, fun _ _ => rfl, fun h => ⟨fun i => ?_, rfl, rfl⟩⟩
  rw [State.portrait_mapPortrait]
  split
  · exact (hf _).trans (h p)
  · exact h i

theorem releaseSheet (s : State) (j : Job) : s.PressMove q (s.releaseSheet j) := by
  unfold State.releaseSheet
  split
  · exact setSheet s _ _
  · exact .refl s

/-- Examining moves neither epochs nor queue where no image is pending (R77). -/
theorem examine (s : State) (l : List Nat) : s.PressMove q (s.examine l) := by
  have hframe := s.examine_frame l
  have hrest := congrArg State.offPress hframe
  have hlinks := congrArg State.links hframe
  refine ⟨.examine s l, hrest, fun r _ => ?_, fun h => ?_⟩
  · exact congrArg (fun v => (PerPress.get v r).signals) hlinks
  · rw [State.examine_of_nonePending h]
    exact ⟨h, rfl, rfl⟩

theorem endJob (s : State) (j : Job) (notice : Notice) : s.PressMove q (s.endJob j notice) := by
  have hremove : s.PressMove q (s.removeJob j) := of_still_links rfl rfl
  have hunpin : (s.removeJob j).PressMove q ((s.removeJob j).unpin (s.jobPins j)) := foldPortraits (by intro _; rfl) _ _
  have hlatch := ((hremove.trans hunpin).trans (releaseSheet _ j)).trans (latchAt _ j.port notice (.job j.tag))
  exact (examine _ _).after (hlatch.trans (setLink_signals _ rfl))

theorem takeConfirmation (s : State) (tag : Nat) : s.PressMove q (s.takeConfirmation tag) := by
  unfold State.takeConfirmation
  split
  · exact .refl s
  dsimp only
  split
  · exact (endJob _ _ _).after (putJob s _)
  · exact putJob s _

theorem rewindJob (s : State) (j : Job) (copy : Nat) : s.PressMove q (s.rewindJob j copy) := by
  unfold State.rewindJob
  split
  · split
    · exact putJob s _
    · exact (examineProof _).after (putJob s _)
  · exact of_still_links rfl rfl
  · exact putJob s _

theorem abortJob (s : State) (j : Job) : s.PressMove q (s.abortJob j) := by
  unfold State.abortJob
  split
  · exact putJob s _
  · exact (endJob _ _ _).after (putJob s _)

/-! ### Spoils (R135, R150) -/

theorem takeSpoil (s : State) (tag copy : Nat) (counted : Bool) : s.PressMove q (s.takeSpoil q tag copy counted) := by
  unfold State.takeSpoil
  split
  · exact .refl s
  rename_i j _
  have hspoil : s.PressMove q ((s.putJob (j.spoiled counted)).latchAll .copySpoiled (.job tag)) :=
    (putJob s _).trans (latchAll _ _ _)
  dsimp only
  split <;> split
  · exact (hspoil.trans (setLink _ _)).trans (abortJob _ _)
  · exact hspoil.trans (abortJob _ _)
  · exact (hspoil.trans (setLink _ _)).trans (rewindJob _ _ _)
  · exact hspoil.trans (rewindJob _ _ _)

theorem linkSpoil (s : State) (tag copy : Nat) : s.PressMove q (s.linkSpoil q tag copy) :=
  ((setLink s _).trans (raise _ _ _)).trans (takeSpoil _ tag copy true)

theorem spoilTransmission (s : State) : s.PressMove q (s.spoilTransmission q) := by
  unfold State.spoilTransmission
  split
  · exact .refl s
  · exact linkSpoil s _ _

/-! ### The renderer -/

theorem grantJob (s : State) (j : Job) : s.PressMove q (s.grantJob j) := by
  have hsheet : s.PressMove q (s.activateSheet j) := by
    unfold State.activateSheet
    split
    · exact .refl s
    split
    · exact .refl s
    · have hpin (l : List Nat) : s.PressMove q (s.pin l) := foldPortraits (by intro _; rfl) _ _
      exact (hpin _).trans (setSheet _ _ _)
  exact hsheet.trans (of_still_links rfl rfl)

theorem frameJoins (s : State) (j : Job) (b : BandInProduction) : s.PressMove q (s.frameJoins j b) := by
  unfold State.frameJoins
  split
  · exact setLink_signals s rfl
  · exact .refl s

theorem advance (s : State) (j : Job) (b : BandInProduction) : s.PressMove q (s.advance j b) := by
  unfold State.advance
  split
  · exact (startStall _).after (putJob s _)
  split
  · exact (startStall _).after ((examineProof _).after (putJob s _))
  · exact putJob s _

theorem takeRewind (s : State) (j : Job) (b : BandInProduction) (copy : Nat) : s.PressMove q (s.takeRewind j b copy) := by
  have hframe : s.PressMove q (if copy ≤ b.copy then s else s.frameJoins j b) := by
    split
    · exact .refl s
    · exact frameJoins s j b
  exact ((hframe.trans (putJob _ _)).trans (examineProof _)).trans (startStall _)

/-! ### The registration lock -/

theorem setReg (s : State) (r : Registration) : s.PressMove q (s.setReg q r) := setLink s _

theorem checkTimeout (s : State) : s.PressMove q (s.checkTimeout q) := by
  unfold State.checkTimeout
  dsimp only
  split
  · exact (setReg s _).trans (latchAll _ _ _)
  · exact .refl s

theorem judgeCapture (s : State) (found stray : Bool) (x : Int) : s.PressMove q (s.judgeCapture q found stray x) := by
  unfold State.judgeCapture
  dsimp only
  split
  · split
    · exact (setReg s _).trans (checkTimeout _)
    · exact (setReg s _).trans (latchAll _ _ _)
  · exact (setReg s _).trans (checkTimeout _)

theorem loseLock (s : State) : s.PressMove q (s.loseLock q) :=
  (((setReg s _).trans (raise _ _ _)).trans (latchAll _ _ _)).trans (spoilTransmission _)

theorem judgeReport (s : State) (found stray : Bool) (x : Int) : s.PressMove q (s.judgeReport q found stray x) := by
  unfold State.judgeReport
  split
  · exact .refl s
  · exact judgeCapture s _ _ _
  · exact judgeCapture s _ _ _
  · unfold State.judgeHold
    dsimp only
    split
    · exact setReg s _
    split
    · exact (raise s _ _).trans (setReg _ _)
    split
    · exact (raise s _ _).trans (setReg _ _)
    · exact (raise s _ _).trans (loseLock _)

theorem storePress (s : State) (v : PressSettings) : s.PressMove q (s.storePress q v) := by
  unfold State.storePress
  dsimp only
  split
  · exact (setReg s _).trans (checkTimeout _)
  · exact (setReg s _).trans (checkTimeout _)
  · exact setReg s _

/-! ### What a press sends -/

theorem takeMarkReport (s : State) (found stray : Bool) (x : BitVec 12) : s.PressMove q (s.takeMarkReport q found stray x) := by
  unfold State.takeMarkReport
  split
  · exact (((judgeReport s _ _ _).trans (spoilTransmission _)).trans (setLink _ _)).trans (recheckWait _)
  · exact .refl s

theorem answerFirst (s : State) : s.PressMove q (s.answerFirst q) := by
  unfold State.answerFirst
  dsimp only
  split
  · exact (setLink s _).trans (raise _ _ _)
  · exact setLink s _

theorem answerLater (s : State) : s.PressMove q (s.answerLater q) := by
  unfold State.answerLater
  dsimp only
  split
  · exact setLink s _
  split
  · exact (setLink s _).trans (raise _ _ _)
  · exact (setLink s _).trans (linkSpoil _ _ _)

theorem takeFrameRequest (s : State) : s.PressMove q (s.takeFrameRequest q) := by
  unfold State.takeFrameRequest
  split
  · split
    · exact setLink s _
    · refine trans ?_ (recheckWait _)
      unfold State.answerRequest
      dsimp only
      split
      · exact (setLink s _).trans (answerFirst _)
      · exact (setLink s _).trans (answerLater _)
  · exact .refl s

theorem judgeStatus (s : State) (a : Attempt) (e : Bool) : s.PressMove q (s.judgeStatus q a e) := by
  unfold State.judgeStatus
  split
  · dsimp only
    split
    · exact raise s _ _
    · exact (raise s _ _).trans (linkSpoil _ _ _)
  split
  · exact (raise s _ _).trans (takeConfirmation _ _)
  · exact .refl s

theorem takeStatusReport (s : State) (e : Bool) : s.PressMove q (s.takeStatusReport q e) := by
  unfold State.takeStatusReport
  split
  · split
    · exact .refl s
    · exact (((setLink s _).trans (judgeStatus _ _ e)).trans (setLink _ _)).trans (recheckWait _)
  · exact .refl s

theorem goOffline (s : State) : s.PressMove q (s.goOffline q) :=
  (((foldl (fun t tag => takeSpoil t tag (lowestCopy (s.link q).unconfirmed tag) false) _ s).trans (raiseTimes _ _ _ _)).trans
    (setLink _ _)).trans (recheckWait _)

theorem takeReturnWord (s : State) (w : Word32) : s.PressMove q (s.takeReturnWord q w) := by
  unfold State.takeReturnWord
  split
  · exact .refl s
  · exact takeFrameRequest s
  · exact takeMarkReport s _ _ _
  · exact takeStatusReport s _

end State.PressMove

end Sys2Proof.Machine
end

section
/-! The serving of a request keeps the desk ports sound (R167, R170, R171, R183), and what the book and roster rows keep. -/

namespace Sys2Proof.Machine

open Sys2Proof

/-! ### What a command keeps -/

/-- What a whole command keeps: the ports stay sound, the pool's bytes and the bounds of the load's blocks stay. -/
structure State.KeepsSound (s t : State) : Prop where
  ports : s.portsSound → t.portsSound
  cells : t.pool.cells = s.pool.cells
  load : s.loadInPool → t.loadInPool

theorem State.Keeps.keepsSound {s t : State} (h : s.Keeps t) : s.KeepsSound t :=
  ⟨fun hs p => (h.ports p).sound (hs p), h.cells, h.load⟩

namespace State.KeepsSound

theorem refl (s : State) : s.KeepsSound s := (Keeps.refl s).keepsSound

theorem trans {s t u : State} (h : s.KeepsSound t) (h' : t.KeepsSound u) : s.KeepsSound u :=
  ⟨h'.ports ∘ h.ports, h'.cells.trans h.cells, h'.load ∘ h.load⟩

/-- A port is replaced by one that is sound if it was. -/
theorem setPort (s : State) {p : Port} {d : DeskPort} (h : (s.port p).sound → d.sound) : s.KeepsSound (s.setPort p d) := by
  refine ⟨fun hs q => ?_, rfl, id⟩
  by_cases hq : q = p
  · subst hq; rw [State.port_setPort_self]; exact h (hs q)
  · rw [State.port_setPort_other _ _ hq]; exact hs q

end State.KeepsSound

theorem State.setPort_setPort (s : State) (p : Port) (d e : DeskPort) : (s.setPort p d).setPort p e = s.setPort p e := by
  cases p <;> rfl

/-- A reply is formed at a port with a place for it (R170, R171). -/
theorem State.keepsSound_formReply (s : State) {p : Port} (tag : Nat) (a : Answer)
    (h : (s.port p).replies.length + (if (s.port p).slot = .empty then 0 else 1) < Config.replyPlaces) :
    s.KeepsSound (s.formReply p tag a) := by
  have hqueue : s.KeepsSound (s.enqueueReply p (a.reply tag)) :=
    .setPort s fun hd => ⟨hd.1, by simp only [List.length_append, List.length_singleton]; omega⟩
  exact hqueue.trans (Keeps.countReply _ _ _).keepsSound

/-- A slot is emptied of its request and its reply is queued in the place kept for it (R170, R171). -/
theorem DeskPort.sound_emptied {d : DeskPort} (hs : d.slot ≠ .empty) (hd : d.sound) (r : Reply) :
    DeskPort.sound { d with slot := .empty, replies := d.replies ++ [r] } := by
  obtain ⟨hline, hplace⟩ := hd
  rw [if_neg hs] at hplace
  exact ⟨hline, by simpa using hplace⟩

/-! ### The serving of a request -/

theorem State.keeps_grantDesk {s g : State} {p : Port} {h : HeldRequest} (hg : s.grantDesk p = some (g, h)) : s.Keeps g := by
  obtain ⟨rfl, -⟩ | ⟨run, rfl, hs, -⟩ := State.grantDesk_cases hg
  · exact .refl g
  · have hport : (s.port p).Follows { s.port p with slot := .granted h } :=
      ⟨fun hd => ⟨hd.1, by simpa [hs] using hd.2⟩, fun r hr => by rw [hs] at hr; cases hr⟩
    exact (Keeps.setPort s hport).trans (.hold _ _ _)

/-- The request that a port holds is finished, and its reply takes the place kept for it (R170, R171). -/
theorem State.keepsSound_finish {s : State} {p : Port} {h : HeldRequest} (hs : (s.port p).slot = .granted h) (tag : Nat)
    (a : Answer) : s.KeepsSound (s.finish p tag a) := by
  have hne : (s.port p).slot ≠ .empty := by simp [hs]
  unfold State.finish
  split
  · have hport : s.KeepsSound (s.setPort p { s.port p with slot := .empty, silent := false }) :=
      .setPort s fun hd => ⟨hd.1, by have := hd.2; simp only [if_true]; omega⟩
    exact hport.trans ((Keeps.countReply _ _ _).trans (.freeEngine _)).keepsSound
  · have hport : s.KeepsSound ((s.setPort p { s.port p with slot := .empty }).enqueueReply p (a.reply tag)) := by
      unfold State.enqueueReply
      rw [State.setPort_setPort, State.port_setPort_self]
      exact .setPort s fun hd => DeskPort.sound_emptied hne hd _
    exact hport.trans ((Keeps.countReply _ _ _).trans (.freeEngine _)).keepsSound

/-- Wherever an outcome goes on, what a command keeps has been kept. -/
def State.Upholds (s : State) (o : Host.Outcome State Fault Refusal) : Prop := ∀ t, o = .next t → s.KeepsSound t

namespace State.Upholds

theorem next {s t : State} (h : s.KeepsSound t) : s.Upholds (.next t) := by
  intro u hu
  cases hu
  exact h

theorem keeps {s t : State} (h : s.Keeps t) : s.Upholds (.next t) := .next h.keepsSound

/-- A request row, by its effect: the granted request is still there when the effect ends. -/
theorem serve {s : State} {p : Port} {row : Option Request → Option Effect}
    (h : ∀ g r op, row r = some op → State.Keeps g (op g).1) : s.Upholds (.next (s.serve p row)) := by
  refine .next ?_
  unfold State.serve
  split
  · exact .refl s
  rename_i g r hg
  split
  · exact .refl s
  · rename_i op hop
    have hop := h g _ op hop
    have hgranted := (hop.ports p).granted r (State.grantDesk_granted hg).1
    exact ((State.keeps_grantDesk hg).trans hop).keepsSound.trans (State.keepsSound_finish hgranted _ _)

end State.Upholds

/-! ### The book and roster rows -/

/-- The desk ports, the pool's bytes and the load record. -/
def State.unmoved (s : State) : PerPort DeskPort × List Host.Cell × Option LoadRecord := (s.ports, s.pool.cells, s.image.load)

theorem State.Keeps.of_unmoved {s t : State} (h : t.unmoved = s.unmoved) : s.Keeps t := by
  simp only [State.unmoved, Prod.mk.injEq] at h
  obtain ⟨hp, hc, hl⟩ := h
  exact .of_eq hp hc hl

section
variable (s : State)

@[simp] theorem State.setBook_unmoved (i : Nat) (o : Option Book) : (s.setBook i o).unmoved = s.unmoved := rfl
@[simp] theorem State.setSec_unmoved (k : Nat) (o : Option Section) : (s.setSec k o).unmoved = s.unmoved := rfl
@[simp] theorem State.setSheet_unmoved (i : Nat) (o : Option Sheet) : (s.setSheet i o).unmoved = s.unmoved := rfl
@[simp] theorem State.setEntry_unmoved (i : Nat) (o : Option Entry) : (s.setEntry i o).unmoved = s.unmoved := rfl
@[simp] theorem State.bumpEpoch_unmoved (i : Nat) : (s.bumpEpoch i).unmoved = s.unmoved := rfl
@[simp] theorem State.removeSheet_unmoved (i : Nat) : (s.removeSheet i).unmoved = s.unmoved := rfl
@[simp] theorem State.useUp_unmoved (o : Option Nat) : (s.useUp o).unmoved = s.unmoved := by cases o <;> rfl
@[simp] theorem State.useDown_unmoved (o : Option Nat) : (s.useDown o).unmoved = s.unmoved := by cases o <;> rfl

@[simp] theorem State.leaveRoster_unmoved (k i : Nat) : (s.leaveRoster k i).unmoved = s.unmoved := by
  rw [State.leaveRoster_eq]; rfl

@[simp] theorem State.joinRoster_unmoved (k i : Nat) (e : Entry) : (s.joinRoster k i e).unmoved = s.unmoved := by
  rw [State.joinRoster_eq]; rfl

@[simp] theorem State.freeEntry_unmoved (i : Nat) : (s.freeEntry i).unmoved = s.unmoved := by
  unfold State.freeEntry
  split <;> simp

/-- A fold of operations that leave these fields leaves them. -/
theorem foldl_unmoved {α : Type} {f : State → α → State} (hf : ∀ s a, (f s a).unmoved = s.unmoved) (l : List α) :
    (l.foldl f s).unmoved = s.unmoved :=
  List.foldlRecOn (motive := fun t => t.unmoved = s.unmoved) _ _ rfl fun t ht a _ => (hf t a).trans ht

@[simp] theorem State.removeSection_unmoved (k : Nat) : (s.removeSection k).unmoved = s.unmoved := by
  unfold State.removeSection
  split
  · rfl
  · rw [State.setSec_unmoved, foldl_unmoved _ State.removeSheet_unmoved, foldl_unmoved _ State.freeEntry_unmoved]

/-- A guarded change leaves what the change itself leaves, since staling leaves it. -/
theorem applyChange_unmoved {t : State} (h : t.unmoved = s.unmoved) (ok : Answer) :
    (applyChange s t ok).1.unmoved = s.unmoved := by
  unfold applyChange
  split
  · rfl
  · obtain ⟨-, hpool, himage, -, -, hports, -⟩ := t.staleAll_keeps (changeSet s t)
    rw [← h, State.unmoved, State.unmoved, hpool, himage, hports]

end

/-- The book and roster rows: in every branch an effect refuses, or changes the tables, with the guard or without. -/
theorem execBookRow_upholds {s : State} {c : Instr} {p : Port}
    (hc : c ∈ [.openBook p, .setBook p, .closeBook p, .addSection p, .setSection p, .dropSection p, .addSheet p, .dropSheet p,
      .setLayout p, .addEntry p, .dropEntry p, .editEntryName p, .editEntryRole p, .editEntryStatus p, .editEntryPortrait p,
      .moveEntry p, .swapPortraits p]) : s.Upholds (exec c s) := by
  simp only [List.mem_cons, List.not_mem_nil, or_false] at hc
  rcases hc with rfl | rfl | rfl | rfl | rfl | rfl | rfl | rfl | rfl | rfl | rfl | rfl | rfl | rfl | rfl | rfl | rfl <;>
    refine State.Upholds.serve fun g r op hr => .of_unmoved ?_ <;> split at hr <;> cases hr
  all_goals
    simp only [openBook, setBook, closeBook, addSection, setSection, dropSection, addSheet, dropSheet, setLayout, addEntry,
      dropEntry, editName, editRole, editStatus, editPortrait, moveEntry, swapPortraits, State.rewriteEntry]
    repeat' split
    all_goals try rw [applyChange_unmoved]
    all_goals simp [foldl_unmoved _ State.removeSection_unmoved]

end Sys2Proof.Machine
end

section
/-! What the other commands keep of the desk ports, of the pool's bytes and of the load's blocks, row by row. -/

namespace Sys2Proof.Machine

open Sys2Proof

/-! ### The print rows (R118 to R124, R163, R164) -/

/-- A print row moves the job table or one press link, and may move the tag counter. -/
def State.prints (s t : State) : Prop := ∃ q n, ({ s with tagCounter := n } : State).PressMove q t

theorem State.PressMove.prints {q : Press} {s t : State} (h : s.PressMove q t) : s.prints t := ⟨q, s.tagCounter, h⟩

/-- A refusal moves nothing. -/
theorem State.prints_refl (s : State) : s.prints s := (PressMove.refl (q := .a) s).prints

/-- A submission moves the jobs, its sheet and the tag counter alone (R118). -/
theorem State.pressMove_submit (q : Press) (s : State) (p : Port) (i : Nat) (sh : Sheet) (r : Press) (k : JobKind)
    (copies : Nat) : ({ s with tagCounter := tagAfter s.nextTag } : State).PressMove q (s.submit p i sh r k copies) :=
  .of_still_links rfl rfl

theorem submitRun_prints (s : State) (p : Port) (i press copies : Nat) : s.prints (submitRun p i press copies s).1 := by
  unfold submitRun
  split
  · exact s.prints_refl
  split
  · exact s.prints_refl
  split
  · exact s.prints_refl
  split
  · exact s.prints_refl
  split
  · exact s.prints_refl
  split
  · exact s.prints_refl
  · exact ⟨.a, _, s.pressMove_submit ..⟩

theorem submitProof_prints (s : State) (p : Port) (i press : Nat) : s.prints (submitProof p i press s).1 := by
  unfold submitProof
  split
  · exact s.prints_refl
  split
  · exact s.prints_refl
  split
  · exact s.prints_refl
  split
  · exact s.prints_refl
  split
  · exact s.prints_refl
  · exact ⟨.a, _, (State.pressMove_submit ..).trans (.recheckWait _)⟩

theorem cancelJob_prints (s : State) (tag : Nat) : s.prints (cancelJob tag s).1 := by
  unfold cancelJob
  split
  · exact s.prints_refl
  split
  · exact s.prints_refl
  split
  · exact s.prints_refl
  split
  · exact (State.PressMove.putJob (q := .a) s _).prints
  · exact ((State.PressMove.endJob (q := .a) s _ _).trans (.recheckWait _)).prints

theorem forceResync_prints (s : State) (press : Nat) : s.prints (forceResync press s).1 := by
  unfold forceResync
  split
  · exact s.prints_refl
  split
  · exact s.prints_refl
  · exact ((State.PressMove.loseLock s).trans (.recheckWait _)).prints
  · exact (State.PressMove.setReg s _).prints

theorem setPress_prints (s : State) (press capture hold timeout policy stall : Nat) :
    s.prints (setPress press capture hold timeout policy stall s).1 := by
  unfold setPress
  split
  · exact ((State.PressMove.storePress s _).trans (.storeStall _ _)).prints
  · exact s.prints_refl

/-- The effects of the print rows. -/
theorem printRow_prints {c : Instr} {p : Port} {s : State}
    (hc : c ∈ [.submitRun p, .submitProof p, .cancelJob p, .forceResync p, .setPress p]) :
    ∃ row, exec c s = .next (s.serve p row) ∧ ∀ g r op, row r = some op → State.prints g (op g).1 := by
  simp only [List.mem_cons, List.not_mem_nil, or_false] at hc
  rcases hc with rfl | rfl | rfl | rfl | rfl <;> refine ⟨_, rfl, fun g r op hr => ?_⟩ <;> split at hr <;> cases hr
  · exact submitRun_prints ..
  · exact submitProof_prints ..
  · exact cancelJob_prints ..
  · exact forceResync_prints ..
  · exact setPress_prints ..

theorem execPrintRow_upholds {s : State} {c : Instr} {p : Port}
    (hc : c ∈ [.submitRun p, .submitProof p, .cancelJob p, .forceResync p, .setPress p]) : s.Upholds (exec c s) := by
  obtain ⟨row, he, hrow⟩ := printRow_prints (s := s) hc
  rw [he]
  refine .serve fun g r op hr => ?_
  obtain ⟨q, n, hm⟩ := hrow g r op hr
  exact hm.keeps.after (.of_eq rfl rfl rfl)

/-! ### The rows of approval and portraits, and the READ rows -/

theorem approveSheet_keeps (s : State) (i epoch : Nat) : s.Keeps (approveSheet i epoch s).1 := by
  unfold approveSheet
  split
  · exact .refl s
  split
  · exact .refl s
  split
  · exact .refl s
  split
  · exact .refl s
  · exact (State.Keeps.foldPortraits _ _ _).after (.of_eq rfl rfl rfl)

theorem unlockSheet_keeps (s : State) (i : Nat) : s.Keeps (unlockSheet i s).1 := by
  unfold unlockSheet
  split
  · exact .refl s
  split
  · exact .refl s
  · exact (State.Keeps.examine _ _).after ((State.Keeps.foldPortraits _ _ _).after (.of_eq rfl rfl rfl))

theorem reservePortrait_keeps (s : State) (i : Nat) : s.Keeps (reservePortrait i s).1 := by
  unfold reservePortrait
  repeat' split
  all_goals exact .of_eq rfl rfl rfl

theorem releasePortrait_keeps (s : State) (i : Nat) : s.Keeps (releasePortrait i s).1 := by
  unfold releasePortrait
  repeat' split
  all_goals exact .of_eq rfl rfl rfl

theorem setFaceBox_keeps (s : State) (i : Nat) (face : FaceBox) : s.Keeps (setFaceBox i face s).1 := by
  unfold setFaceBox
  split
  · exact .refl s
  split
  · exact .refl s
  split
  · exact .refl s
  split
  · exact .refl s
  split
  · exact .refl s
  split
  · exact .refl s
  · exact (State.Keeps.staleAll _ _).after (.of_eq rfl rfl rfl)

theorem execPortraitRow_upholds {s : State} {c : Instr} {p : Port}
    (hc : c ∈ [.approveSheet p, .unlockSheet p, .reservePortrait p, .releasePortrait p, .setFaceBox p]) :
    s.Upholds (exec c s) := by
  simp only [List.mem_cons, List.not_mem_nil, or_false] at hc
  rcases hc with rfl | rfl | rfl | rfl | rfl <;> refine State.Upholds.serve fun g r op hr => ?_ <;> split at hr <;> cases hr
  · exact approveSheet_keeps ..
  · exact unlockSheet_keeps ..
  · exact reservePortrait_keeps ..
  · exact releasePortrait_keeps ..
  · exact setFaceBox_keeps ..

/-- The READ rows but READ NOTICES, and the row of unknown requests: their effects move nothing. -/
theorem execReadRow_upholds {s : State} {c : Instr} {p : Port}
    (hc : c ∈ [.readBook p, .readSection p, .readSheet p, .readEntry p, .readRosterIndex p, .readPortrait p,
      .readImagePort p, .readPlacementUnit p, .readPlacementResult p, .readTile p, .readJob p, .readPressJobCollections p,
      .readRenderer p, .readPressLink p, .readDeskPort p, .readArbiter p, .readCounters p, .readSettingsPort p,
      .unknownRequestCode p]) : s.Upholds (exec c s) := by
  have hread {row : Option Request → Option Effect} (h : ∀ g r op, row r = some op → (op g).1 = g) :
      s.Upholds (.next (s.serve p row)) := .serve fun g r op hr => by rw [h g r op hr]; exact .refl g
  simp only [List.mem_cons, List.not_mem_nil, or_false] at hc
  rcases hc with rfl | rfl | rfl | rfl | rfl | rfl | rfl | rfl | rfl | rfl | rfl | rfl | rfl | rfl | rfl | rfl |
      rfl | rfl | rfl <;>
    refine hread fun g r op hr => ?_ <;> split at hr <;> cases hr <;> try rfl
  dsimp only
  split <;> rfl

/-! ### The rows of the arbiter, the notices, the counters and the settings -/

/-- A withdrawn request is answered in the place kept for its reply (R175). -/
theorem State.keeps_withdrawDisabled (s : State) (p : Port) : s.Keeps (s.withdrawDisabled p) := by
  unfold State.withdrawDisabled
  split
  · rename_i h hs
    split
    · have hport : (s.port p).Follows { s.port p with
          slot := .empty, replies := (s.port p).replies ++ [(Answer.refuse .disabled).reply h.tag] } :=
        ⟨fun hd => DeskPort.sound_emptied (by simp [hs]) hd _, fun r hr => by rw [hs] at hr; cases hr⟩
      have hqueue : s.Keeps ((s.setPort p { s.port p with slot := .empty }).enqueueReply p
          ((Answer.refuse .disabled).reply h.tag)) := by
        unfold State.enqueueReply
        rw [State.setPort_setPort, State.port_setPort_self]
        exact .setPort s hport
      exact hqueue.trans (.countReply _ _ _)
    · exact .refl s
  · exact .refl s

theorem State.keeps_storeWeights (s : State) (w : PerPort Nat) (wi : Nat) : s.Keeps (s.storeWeights w wi) :=
  (Keeps.foldl State.keeps_withdrawDisabled _ _).after (.of_eq rfl rfl rfl)

theorem setArbiter_keeps (s : State) (w0 w1 w2 w3 wi : Nat) : s.Keeps (setArbiter w0 w1 w2 w3 wi s).1 := by
  unfold setArbiter
  dsimp only
  split
  · exact .refl s
  · exact s.keeps_storeWeights _ _

theorem setNoticeMask_keeps (s : State) (p : Port) (m : Nat) : s.Keeps (setNoticeMask p m s).1 := by
  unfold setNoticeMask
  split
  · exact .setPort s (DeskPort.follows_updateAttention rfl rfl)
  · exact .refl s

theorem clearCounters_keeps (s : State) (u : Nat) (index : Option Nat) : s.Keeps (clearCounters u index s).1 := by
  unfold clearCounters
  split
  · exact State.Keeps.foldl (f := fun t i => t.clearCounter u i) (fun _ _ => .of_eq rfl rfl rfl) _ s
  · exact .refl s

theorem saveSettings_keeps (s : State) : s.Keeps (saveSettings s).1 := by
  unfold saveSettings
  split
  · exact .refl s
  · have hmasks : s.Keeps (s.mapPorts fun d => { d with defaultMask := d.mask }) :=
      .mapPorts s fun d => DeskPort.follows_of_eq rfl rfl rfl rfl rfl
    exact hmasks.trans (.of_eq rfl rfl rfl)

theorem execUnitRow_upholds {s : State} {c : Instr} {p : Port}
    (hc : c ∈ [.setArbiter p, .readNotices p, .setNoticeMask p, .clearCounters p, .saveSettings p]) :
    s.Upholds (exec c s) := by
  simp only [List.mem_cons, List.not_mem_nil, or_false] at hc
  rcases hc with rfl | rfl | rfl | rfl | rfl <;> refine State.Upholds.serve fun g r op hr => ?_ <;> split at hr <;> cases hr
  · exact setArbiter_keeps ..
  · exact .clearNotices g p
  · exact setNoticeMask_keeps ..
  · exact clearCounters_keeps ..
  · exact saveSettings_keeps g

/-! ### The desk lines and the settings image -/

/-- A port takes a frame with a place for its reply, or discards it (R169). -/
theorem State.keepsSound_takeFrame (s : State) (p : Port) (h : HeldRequest) : s.KeepsSound (s.takeFrame p h) := by
  have hdiscard : s.KeepsSound (s.discardFrame p) := (Keeps.raise s _ _).keepsSound
  unfold State.takeFrame
  split
  · rename_i hs
    split
    · rename_i hroom
      split
      · exact .setPort s fun hd => ⟨hd.1, by simpa using hroom⟩
      · exact s.keepsSound_formReply _ _ (by simpa [hs] using hroom)
    · exact hdiscard
  · split
    · rename_i hroom
      exact s.keepsSound_formReply _ _ (by split <;> omega)
    · exact hdiscard

theorem execRequestFrame_upholds (p : Port) (bytes : List Byte) (s : State) : s.Upholds (execRequestFrame p bytes s) := by
  have hidle : s.KeepsSound (s.setPort p { s.port p with receiver := .idle }) := .setPort s id
  unfold execRequestFrame
  split
  · exact .next (.refl s)
  split
  · exact .next (hidle.trans (State.Keeps.raise _ _ _).keepsSound)
  · exact .next (hidle.trans (State.keepsSound_takeFrame _ _ _))

/-- A break empties the slot or sets the silent mark, and drops the replies (R178). -/
theorem execLineBreak_upholds (p : Port) (s : State) : s.Upholds (execLineBreak p s) := by
  unfold execLineBreak
  split
  · exact .next (.refl s)
  · have hempty {d : DeskPort} (hr : d.replies = []) : d.updateAttention.sound :=
      ⟨rfl, by simp only [DeskPort.updateAttention, hr, Config.replyPlaces]; split <;> simp⟩
    refine .next ?_
    rw [State.clearNotices, State.setPort_setPort, State.port_setPort_self]
    exact .setPort s fun _ => (DeskPort.follows_relatch _ _ _).sound (hempty rfl)

theorem execDeskLine_upholds {s : State} {c : Instr} {p : Port}
    (hc : c ∈ [.requestFrameStart p, .replyFrameSent p, .breakEnd p]) : s.Upholds (exec c s) := by
  simp only [List.mem_cons, List.not_mem_nil, or_false] at hc
  rcases hc with rfl | rfl | rfl <;> simp only [exec]
  · unfold execRequestFrameStart
    split
    · exact .next (.setPort s id)
    · exact .next (.refl s)
  · exact .next (.setPort s fun hd => ⟨hd.1, by have := hd.2; simp only [List.length_tail]; omega⟩)
  · unfold execBreakEnd
    split
    · exact .next (.setPort s id)
    · exact .next (.refl s)

theorem State.keeps_applySettings (s : State) (v : Settings) : s.Keeps (s.applySettings v) := by
  have hmasks (t : State) : t.Keeps (t.loadMasks v.masks) :=
    Keeps.foldl (f := fun t p => t.setPort p ((t.port p).takeDefault (v.masks.get p)))
      (fun t p => .setPort t (DeskPort.follows_updateAttention rfl rfl)) _ t
  have hpress (t : State) (q : Press) (w : PressSettings) : t.Keeps (t.loadPress q w) := .of_eq rfl rfl rfl
  have hstall (t : State) (n : Nat) : t.Keeps (t.storeStall n) := .of_eq rfl rfl rfl
  have hstored := (s.keeps_storeWeights v.weights v.imageWeight).trans
    ((hpress _ .a v.presses.a).trans (hpress _ .b v.presses.b))
  exact ((hstored.trans (hstall _ v.stallWindow)).trans (hmasks _)).trans (.of_eq rfl rfl rfl)

theorem execSettingsLoadComplete_upholds (image : Option (List Byte)) (s : State) :
    s.Upholds (execSettingsLoadComplete image s) := by
  unfold execSettingsLoadComplete
  split
  · refine .keeps ?_
    unfold State.completeLoad
    split
    · exact s.keeps_applySettings _
    · exact (State.Keeps.latchAll s _ _).trans (State.keeps_applySettings _ _)
  · exact .next (.refl s)

theorem execSettingsSaveComplete_upholds (readBack : List Byte) (s : State) :
    s.Upholds (execSettingsSaveComplete readBack s) := by
  unfold execSettingsSaveComplete
  split <;> exact .keeps (.of_eq rfl rfl rfl)

/-! ### The image port and the placement unit -/

theorem State.keeps_grantImage {s g : State} (h : s.grantImage = some g) : s.Keeps g := by
  obtain ⟨run, rfl⟩ := State.grantImage_holds h
  exact .hold s _ _

theorem execImageGrant_upholds {s : State} {c : Instr} (hc : c = .imageHeaderGrant ∨ c = .imageEndMarkGrant) :
    s.Upholds (exec c s) := by
  rcases hc with rfl | rfl <;> simp only [exec]
  · unfold execImageHeaderGrant
    split
    · split
      · exact .keeps (((State.keeps_grantImage ‹_›).trans (.headerGrant _)).trans (.freeEngine _))
      · exact .next (.refl s)
    · exact .next (.refl s)
  · unfold execImageEndMarkGrant
    split
    · split
      · exact .keeps (((State.keeps_grantImage ‹_›).trans (.endMarkGrant _)).trans (.freeEngine _))
      · exact .next (.refl s)
    · exact .next (.refl s)

/-- A transfer that is not payload (R192). -/
theorem execImageHeader_upholds {words : List Word32} (hk : transferKind words ≠ 2) (s : State) :
    s.Upholds (execImageHeader words s) := by
  refine .keeps ?_
  unfold State.takeTransfer
  split
  · contradiction
  · split
    · exact .takeEndMark s _
    · exact .refl s
  · exact .takeAbort s
  · exact .takeHeader s words

theorem execLoadTimerExpiry_upholds (s : State) : s.Upholds (execLoadTimerExpiry s) := by
  unfold execLoadTimerExpiry
  split
  · exact .keeps (.loadTimeout s)
  · exact .next (.refl s)

theorem execPlacementTake_upholds (s : State) : s.Upholds (execPlacementTake s) := by
  unfold execPlacementTake
  repeat' split
  all_goals exact .keeps (.of_eq rfl rfl rfl)

theorem State.keeps_acceptCompletion (s : State) (u : InProgress) : s.Keeps (s.acceptCompletion u) := by
  have hdrop (t : State) (i : Nat) : t.Keeps (t.dropRunJob i) := by
    unfold State.dropRunJob
    split
    · exact .refl t
    split
    · exact .refl t
    · exact (Keeps.latchAt _ _ _ _).after (.of_eq rfl rfl rfl)
  have hsheet (i : Nat) (o : Option Sheet) : s.Keeps (s.setSheet i o) := .of_eq rfl rfl rfl
  unfold State.acceptCompletion
  split
  · exact .refl s
  split
  · split
    · exact (hsheet _ _).trans (.latchAll _ _ _)
    · exact ((hsheet _ _).trans (.latchAll _ _ _)).trans (hdrop _ _)
  · exact .refl s

theorem execPlacementCompletion_upholds (s : State) : s.Upholds (execPlacementCompletion s) := by
  unfold execPlacementCompletion
  split
  · exact .next (.refl s)
  · have hidle : s.Keeps { s with placing := none } := .of_eq rfl rfl rfl
    exact .keeps ((hidle.trans (State.keeps_acceptCompletion _ _)).trans (State.PressMove.recheckWait (q := .a) _).keeps)

end Sys2Proof.Machine
end

section
/-! What every step keeps of the ports and the pool, and the frames of the press events and of the print rows: the theorems that
settle O56 and O60. -/

namespace Sys2Proof.Machine

open Sys2Proof

/-! ### The presses and the renderer (R144) -/

/-- The events of the press `q`. -/
def Instr.ofPress (c : Instr) (q : Press) : Prop :=
  (∃ f x o, c = .markReport q f x o) ∨ c = .frameRequest q ∨ (∃ e, c = .statusReport q e) ∨ c = .onlineFall q ∨
    c = .onlineRise q ∨ (∃ w, c = .badReturnWord q w)

/-- The events of the renderer. -/
def Instr.ofRenderer (c : Instr) : Prop :=
  c = .rendererGrant ∨ c = .bandBegin ∨ c = .bandCompletion ∨ c = .stallTimerExpiry

theorem exec_ofPress {c : Instr} {q : Press} {s t : State} (hc : Instr.ofPress c q) (h : exec c s = .next t) :
    s.PressMove q t := by
  rcases hc with ⟨f, x, o, rfl⟩ | rfl | ⟨e, rfl⟩ | rfl | rfl | ⟨w, rfl⟩
  · cases h
    exact .takeMarkReport s f x o
  · cases h
    exact .takeFrameRequest s
  · cases h
    exact .takeStatusReport s e
  · simp only [exec, execOnlineFall] at h
    split at h <;> cases h
    · exact .goOffline s
    · exact .setLink s _
  · simp only [exec, execOnlineRise] at h
    split at h <;> cases h <;> exact .setLink s _
  · cases h
    exact .takeReturnWord s w

theorem exec_ofRenderer {c : Instr} (q : Press) {s t : State} (hc : Instr.ofRenderer c) (h : exec c s = .next t) :
    s.PressMove q t := by
  rcases hc with rfl | rfl | rfl | rfl
  · simp only [exec, execRendererGrant] at h
    split at h <;> cases h
    · exact ((State.PressMove.grantJob s _).trans (.examineProof _)).trans (.startStall _)
    · exact .refl s
  · simp only [exec, execBandBegin] at h
    split at h
    · split at h <;> cases h
      · exact .of_still_links rfl rfl
      · exact .refl s
    · cases h
      exact .refl s
  · have hclear : s.PressMove q s.clearBand := .of_still_links rfl rfl
    simp only [exec, execBandCompletion] at h
    split at h
    · split at h
      · cases h
        exact hclear.trans (.endJob _ _ _)
      split at h <;> cases h
      · exact hclear.trans (.takeRewind _ _ _ _)
      · exact (hclear.trans (.frameJoins _ _ _)).trans (.advance _ _ _)
    · cases h
      exact .refl s
  · simp only [exec, execStallTimerExpiry] at h
    split at h <;> cases h
    · exact .stallExpiry s
    · exact .refl s

/-! ### Every command -/

/-- Every command but a payload transfer and reset. -/
theorem exec_upholds {c : Instr} {s : State} (hr : c ≠ .reset) (hp : ∀ n words, c ≠ .imagePayload n words)
    (hh : ∀ words, c = .imageHeader words → transferKind words ≠ 2) : s.Upholds (exec c s) := by
  have hpress {q : Press} (hc : Instr.ofPress c q) : s.Upholds (exec c s) := fun t ht => (exec_ofPress hc ht).keeps.keepsSound
  have hrender (hc : Instr.ofRenderer c) : s.Upholds (exec c s) := fun t ht => (exec_ofRenderer .a hc ht).keeps.keepsSound
  cases c with
  | reset => exact absurd rfl hr
  | imagePayload n words => exact absurd rfl (hp n words)
  | imageHeader words => exact execImageHeader_upholds (hh words rfl) s
  | imageHeaderGrant | imageEndMarkGrant => exact execImageGrant_upholds (by simp)
  | imageEndMark check => exact .keeps (.takeEndMark s check)
  | imageAbort => exact .keeps (.takeAbort s)
  | loadTimerExpiry => exact execLoadTimerExpiry_upholds s
  | placementTake => exact execPlacementTake_upholds s
  | placementCompletion => exact execPlacementCompletion_upholds s
  | rendererGrant | bandBegin | bandCompletion | stallTimerExpiry => exact hrender (by simp [Instr.ofRenderer])
  | markReport q _ _ _ | frameRequest q | statusReport q _ | onlineFall q | onlineRise q | badReturnWord q _ =>
    exact hpress (q := q) (by simp [Instr.ofPress])
  | requestFrame p bytes => exact execRequestFrame_upholds p bytes s
  | lineBreak p => exact execLineBreak_upholds p s
  | requestFrameStart p | replyFrameSent p | breakEnd p => exact execDeskLine_upholds (p := p) (by simp)
  | settingsLoadComplete image => exact execSettingsLoadComplete_upholds image s
  | settingsSaveComplete readBack => exact execSettingsSaveComplete_upholds readBack s
  | openBook p | setBook p | closeBook p | addSection p | setSection p | dropSection p | addSheet p | dropSheet p
  | setLayout p | addEntry p | dropEntry p | editEntryName p | editEntryRole p | editEntryStatus p | editEntryPortrait p
  | moveEntry p | swapPortraits p => exact execBookRow_upholds (p := p) (by simp)
  | approveSheet p | unlockSheet p | reservePortrait p | releasePortrait p | setFaceBox p =>
    exact execPortraitRow_upholds (p := p) (by simp)
  | submitRun p | submitProof p | cancelJob p | forceResync p | setPress p => exact execPrintRow_upholds (p := p) (by simp)
  | setArbiter p | readNotices p | setNoticeMask p | clearCounters p | saveSettings p =>
    exact execUnitRow_upholds (p := p) (by simp)
  | readBook p | readSection p | readSheet p | readEntry p | readRosterIndex p | readPortrait p | readImagePort p
  | readPlacementUnit p | readPlacementResult p | readTile p | readJob p | readPressJobCollections p | readRenderer p
  | readPressLink p | readDeskPort p | readArbiter p | readCounters p | readSettingsPort p | unknownRequestCode p =>
    exact execReadRow_upholds (p := p) (by simp)

/-- An idle millisecond expires timers and grants a request. -/
theorem State.keeps_tick (s : State) : s.Keeps s.tick := by
  have hload : s.Keeps s.tickLoad := by
    unfold State.tickLoad
    split
    · exact .refl s
    split
    · exact .loadTimeout s
    · exact .of_eq rfl rfl rfl
  have hstall (t : State) : t.Keeps t.tickStall := by
    unfold State.tickStall
    split
    · exact .refl t
    split
    · exact (PressMove.stallExpiry (q := .a) t).keeps
    · exact .of_eq rfl rfl rfl
  have harbiter (t : State) : t.Keeps t.tickArbiter := by
    unfold State.tickArbiter
    split
    · split
      · split
        · exact State.keeps_grantDesk ‹_›
        · exact .refl t
      · exact .refl t
    · exact .refl t
  exact (hload.trans (hstall _)).trans (harbiter _)

/-! ### Payload and reset -/

/-- Payload goes into the blocks of the load, and the ports stay (R70). -/
theorem State.takePayloadTransfer_sound (s : State) (n : Nat) (words : List Word32) :
    (s.takePayloadTransfer n words).ports = s.ports ∧ (s.poolSound → (s.takePayloadTransfer n words).poolSound) := by
  unfold State.takePayloadTransfer
  split
  · rename_i r _ hr
    refine ⟨rfl, fun hs => ?_⟩
    obtain ⟨hcells, hload⟩ := hs
    refine ⟨Memory.wf_writeImage _ _ (hload r hr) _ _ _ hcells, fun r' hr' => ?_⟩
    cases hr'
    exact hload r hr
  · exact ⟨rfl, id⟩

theorem State.portsSound_resetWith (breaks : PerPort Bool) (lines : PerPress Bool) :
    (State.resetWith breaks lines).portsSound := by
  intro p
  cases p <;> exact ⟨rfl, Nat.zero_le 4⟩

theorem State.poolSound_resetWith (breaks : PerPort Bool) (lines : PerPress Bool) : (State.resetWith breaks lines).poolSound :=
  ⟨rfl, fun _ h => by cases h⟩

/-- Every command keeps the desk ports and the pool sound. -/
theorem exec_sound {c : Instr} {s t : State} (h : exec c s = .next t) :
    (s.portsSound → t.portsSound) ∧ (s.poolSound → t.poolSound) := by
  have hrest (hr : c ≠ .reset) (hp : ∀ n words, c ≠ .imagePayload n words)
      (hh : ∀ words, c = .imageHeader words → transferKind words ≠ 2) :
      (s.portsSound → t.portsSound) ∧ (s.poolSound → t.poolSound) := by
    obtain ⟨hports, hcells, hload⟩ := exec_upholds hr hp hh t h
    exact ⟨hports, fun hs => ⟨hcells ▸ hs.1, hload hs.2⟩⟩
  have hpayload {n : Nat} {words : List Word32} (ht : t = s.takePayloadTransfer n words) :
      (s.portsSound → t.portsSound) ∧ (s.poolSound → t.poolSound) := by
    obtain ⟨hports, hpool⟩ := s.takePayloadTransfer_sound n words
    subst ht
    exact ⟨fun hs p => by rw [State.port, hports]; exact hs p, hpool⟩
  by_cases hr : c = .reset
  · subst hr
    cases h
    obtain ⟨breaks, hb⟩ : ∃ breaks, s.ports.map (·.breakLevel) = breaks := ⟨_, rfl⟩
    obtain ⟨lines, hl⟩ : ∃ lines, (⟨(s.link .a).onlineLine, (s.link .b).onlineLine⟩ : PerPress Bool) = lines := ⟨_, rfl⟩
    rw [hb, hl]
    exact ⟨fun _ => State.portsSound_resetWith breaks lines, fun _ => State.poolSound_resetWith breaks lines⟩
  by_cases hp : ∃ n words, c = .imagePayload n words
  · obtain ⟨n, words, rfl⟩ := hp
    cases h
    exact hpayload rfl
  by_cases hh : ∃ words, c = .imageHeader words ∧ transferKind words = 2
  · obtain ⟨words, rfl, hk⟩ := hh
    cases h
    refine hpayload (n := transferCount words) (words := words.tail) ?_
    simp only [State.takeTransfer, hk]
  · exact hrest hr (fun n words hc => hp ⟨n, words, hc⟩) fun words hc hk => hh ⟨words, hc, hk⟩

/-- Settles O56, command by command: what a command writes of the ports and of the pool. -/
theorem everyStepKeepsPortsAndPoolSound : Obligations.EveryStepKeepsPortsAndPoolSound := by
  have hstep {s t : State} (h : step s = .next t) : (s.portsSound → t.portsSound) ∧ (s.poolSound → t.poolSound) := by
    unfold step at h
    split at h
    · cases h
      have hk := s.keeps_tick
      exact ⟨hk.keepsSound.ports, fun hs => ⟨hk.cells ▸ hs.1, hk.load hs.2⟩⟩
    · rename_i rest _
      exact exec_sound (s := { s with pending := rest }) h
  exact ⟨fun s t hs h => (hstep h).1 hs, fun s t hs h => (hstep h).2 hs⟩

/-! ### The frames of the press events and of the print rows -/

/-- The fields that the print rows leave. -/
def State.offPrint (s : State) :=
  (s.books, s.sections, s.entries, s.image, s.settings, s.placing, s.arbiter.weights, s.arbiter.imageWeight)

/-- What leaves all but the desk leaves these fields. -/
theorem State.offPrint_of_offDesk {s t : State} (h : t.offDesk = s.offDesk) : t.offPrint = s.offPrint :=
  congrArg (fun v : State × PerPort Nat × Nat =>
    (v.1.books, v.1.sections, v.1.entries, v.1.image, v.1.settings, v.1.placing, v.2.1, v.2.2)) h

theorem State.prints.offPrint {s t : State} (h : s.prints t) : t.offPrint = s.offPrint := by
  obtain ⟨q, n, hm⟩ := h
  have hrest := hm.rest
  simp only [State.offPress, Prod.mk.injEq] at hrest
  obtain ⟨hbooks, hsections, hentries, himage, hsettings, harbiter, hplacing, -⟩ := hrest
  simp only [State.offPrint, hbooks, hsections, hentries, himage, hsettings, harbiter, hplacing]

theorem exec_printRow_offPrint {c : Instr} {p : Port} {s t : State}
    (hc : c ∈ [.submitRun p, .submitProof p, .cancelJob p, .forceResync p, .setPress p]) (h : exec c s = .next t) :
    t.offPrint = s.offPrint := by
  obtain ⟨row, he, hrow⟩ := printRow_prints (s := s) hc
  rw [he] at h
  cases h
  unfold State.serve
  split
  · rfl
  rename_i g r hg
  split
  · rfl
  · rename_i op hop
    calc ((op g).1.finish p r.tag (op g).2).offPrint
        = (op g).1.offPrint := State.offPrint_of_offDesk (State.finish_offDesk ..)
      _ = g.offPrint := (hrow g _ op hop).offPrint
      _ = s.offPrint := State.offPrint_of_offDesk (State.grantDesk_offDesk hg)

/-- Settles O60, by what a press event and a print row move, and since no other command writes the pool's bytes. -/
theorem pressEventsLeaveTheBooksAndThePool : Obligations.PressEventsLeaveTheBooksAndThePool := by
  unfold Obligations.PressEventsLeaveTheBooksAndThePool
  refine ⟨fun c q s t h hc => ?_, fun c p s t hc h => ?_, fun c s t hr hp hh h a => ?_⟩
  · have hsplit : Instr.ofPress c q ∨ Instr.ofRenderer c := by
      simpa only [Instr.ofPress, Instr.ofRenderer, or_assoc] using hc
    have hmove : s.PressMove q t := hsplit.elim (exec_ofPress · h) (exec_ofRenderer q · h)
    have hother := hmove.others (otherPress q) (by cases q <;> simp [otherPress])
    have hrest := hmove.rest
    simp only [State.offPress, Link.signals, Prod.mk.injEq] at hrest hother
    obtain ⟨hbooks, hsections, hentries, himage, hsettings, harbiter, hplacing, htag⟩ := hrest
    exact ⟨hbooks, hsections, hentries, himage, hsettings, harbiter, hplacing, htag,
      fun hn => (hmove.settled hn).2, hother⟩
  · have hrest := exec_printRow_offPrint hc h
    simpa only [State.offPrint, Prod.mk.injEq] using hrest
  · rw [Pool.readByte, Pool.readByte, (exec_upholds hr hp hh t h).cells]

end Sys2Proof.Machine
end

section
/-! Payload bytes at their places in the reserved blocks: the theorem that settles O25. -/

namespace Sys2Proof.Machine

open Sys2Proof

/-- Distinct blocks give the bytes of an image that fits them distinct addresses. -/
theorem imageAddress_inj {blocks : List Nat} (hn : blocks.Nodup) {i j : Nat} (hi : i < 65536 * blocks.length)
    (hj : j < 65536 * blocks.length) (h : imageAddress blocks i = imageAddress blocks j) : i = j := by
  have hget {k : Nat} (hk : k < 65536 * blocks.length) :
      ∃ hk' : k / 65536 < blocks.length, imageAddress blocks k = blocks[k / 65536] * 65536 + k % 65536 := by
    have hk' : k / 65536 < blocks.length := by omega
    refine ⟨hk', ?_⟩
    simp only [imageAddress, Config.blockBytes, List.getD_eq_getElem?_getD, List.getElem?_eq_getElem hk', Option.getD_some]
  obtain ⟨hi', hai⟩ := hget hi
  obtain ⟨hj', haj⟩ := hget hj
  rw [hai, haj] at h
  have hblock : blocks[i / 65536] = blocks[j / 65536] := by omega
  have hindex : i / 65536 = j / 65536 := (hn.getElem_inj_iff).1 hblock
  omega

section
variable (blocks : List Nat) (limit : Nat)

/-- A byte at no place of the bytes written reads as before (R70). -/
theorem Pool.readByte_writeImage_other {a : Nat} : ∀ (bs : List Byte) (k : Nat) (pl : Pool),
    (∀ j, j < bs.length → k + j < limit → imageAddress blocks (k + j) ≠ a) →
      (pl.writeImage blocks limit k bs).readByte a = pl.readByte a := by
  intro bs
  induction bs with
  | nil => exact fun _ _ _ => rfl
  | cons b bs ih =>
    intro k pl h
    simp only [Pool.writeImage]
    split
    · rename_i hk
      have hrest : ∀ j, j < bs.length → k + 1 + j < limit → imageAddress blocks (k + 1 + j) ≠ a := fun j hj hl => by
        have := h (j + 1) (by simpa using hj) (by omega)
        rwa [show k + (j + 1) = k + 1 + j by omega] at this
      have hfirst : imageAddress blocks k ≠ a := h 0 (by simp) hk
      rw [ih (k + 1) _ hrest, Pool.readByte_writeByte, if_neg hfirst.symm]
    · rfl

/-- Each byte of the image is read where it was written (R70). -/
theorem Pool.readByte_writeImage
    (hinj : ∀ i j, i < limit → j < limit → imageAddress blocks i = imageAddress blocks j → i = j) :
    ∀ (bs : List Byte) (k : Nat) (pl : Pool) (j : Nat) (b : Byte), bs[j]? = some b → k + j < limit →
      (pl.writeImage blocks limit k bs).readByte (imageAddress blocks (k + j)) = b := by
  intro bs
  induction bs with
  | nil => exact fun _ _ _ _ h => by simp at h
  | cons c bs ih =>
    intro k pl j b hb hl
    have hk : k < limit := by omega
    simp only [Pool.writeImage, if_pos hk]
    cases j with
    | zero =>
      obtain rfl : c = b := by simpa using hb
      have hlater : ∀ j, j < bs.length → k + 1 + j < limit → imageAddress blocks (k + 1 + j) ≠ imageAddress blocks k :=
        fun j _ hj he => by have := hinj _ _ hj hk he; omega
      exact (Pool.readByte_writeImage_other blocks limit bs (k + 1) _ hlater).trans
        ((Pool.readByte_writeByte ..).trans (if_pos rfl))
    | succ j =>
      have hnext := ih (k + 1) (pl.writeByte (imageAddress blocks k) c) j b (by simpa using hb) (by omega)
      rwa [show k + 1 + j = k + (j + 1) by omega] at hnext

end

/-- Payload in RECEIVING is taken (R70). -/
theorem exec_imagePayload {s : State} {r : LoadRecord} (hs : s.image.state = .receiving) (hr : s.image.load = some r)
    (count : Nat) (words : List Word32) :
    exec (.imagePayload count words) s = .next (s.takePayload r (payloadBytes count words)) := by
  simp only [exec, execImagePayload, State.takePayloadTransfer, hs, hr]

/-- Settles O25: what the pool reads as after the payload's bytes are written one by one. -/
theorem payloadBytesFillTheReservedBlocks : Obligations.PayloadBytesFillTheReservedBlocks := by
  unfold Obligations.PayloadBytesFillTheReservedBlocks
  intro s count words r hs hr
  obtain ⟨howned, hfree⟩ := Pool.writeImage_owned r.blocks (r.header.width * r.header.height * 3)
    (payloadBytes count words) r.received s.pool
  refine ⟨_, exec_imagePayload hs hr count words, rfl, rfl, hfree, howned, fun hn hfit k b hb hk => ?_, fun a ha => ?_⟩
  · have hinj : ∀ i j, i < r.header.width * r.header.height * 3 → j < r.header.width * r.header.height * 3 →
        imageAddress r.blocks i = imageAddress r.blocks j → i = j :=
      fun i j hi hj => imageAddress_inj hn (hi.trans_le hfit) (hj.trans_le hfit)
    exact Pool.readByte_writeImage _ _ hinj _ _ _ k b hb hk
  · exact Pool.readByte_writeImage_other _ _ _ _ _ ha

end Sys2Proof.Machine
end

section
/-! The state after reset, and a millisecond with no command waiting: the theorems that settle O58 and O2. -/

namespace Sys2Proof.Machine

open Sys2Proof

/-! ### Reset -/

theorem Link.reset_sound (line : Bool) : (Link.reset line).sound := by
  cases line <;> simp [Link.sound, Link.reset, Registration.reset, Registration.inRange]

theorem State.linksSound_resetWith (breaks : PerPort Bool) (lines : PerPress Bool) :
    (State.resetWith breaks lines).linksSound := by
  intro q
  cases q <;> exact Link.reset_sound _

theorem State.jobsSound_resetWith (breaks : PerPort Bool) (lines : PerPress Bool) :
    (State.resetWith breaks lines).jobsSound := by
  simp [State.jobsSound, State.collection, State.resetWith]

/-- Settles O58, table by table. -/
theorem theResetStateIsSound : Obligations.TheResetStateIsSound := by
  have hall (breaks : PerPort Bool) (lines : PerPress Bool) : (State.resetWith breaks lines).linksSound ∧
      (State.resetWith breaks lines).portsSound ∧ (State.resetWith breaks lines).poolSound ∧
      (State.resetWith breaks lines).jobsSound :=
    ⟨State.linksSound_resetWith _ _, State.portsSound_resetWith _ _, State.poolSound_resetWith _ _,
      State.jobsSound_resetWith _ _⟩
  obtain ⟨hlinks, hports, hpool, hjobs⟩ := hall ⟨false, false, false, false⟩ ⟨false, false⟩
  exact ⟨hlinks, hports, hpool, hjobs, hall⟩

/-! ### An idle millisecond (R76, R129, R174) -/

theorem step_of_idle {s : State} (h : s.pending = []) : step s = .next s.tick := by
  simp only [step, h]

section
variable {s : State}

theorem State.tickLoad_stopped (h : s.image.timer = none) : s.tickLoad = s := by
  simp only [State.tickLoad, h]

theorem State.tickLoad_running {n : Nat} (h : s.image.timer = some (n + 2)) :
    s.tickLoad = { s with image := { s.image with timer := some (n + 1) } } := by
  simp [State.tickLoad, h]

theorem State.tickLoad_expires (h : s.image.timer = some 1) : s.tickLoad = s.loadTimeout := by
  simp [State.tickLoad, h]

theorem State.tickStall_stopped (h : s.renderer.stallTimer = none) : s.tickStall = s := by
  simp only [State.tickStall, h]

theorem State.tickStall_running {n : Nat} (h : s.renderer.stallTimer = some (n + 2)) :
    s.tickStall = { s with renderer := { s.renderer with stallTimer := some (n + 1) } } := by
  simp [State.tickStall, h]

theorem State.tickArbiter_undecided (h : s.decides = false) : s.tickArbiter = s := by
  simp [State.tickArbiter, h]

theorem State.tickArbiter_grants {p : Port} {run : Nat} {h : HeldRequest} (hd : s.decides = true)
    (hn : s.decision = some (.desk p, run)) (hs : (s.port p).slot = .waiting h) :
    s.tickArbiter = (s.setPort p { s.port p with slot := .granted h }).hold (.desk p) run := by
  simp [State.tickArbiter, State.grantDesk, hd, hn, hs]

/-- A load that times out leaves the renderer and the arbiter (R76). -/
theorem State.loadTimeout_leaves (s : State) :
    s.loadTimeout.renderer = s.renderer ∧ s.loadTimeout.arbiter = s.arbiter := by
  simp [State.loadTimeout, State.dropLoad, State.imageIdle]

end

/-- Settles O2, timer by timer. -/
theorem anEmptyQueueLetsTimePass : Obligations.AnEmptyQueueLetsTimePass := by
  unfold Obligations.AnEmptyQueueLetsTimePass
  intro s hp
  rw [step_of_idle hp, State.tick]
  refine ⟨fun hl hs hd => ?_, fun n hl hs hd => ?_, fun n hl hs hd => ?_, fun hl hs he => ?_,
    fun p run h hl hs hload he hn hw => ?_⟩
  · rw [State.tickLoad_stopped hl, State.tickStall_stopped hs, State.tickArbiter_undecided hd]
  · rw [State.tickLoad_running hl, State.tickStall_stopped, State.tickArbiter_undecided]
    · exact hd
    · exact hs
  · rw [State.tickLoad_stopped hl, State.tickStall_running hs, State.tickArbiter_undecided]
    exact hd
  · obtain ⟨hrenderer, harbiter⟩ := s.loadTimeout_leaves
    have hd : s.loadTimeout.decides = false := by
      simp only [State.decides, harbiter, Option.isNone_eq_false_iff.2 he, Bool.and_false]
    rw [State.tickLoad_expires hl, State.tickStall_stopped (by rw [hrenderer, hs]), State.tickArbiter_undecided hd]
  · have hd : s.decides = true := by simp [State.decides, hload, he]
    rw [State.tickLoad_stopped hl, State.tickStall_stopped hs, State.tickArbiter_grants hd hn hw]

end Sys2Proof.Machine
end

section
/-! Headers, the other transfers, the grant of a header, ABORT and the load timer: the theorems that settle O24 and O27. -/

namespace Sys2Proof.Machine

open Sys2Proof

/-! ### ABORT and the load timer (R75, R76) -/

/-- What an ABORT of a port that is not IDLE moves, the load record dropped or the header withdrawn in `t`. -/
theorem State.abortReply_moves {s t : State}
    (hi : t.image = { s.image with state := .idle, header := none, load := none, timer := none })
    (hc : t.counters = s.counters) (hp : t.portraits = s.portraits) (hs : t.sheets = s.sheets) :
    t.abortReply.image.state = .idle ∧ t.abortReply.image.header = none ∧ t.abortReply.image.load = none ∧
      t.abortReply.image.timer = none ∧
      t.abortReply.image.reply = some { status := .done, reason := none, outcome := .dropped, value := none
                                        freeCount := t.abortReply.pool.freeCount } ∧
      t.abortReply.pool = t.pool ∧ t.abortReply.counters = (s.raise 6 2).counters ∧
      t.abortReply.portraits = s.portraits ∧ t.abortReply.sheets = s.sheets := by
  have hcount := State.raise_counters_congr t s 6 2 hc
  simp [State.abortReply, State.imageReply, imageUnit, hi, hp, hs, hcount]

/-- An ABORT of a port that is not IDLE withdraws the header or drops the load. -/
theorem State.takeAbort_eq {s : State} (hs : s.image.state ≠ .idle) :
    s.takeAbort = (if s.image.state = .headerWait then s.imageIdle else s.dropLoad).abortReply := by
  unfold State.takeAbort
  cases h : s.image.state with
  | idle => contradiction
  | headerWait | receiving | endWait => simp

theorem exec_loadTimerExpiry_ignored {s : State} (hs : s.image.state ≠ .receiving) : exec .loadTimerExpiry s = .next s := by
  simp only [exec, execLoadTimerExpiry]

/-- Settles O27, by the state of the port. -/
theorem abortAndTimeoutDropTheLoad : Obligations.AbortAndTimeoutDropTheLoad := by
  unfold Obligations.AbortAndTimeoutDropTheLoad
  intro s
  refine ⟨fun hs => ?_, fun hs => ⟨s.takeAbort, rfl, ?_⟩,
    fun hs => ⟨s.loadTimeout, ?_, ?_, ?_, ?_, fun p => ?_, ?_, ?_⟩,
    exec_loadTimerExpiry_ignored⟩
  · simp only [exec, execImageAbort, State.takeAbort, hs]
  · obtain ⟨t, ht⟩ : ∃ t, (if s.image.state = .headerWait then s.imageIdle else s.dropLoad) = t := ⟨_, rfl⟩
    have hmoves := State.abortReply_moves (s := s) (t := t) (by subst ht; split <;> rfl) (by subst ht; split <;> rfl)
      (by subst ht; split <;> rfl) (by subst ht; split <;> rfl)
    have hpool : t.pool = if s.image.state = .headerWait then s.pool else s.pool.giveBack .inbound := by
      subst ht
      split <;> rfl
    rwa [State.takeAbort_eq hs, ht, ← hpool]
  · simp only [exec, execLoadTimerExpiry, hs]
  · simp [State.loadTimeout, State.dropLoad, State.imageIdle]
  · simp [State.loadTimeout, State.dropLoad, State.imageIdle]
  · exact State.raise_counters_congr _ s 6 2 rfl
  · exact State.notices_latchAll _ .loadRefused _ p
  · simp [State.loadTimeout, State.dropLoad, State.imageIdle]
  · simp [State.loadTimeout, State.dropLoad, State.imageIdle]

/-! ### A header as it arrives (R68, R69, R192) -/

theorem transferKind_eq (w : Word32) (ws : List Word32) : transferKind (w :: ws) = w.toNat / 268435456 := by
  have := w.isLt
  simp only [transferKind, BitVec.extractLsb'_toNat, Nat.shiftRight_eq_div_pow]
  omega

theorem transferCount_eq (w : Word32) (ws : List Word32) : transferCount (w :: ws) = w.toNat % 268435456 := by
  simp only [transferCount, BitVec.extractLsb'_toNat, Nat.shiftRight_eq_div_pow]
  omega

/-- A header's fields are its words' halves, and its form check is of the bits above the slot (R192). -/
theorem headerOf_eq (w0 w1 w2 w3 : Word32) : headerOf [w0, w1, w2, w3] =
    if w0.toNat / 4096 = 65536 then
      some
        { slot := w0.toNat % 4096, width := w1.toNat / 65536, height := w1.toNat % 65536
          face := { crown := w2.toNat / 65536, eye := w2.toNat % 65536, chin := w3.toNat / 65536
                    centre := w3.toNat % 65536 } }
    else none := by
  have hform : (w0.extractLsb' 28 4 = 1#4 ∧ w0.extractLsb' 12 16 = 0#16) ↔ w0.toNat / 4096 = 65536 := by
    have := w0.isLt
    simp only [← BitVec.toNat_inj, BitVec.extractLsb'_toNat, Nat.shiftRight_eq_div_pow, BitVec.toNat_ofNat]
    omega
  have hhigh (w : Word32) : (w.extractLsb' 16 16).toNat = w.toNat / 65536 := by
    have := w.isLt
    simp only [BitVec.extractLsb'_toNat, Nat.shiftRight_eq_div_pow]
    omega
  have hlow (w : Word32) : (w.extractLsb' 0 16).toNat = w.toNat % 65536 := by
    simp [BitVec.extractLsb'_toNat]
  have hslot : (w0.extractLsb' 0 12).toNat = w0.toNat % 4096 := by
    simp [BitVec.extractLsb'_toNat]
  simp only [headerOf, hform, hhigh, hlow, hslot]

theorem headerOf_length {words : List Word32} (h : words.length ≠ 4) : headerOf words = none := by
  unfold headerOf
  split
  · exact absurd rfl h
  · rfl

/-- A transfer that passes the form check of a header is of no other kind. -/
theorem transferKind_of_header {words : List Word32} {h : LoadHeader} (hh : headerOf words = some h) :
    transferKind words ∉ [2, 3, 4] := by
  have hlen : words.length = 4 := by
    by_contra hl
    rw [headerOf_length hl] at hh
    cases hh
  obtain ⟨w0, w1, w2, w3, rfl⟩ := List.length_eq_four.1 hlen
  rw [headerOf_eq] at hh
  have hform : w0.toNat / 4096 = 65536 := by
    by_contra hf
    rw [if_neg hf] at hh
    cases hh
  rw [transferKind_eq]
  simp only [List.mem_cons, List.not_mem_nil, or_false]
  omega

section
variable {s : State} {words : List Word32}

theorem exec_imageHeader_of_header (h : transferKind words ∉ [2, 3, 4]) :
    exec (.imageHeader words) s = .next (s.takeHeader words) := by
  simp only [List.mem_cons, List.not_mem_nil, or_false, not_or] at h
  obtain ⟨h2, h3, h4⟩ := h
  simp only [exec, execImageHeader, State.takeTransfer]

theorem State.takeHeader_busy (h : s.image.state ≠ .idle) : s.takeHeader words = s.imageBusy := by
  unfold State.takeHeader
  split
  · contradiction
  · rfl

/-- Payload outside RECEIVING is discarded (R70). -/
theorem exec_imagePayload_discarded (h : s.image.state ≠ .receiving) (count : Nat) :
    exec (.imagePayload count words) s = .next s := by
  simp only [exec, execImagePayload, State.takePayloadTransfer]
  split
  · contradiction
  · rfl

end

/-! ### A refusal that latches (R186) -/

theorem State.imageRefuseLatch_moves (u : State) (r : Reason) (slot : Option Nat) :
    (u.imageRefuseLatch r slot).image = { u.image with
      reply := some { status := .refused, reason := some r, outcome := .none, value := none
                      freeCount := u.pool.freeCount } } ∧
    (u.imageRefuseLatch r slot).counters = (u.raise 6 1).counters ∧
    (∀ p, (tabFind ((u.imageRefuseLatch r slot).port p).notices 10).map (·.subject) = some (.portrait slot)) ∧
    { u.imageRefuseLatch r slot with image := u.image, counters := u.counters, ports := u.ports } = u := by
  refine ⟨?_, ?_, fun p => State.notices_latchAll _ .loadRefused _ p, ?_⟩
  · simp [State.imageRefuseLatch, State.imageRefuse, State.imageReply]
  · exact State.raise_counters_congr _ u 6 1 rfl
  · simp [State.imageRefuseLatch, State.imageRefuse, State.imageReply]

/-! ### The grant of a header (R69) -/

/-- The size and the face box of a header are good (R59). -/
theorem LoadHeader.fits_iff (h : LoadHeader) : (sizeFits h.width h.height ∧ faceFits h.width h.height h.face) ↔
    (64 ≤ h.width ∧ h.width ≤ 2048 ∧ 64 ≤ h.height ∧ h.height ≤ 2560 ∧ h.face.crown < h.face.eye ∧
      h.face.eye < h.face.chin ∧ h.face.chin < h.height ∧ h.face.crown + 16 ≤ h.face.chin ∧
      h.face.centre < h.width) := by
  simp only [sizeFits, faceFits, decide_eq_true_eq]
  omega

theorem State.headerCheck_badIndex {s : State} {h : LoadHeader} (hi : 3072 ≤ h.slot ∨ (s.portrait h.slot).state = .free) :
    s.headerCheck h = some .badIndex := by
  simp [State.headerCheck, State.not_portraitHeld hi]

/-- The checks of a header for a portrait that is held, in the order of R69. -/
theorem State.headerCheck_held {s : State} {h : LoadHeader} (hi : h.slot < 3072) (hf : (s.portrait h.slot).state ≠ .free) :
    s.headerCheck h =
      if ¬(sizeFits h.width h.height ∧ faceFits h.width h.height h.face) then some .badFace
      else if 0 < (s.portrait h.slot).lockCount then some .frozen
      else if s.pool.freeCount < (h.width * h.height * 3 + 65535) / 65536 then some .poolFull
      else none := by
  rw [State.headerCheck, if_neg (not_not.2 ((s.portraitHeld_iff h.slot).2 ⟨hi, hf⟩))]
  rfl

section
variable {s g : State} {h : LoadHeader}

/-- A granted header is taken whole, and the engine becomes FREE. -/
theorem exec_imageHeaderGrant (hs : s.image.state = .headerWait) (hg : s.grantImage = some g) :
    exec .imageHeaderGrant s = .next g.headerGrant.freeEngine := by
  simp only [exec, execImageHeaderGrant, hs, hg]

theorem State.headerGrant_refused {r : Reason} (hh : s.image.header = some h) (hc : s.headerCheck h = some r) :
    s.headerGrant = s.imageIdle.imageRefuseLatch r (some h.slot) := by
  simp only [State.headerGrant, hh, hc]

theorem State.headerGrant_accepted (hh : s.image.header = some h) (hc : s.headerCheck h = none) :
    s.headerGrant = s.acceptHeader h := by
  simp only [State.headerGrant, hh, hc]

end

/-- Settles O24, by the transfer's kind and form as it arrives, and by the checks of its grant in their order. -/
theorem headersReserveOrRefuse : Obligations.HeadersReserveOrRefuse := by
  unfold Obligations.HeadersReserveOrRefuse
  refine ⟨fun s words => ⟨fun h hs hh => ?_, fun hs hh hk => ?_, fun hs hk => ?_, headerOf_length, fun hk => ?_,
      fun w check ws hw hk => ?_, fun hk => ?_, fun hs count => exec_imagePayload_discarded hs count⟩,
    fun w0 w1 w2 w3 => ⟨transferKind_eq .., transferCount_eq .., headerOf_eq ..⟩,
    State.imageRefuseLatch_moves, fun s g h good n hs hh hg hn hgood => ?_⟩
  · rw [exec_imageHeader_of_header (transferKind_of_header hh)]
    simp only [State.takeHeader, hs, hh]
  · rw [exec_imageHeader_of_header hk]
    simp only [State.takeHeader, hs, hh]
  · rw [exec_imageHeader_of_header hk, State.takeHeader_busy hs]
  · simp only [exec, execImageHeader, State.takeTransfer, hk, execImagePayload]
  · subst hw
    simp only [exec, execImageHeader, State.takeTransfer, hk, execImageEndMark, List.tail_cons]
  · simp only [exec, execImageHeader, State.takeTransfer, hk, execImageAbort]
  · obtain ⟨run, rfl⟩ := State.grantImage_holds hg
    have hrefused {r : Reason} (hr : s.headerCheck h = some r) : exec .imageHeaderGrant s =
        .next (((s.hold .image run).imageIdle.imageRefuseLatch r (some h.slot)).freeEngine) := by
      rw [exec_imageHeaderGrant hs hg, State.headerGrant_refused (s := s.hold .image run) hh hr]
    subst hn
    refine ⟨fun hi => hrefused (State.headerCheck_badIndex hi), fun hi hf => ?_⟩
    have hcheck := State.headerCheck_held hi hf
    have hfits : (sizeFits h.width h.height ∧ faceFits h.width h.height h.face) ↔ good := hgood ▸ h.fits_iff
    refine ⟨fun hb => hrefused ?_, fun hb hl => hrefused ?_, fun hb hl hp => hrefused ?_, fun hb hl hp => ?_⟩
    · rw [hcheck, if_pos (mt hfits.1 hb)]
    · rw [hcheck, if_neg (not_not.2 (hfits.2 hb)), if_pos hl]
    · rw [hcheck, if_neg (not_not.2 (hfits.2 hb)), if_neg (by omega), if_pos hp]
    · have hnone : s.headerCheck h = none := by
        rw [hcheck, if_neg (not_not.2 (hfits.2 hb)), if_neg (by omega), if_neg (by omega)]
      refine ⟨((s.hold .image run).acceptHeader h).freeEngine, ?_, rfl, rfl, rfl, rfl, rfl, rfl, rfl, rfl⟩
      rw [exec_imageHeaderGrant hs hg, State.headerGrant_accepted (s := s.hold .image run) hh hnone]

end Sys2Proof.Machine
end

section
/-! The shares of a section's sheets as successive runs of its tile sequence: the theorem that settles O29. -/

namespace Sys2Proof.Machine

open Sys2Proof

/-! ### Capacities (R82) -/

theorem State.capacityOf_le (s : State) (i : Nat) : s.capacityOf i ≤ 48 := by
  unfold State.capacityOf
  split
  · exact Nat.min_le_left _ _
  · exact Nat.zero_le _

/-! ### Where a share begins (R83) -/

@[simp] theorem State.startIn_cons_self (s : State) (i : Nat) (l : List Nat) : s.startIn i (i :: l) = 0 := if_pos rfl

theorem State.startIn_cons_of_ne (s : State) {i j : Nat} (l : List Nat) (h : j ≠ i) :
    s.startIn i (j :: l) = s.capacityOf j + s.startIn i l := if_neg h

/-- The runs that the sheets of a list take of a sequence, one after another, are its front up to their capacities' sum. -/
theorem State.runs_eq_take (s : State) {sheets : List Nat} (hn : sheets.Nodup) (tiles : List Nat) :
    sheets.flatMap (fun i => (tiles.drop (s.startIn i sheets)).take (s.capacityOf i)) =
      tiles.take (sheets.map s.capacityOf).sum := by
  induction sheets generalizing tiles with
  | nil => rfl
  | cons j l ih =>
    obtain ⟨hj, hl⟩ := List.nodup_cons.1 hn
    have hlater : l.flatMap (fun i => (tiles.drop (s.startIn i (j :: l))).take (s.capacityOf i)) =
        (tiles.drop (s.capacityOf j)).take (l.map s.capacityOf).sum := by
      rw [← ih hl]
      refine List.flatMap_congr fun i hi => ?_
      rw [s.startIn_cons_of_ne l (ne_of_mem_of_not_mem hi hj).symm, List.drop_drop]
    rw [List.flatMap_cons, hlater, s.startIn_cons_self, List.drop_zero, List.map_cons, List.sum_cons, List.take_add]

/-! ### The overflow (R84) -/

/-- What lies past the sheets' capacities is as long as the overflow count. -/
theorem State.drop_overflow (s : State) (b : Book) (c : Section) :
    (s.tileSequence b c).drop ((s.tileSequence b c).length - s.overflowOf b c) =
      (s.tileSequence b c).drop (c.sheets.map s.capacityOf).sum := by
  rcases Nat.le_total (c.sheets.map s.capacityOf).sum (s.tileSequence b c).length with h | h
  · rw [State.overflowOf, Nat.sub_sub_self h]
  · rw [State.overflowOf, Nat.sub_eq_zero_of_le h, Nat.sub_zero, List.drop_length, List.drop_eq_nil_of_le h]

/-- Settles O29: the shares are the front of the tile sequence up to the sheets' capacities, by induction over the sheets. -/
theorem sharesDivideTheTileSequence : Obligations.SharesDivideTheTileSequence := by
  unfold Obligations.SharesDivideTheTileSequence
  refine fun s b c hn => ⟨?_, fun i _ => List.length_take_le _ _, s.capacityOf_le⟩
  calc c.sheets.flatMap (s.shareOf b c) ++ (s.tileSequence b c).drop ((s.tileSequence b c).length - s.overflowOf b c)
      = (s.tileSequence b c).take (c.sheets.map s.capacityOf).sum ++
          (s.tileSequence b c).drop (c.sheets.map s.capacityOf).sum := by
        rw [s.drop_overflow b c, ← s.runs_eq_take hn]; rfl
    _ = s.tileSequence b c := List.take_append_drop _ _

end Sys2Proof.Machine
end

section
/-! The face fit's window against its source (R98 to R106). -/

namespace Sys2Proof.Machine

open Sys2Proof

/-! ### One axis of the window (R104) -/

theorem placeAxis_within (raw : Int) {window source : Nat} (h : window ≤ source) :
    0 ≤ placeAxis raw window source ∧ placeAxis raw window source + window ≤ source ∧
      placeAxis raw window source = min (max raw 0) ((source : Int) - window) := by
  rw [placeAxis, if_pos h]
  omega

theorem placeAxis_padded (raw : Int) {window source : Nat} (h : source < window) :
    placeAxis raw window source = -(((window : Int) - source) / 2) ∧ placeAxis raw window source ≤ 0 ∧
      source ≤ placeAxis raw window source + window := by
  rw [placeAxis, if_neg (not_le.2 h)]
  omega

/-! ### The scale and its clamps (R100, R101) -/

/-- At a scale that covers a length of the area, the window does not outgrow the source along it (R100, R102). -/
theorem window_le_of_cover {area source scale : Nat} (hs : 0 < source) (hc : ceilDiv (area * 4096) source ≤ scale) :
    area * 4096 / scale ≤ source :=
  Nat.div_le_of_le_mul ((ceilDiv_le_iff hs).1 hc)

namespace FitInput
variable (i : FitInput)

theorem scale_ge : 1024 ≤ i.scale := Nat.le_max_left _ _

theorem scale_le : i.scale ≤ 16384 := max_le (by decide) (Nat.min_le_left _ _)

theorem padded_eq_false_iff : i.flags.padded = false ↔ i.w ≤ i.width ∧ i.h ≤ i.height := by
  simp only [flags, decide_eq_false_iff_not, not_or, not_lt]

/-- A raised scale inside the clamps is the tile's scale. -/
theorem scale_of_not_clamped {i : FitInput} (h : i.flags.clamped = false) : i.scale = max i.fitScale i.coverScale := by
  simp only [flags, decide_eq_false_iff_not, not_or, not_lt] at h
  rw [scale, min_eq_right h.1, max_eq_right h.2, raisedScale]

theorem window_le_of_not_clamped {i : FitInput} (h : i.flags.clamped = false) (hw : 0 < i.width) (hh : 0 < i.height) :
    i.w ≤ i.width ∧ i.h ≤ i.height := by
  have hcover : i.coverScale ≤ i.scale := scale_of_not_clamped h ▸ Nat.le_max_right _ _
  obtain ⟨hwide, htall⟩ := max_le_iff.1 hcover
  exact ⟨window_le_of_cover hw hwide, window_le_of_cover hh htall⟩

end FitInput

end Sys2Proof.Machine
end

section
/-! Captions within their capacity, and their elision marks (R108 to R113). -/

namespace Sys2Proof.Machine

open Sys2Proof

/-! ### Cutting (R112) -/

theorem cutTo_of_le {m : Nat} {t : Str} (h : t.length ≤ m) : cutTo m t = t := if_neg (not_lt.2 h)

theorem cutTo_of_lt {m : Nat} {t : Str} (h : m < t.length) : cutTo m t = t.take (m - 1) ++ [95] := if_pos h

theorem length_cutTo {m : Nat} (hm : 1 ≤ m) (t : Str) : (cutTo m t).length = min m t.length := by
  rcases Nat.lt_or_ge m t.length with h | h
  · rw [cutTo_of_lt h, List.length_append, List.length_take, List.length_singleton]
    omega
  · rw [cutTo_of_le h, min_eq_right h]

theorem length_cutTo_le {m : Nat} (hm : 1 ≤ m) (t : Str) : (cutTo m t).length ≤ m :=
  length_cutTo hm t ▸ Nat.min_le_left _ _

theorem elision_not_mem {t : Str} (h : ∀ c ∈ t, c < 95) : 95 ∉ t := fun hm => lt_irrefl _ (h 95 hm)

/-- In a string that a station may store, the elision mark stands exactly where the string was cut. -/
theorem elision_mem_cutTo {m : Nat} {t : Str} (h : ∀ c ∈ t, c < 95) : 95 ∈ cutTo m t ↔ m < t.length := by
  rcases Nat.lt_or_ge m t.length with hlt | hge
  · simp [cutTo_of_lt hlt, hlt]
  · simp [cutTo_of_le hge, elision_not_mem h, hge]

/-! ### Names (R109, R111) -/

section
variable {given surname : Str} (hg : ∀ c ∈ given, c < 95) (hs : ∀ c ∈ surname, c < 95)
include hg hs

theorem fullName_lt : ∀ c ∈ fullName given surname, c < 95 := by
  unfold fullName
  split
  · exact hs
  · simpa [or_imp, forall_and] using ⟨hg, hs⟩

theorem shortName_lt : ∀ c ∈ shortName given surname, c < 95 := by
  cases given with
  | nil => exact hs
  | cons c given => simpa [shortName] using ⟨hg c List.mem_cons_self, hs⟩

end

/-! ### The forms (R109 to R111) -/

/-- The lines of a caption stand within their capacity and the lines available, and the CUT mark goes with an elision mark. -/
def captionFits (cap lines : Nat) (form : List Str × Bool) : Prop :=
  (∀ l ∈ form.1, l.length ≤ cap) ∧ form.1.length ≤ lines ∧ form.1 ≠ [] ∧ (form.2 = true ↔ ∃ l ∈ form.1, 95 ∈ l)

theorem captionFits_one {cap lines : Nat} {line : Str} {cut : Bool} (hlines : 1 ≤ lines) (hlen : line.length ≤ cap)
    (hcut : cut = true ↔ 95 ∈ line) : captionFits cap lines ([line], cut) := by
  simp [captionFits, hlines, hlen, hcut]

theorem captionFits_two {cap lines : Nat} {first second : Str} {cut : Bool} (hlines : 2 ≤ lines)
    (hfirst : first.length ≤ cap) (hsecond : second.length ≤ cap) (hcut : cut = true ↔ 95 ∈ first ∨ 95 ∈ second) :
    captionFits cap lines ([first, second], cut) := by
  simp [captionFits, hlines, hfirst, hsecond, hcut]

theorem captionForm_full {cap lines : Nat} {given surname : Str} (h : (fullName given surname).length ≤ cap) :
    captionForm cap lines given surname = ([fullName given surname], false) := if_pos h

theorem captionForm_split {cap : Nat} {given surname : Str} (h : cap < (fullName given surname).length) (hne : given ≠ [])
    (hg : given.length ≤ cap) (hs : surname.length ≤ cap) :
    captionForm cap 2 given surname = ([given, surname], false) := by
  rw [captionForm, if_neg (not_le.2 h), if_pos rfl, if_pos ⟨hne, hg, hs⟩]

/-- Every form of a caption fits, for names as they are stored (R108 to R112). -/
theorem captionForm_fits {cap lines : Nat} {given surname : Str} (hcap : 1 ≤ cap) (hlines : 1 ≤ lines)
    (hg : ∀ c ∈ given, c < 95) (hs : ∀ c ∈ surname, c < 95) :
    captionFits cap lines (captionForm cap lines given surname) := by
  have huncut {t : Str} (h : ∀ c ∈ t, c < 95) : false = true ↔ 95 ∈ t := by simp [elision_not_mem h]
  unfold captionForm
  split_ifs with hfull htwo hboth hnone hshort
  · exact captionFits_one hlines hfull (huncut (fullName_lt hg hs))
  · obtain ⟨-, hgiven, hsurname⟩ := hboth
    exact captionFits_two htwo.ge hgiven hsurname (by simp [elision_not_mem hg, elision_not_mem hs])
  · have hlong : cap < surname.length := not_le.1 (by simpa [fullName, hnone] using hfull)
    exact captionFits_one hlines (length_cutTo_le hcap _) (by simp [elision_mem_cutTo hs, hlong])
  · have hlong : cap < given.length ∨ cap < surname.length := by
      by_contra! h
      exact hboth ⟨hnone, h⟩
    exact captionFits_two htwo.ge (length_cutTo_le hcap _) (length_cutTo_le hcap _)
      (by simp [elision_mem_cutTo hg, elision_mem_cutTo hs, hlong])
  · exact captionFits_one hlines hshort (huncut (shortName_lt hg hs))
  · exact captionFits_one hlines (length_cutTo_le hcap _)
      (by simp [elision_mem_cutTo (shortName_lt hg hs), not_le.1 hshort])

/-! ### The caption of a tile's area (R108, R113) -/

section
variable {l : Layout} {width : Nat} {given surname : Str}

theorem captionOf_none (h : l.captionHeight = 0) : captionOf l width given surname = ([], false) := if_pos h

/-- The line capacity of an area (R108). -/
def Layout.lineCapacity (l : Layout) (width : Nat) : Nat := min 48 (width / l.advance)

/-- The caption lines that a layout's strip holds (R108). -/
def Layout.captionLines (l : Layout) : Nat := min 2 (l.captionHeight / l.lineHeight)

theorem captionOf_some (h : l.captionHeight ≠ 0) :
    captionOf l width given surname =
      ((captionForm (l.lineCapacity width) l.captionLines given surname).1.map (centreLine width l.advance),
        (captionForm (l.lineCapacity width) l.captionLines given surname).2) := if_neg h

theorem captionOf_texts (h : l.captionHeight ≠ 0) :
    (captionOf l width given surname).1.map (·.text) =
      (captionForm (l.lineCapacity width) l.captionLines given surname).1 := by
  rw [captionOf_some h, List.map_map]
  exact List.map_id _

theorem Layout.one_le_lineCapacity (ha : 0 < l.advance) (hw : l.advance ≤ width) : 1 ≤ l.lineCapacity width :=
  le_min (by decide) ((Nat.one_le_div_iff ha).2 hw)

theorem Layout.one_le_captionLines (hl : 0 < l.lineHeight) (hc : l.lineHeight ≤ l.captionHeight) : 1 ≤ l.captionLines :=
  le_min (by decide) ((Nat.one_le_div_iff hl).2 hc)

theorem Layout.captionLines_mul_le (l : Layout) : l.captionLines * l.lineHeight ≤ l.captionHeight :=
  (Nat.mul_le_mul_right _ (Nat.min_le_right _ _)).trans (Nat.div_mul_le_self _ _)

/-- A line within the capacity stands inside the area when it is centred there (R113). -/
theorem centreLine_inside {text : Str} (h : text.length ≤ l.lineCapacity width) :
    (centreLine width l.advance text).x + text.length * l.advance ≤ width := by
  have := (Nat.mul_le_mul_right l.advance (h.trans (Nat.min_le_right _ _))).trans (Nat.div_mul_le_self width l.advance)
  dsimp only [centreLine]
  omega

/-- A caption whose forms fit stands within its strip, each line centred inside the area. -/
theorem captionOf_inside (h : l.captionHeight ≠ 0)
    (hf : captionFits (l.lineCapacity width) l.captionLines
      (captionForm (l.lineCapacity width) l.captionLines given surname)) :
    (captionOf l width given surname).1 ≠ [] ∧ (captionOf l width given surname).1.length ≤ 2 ∧
      (captionOf l width given surname).1.length * l.lineHeight ≤ l.captionHeight ∧
      (∀ c ∈ (captionOf l width given surname).1, c.text.length ≤ 48 ∧
        c.x = (width - c.text.length * l.advance) / 2 ∧ c.x + c.text.length * l.advance ≤ width) ∧
      ((captionOf l width given surname).2 = true ↔ ∃ c ∈ (captionOf l width given surname).1, 95 ∈ c.text) := by
  obtain ⟨hlen, hlines, hne, hcut⟩ := hf
  rw [captionOf_some h]
  refine ⟨by simpa using hne, ?_, ?_, fun c hc => ?_, ?_⟩
  · rw [List.length_map]
    exact hlines.trans (Nat.min_le_left _ _)
  · rw [List.length_map]
    exact (Nat.mul_le_mul_right _ hlines).trans (Layout.captionLines_mul_le l)
  · obtain ⟨text, htext, rfl⟩ := List.mem_map.1 hc
    exact ⟨(hlen text htext).trans (Nat.min_le_left _ _), rfl, centreLine_inside (hlen text htext)⟩
  · simpa [centreLine] using hcut

end

end Sys2Proof.Machine
end

section
/-! The not-pictured lines within the body's width (R91, R114 to R116), and the theorem that settles O30. -/

namespace Sys2Proof.Machine

open Sys2Proof

/-! ### Numbers in decimal -/

/-- A number below a power of ten has no more digits than the power. -/
theorem length_decimalWith_le (fuel : Nat) {k n : Nat} (hn : n < 10 ^ (k + 1)) : (decimalWith fuel n).length ≤ k + 1 := by
  induction fuel generalizing k n with
  | zero => exact Nat.zero_le _
  | succ fuel ih =>
    rw [decimalWith]
    split
    next => exact Nat.succ_le_succ (Nat.zero_le k)
    next hbig =>
      cases k with
      | zero => omega
      | succ k =>
        rw [List.length_append]
        exact Nat.succ_le_succ (ih (by rw [pow_succ] at hn; omega))

theorem length_decimal_le_three {n : Nat} (h : n < 1000) : (decimal n).length ≤ 3 := length_decimalWith_le 20 (k := 2) h

/-! ### Lines and their names (R114, R115) -/

theorem length_lineLead_le (first : Bool) : (lineLead first).length ≤ 14 := by
  cases first <;> decide

/-- Cutting the names of a line makes the line no longer. -/
theorem length_joinNames_map_cutTo_le {m : Nat} (hm : 1 ≤ m) (names : List Str) :
    (joinNames (names.map (cutTo m))).length ≤ (joinNames names).length := by
  have hcut (t : Str) : (cutTo m t).length ≤ t.length := length_cutTo hm t ▸ Nat.min_le_right _ _
  induction names with
  | nil => exact le_rfl
  | cons a names ih =>
    cases names with
    | nil => exact hcut a
    | cons b names =>
      simp only [List.map_cons, joinNames, List.length_append, List.length_cons] at ih ⊢
      have := hcut a
      omega

theorem length_listLine_le_of_trial {cap : Nat} {first : Bool} {names : List Str} {n : Str} (hcap : 1 ≤ cap)
    (h : trialLength first names n ≤ cap) : (listLine cap first (names ++ [n])).length ≤ cap := by
  have := length_joinNames_map_cutTo_le hcap (names ++ [n])
  rw [trialLength, List.length_append] at h
  rw [listLine, List.length_append]
  omega

/-- A name alone on a line other than line 1 is cut to the line (R115). -/
theorem length_listLine_single_le {cap : Nat} (hcap : 1 ≤ cap) (n : Str) : (listLine cap false [n]).length ≤ cap :=
  length_cutTo_le hcap n

/-! ### The last line, refilled (R116) -/

/-- The names kept leave the line within the room it is refilled in. -/
theorem length_refillNames_le {room : Nat} {first : Bool} (hroom : 1 ≤ room) {kept : List Str} (names : List Str)
    (h : (lineLead first ++ joinNames kept).length ≤ room) :
    (lineLead first ++ joinNames (refillNames room first kept names)).length ≤ room := by
  induction names generalizing kept with
  | nil => exact h
  | cons n names ih =>
    rw [refillNames]
    split_ifs with hforced htrial
    · obtain ⟨-, rfl⟩ := hforced
      exact ih (length_cutTo_le hroom n)
    · exact ih htrial
    · exact h

theorem length_refillLine_le {cap : Nat} {first : Bool} {names : List Str} {left : Nat} (hcap : 20 ≤ cap)
    (hleft : names.length + left ≤ 256) : (refillLine cap first names left).length ≤ cap := by
  have hlead : (lineLead first ++ joinNames []).length ≤ cap - 5 := by
    rw [joinNames, List.append_nil]
    exact (length_lineLead_le first).trans (by omega)
  have hkept := length_refillNames_le (room := cap - 5) (by omega) names hlead
  have hmark := length_decimal_le_three
    (n := left + (names.length - (refillNames (cap - 5) first [] names).length)) (by omega)
  rw [refillLine]
  split
  · rw [List.length_append, List.length_cons]
    omega
  · rw [List.length_append, List.length_cons, List.length_cons]
    omega

/-! ### Filling (R115, R116) -/

theorem length_fillLines_le (cap : Nat) (first : Bool) (names : List Str) (after : Nat) (rest : List Str) :
    (fillLines cap first names after rest).length ≤ after + 1 := by
  fun_induction fillLines cap first names after rest with
  | case1 => exact Nat.le_add_left 1 _
  | case2 _ _ _ _ _ _ ih => exact ih
  | case3 => exact le_rfl
  | case4 _ _ _ _ _ _ ih => exact Nat.succ_le_succ ih

/-- Filling keeps every line within the capacity, when the current line is and the names in play are few enough for the count
mark's three digits. -/
theorem fillLines_within {cap : Nat} (hcap : 20 ≤ cap) {first : Bool} {names : List Str} {after : Nat} {rest : List Str}
    (hline : (listLine cap first names).length ≤ cap) (hcount : names.length + rest.length ≤ 256) :
    ∀ t ∈ fillLines cap first names after rest, t.length ≤ cap := by
  fun_induction fillLines cap first names after rest with
  | case1 => simpa using hline
  | case2 first names after n rest hgoes ih =>
    refine ih ?_ (by simpa [Nat.add_assoc, Nat.add_comm 1] using hcount)
    rcases hgoes with htrial | ⟨rfl, rfl⟩
    · exact length_listLine_le_of_trial (by omega) htrial
    · exact length_listLine_single_le (by omega) n
  | case3 first names n rest =>
    simpa using length_refillLine_le hcap hcount
  | case4 first names n rest _ after ih =>
    rw [List.forall_mem_cons]
    exact ⟨hline, ih (length_listLine_single_le (by omega) n) (by rw [List.length_cons] at hcount ⊢; simp; omega)⟩

/-- The not-pictured lines of a sheet are at most its list lines, each within the columns of the body (R91). -/
theorem notPicturedLines_within (l : Layout) {listed : List (Str × Str)} (h : listed.length ≤ 256) :
    (notPicturedLines l listed).length ≤ l.listLines ∧
      ∀ t ∈ notPicturedLines l listed, t.length ≤ l.bodyWidth / l.advance := by
  unfold notPicturedLines
  split_ifs with hnone
  · exact ⟨Nat.zero_le _, fun t ht => absurd ht List.not_mem_nil⟩
  · push Not at hnone
    obtain ⟨hlines, hcap, -⟩ := hnone
    have hlead : (listLine (l.bodyWidth / l.advance) true []).length ≤ l.bodyWidth / l.advance :=
      (length_lineLead_le true).trans (by omega)
    have hlength := length_fillLines_le (l.bodyWidth / l.advance) true [] (l.listLines - 1)
      (listed.map (fun n => fullName n.1 n.2))
    exact ⟨by omega, fillLines_within hcap hlead (by simpa using h)⟩

/-- Settles O30: the window axis by axis, the caption form by form, and the list lines by the recursion that fills them. -/
theorem windowsCaptionsAndListLinesFit : Obligations.WindowsCaptionsAndListLinesFit := by
  unfold Obligations.WindowsCaptionsAndListLinesFit
  refine ⟨fun i => ⟨placeAxis_within i.rawX, placeAxis_within i.rawY, placeAxis_padded i.rawX, placeAxis_padded i.rawY,
      i.padded_eq_false_iff, i.scale_ge, i.scale_le, fun hc hw hh =>
        ⟨FitInput.scale_of_not_clamped hc, FitInput.window_le_of_not_clamped hc hw hh⟩⟩,
    fun cap lines given surname hcap hlines _ _ hg hs => captionForm_fits hcap hlines hg hs,
    fun l width given surname ha hw hl _ hg hs => ⟨captionOf_none, fun hc => ?_⟩,
    fun l listed h => ?_⟩
  · have hne : l.captionHeight ≠ 0 := by omega
    obtain ⟨hsome, hlines, hstrip, hplace, hcut⟩ :=
      captionOf_inside hne (captionForm_fits (Layout.one_le_lineCapacity ha hw) (Layout.one_le_captionLines hl hc) hg hs)
    refine ⟨hsome, hlines, hstrip, hplace, hcut, fun hfull => ?_, fun hlong htwo hgiven hgl hsl => ?_⟩
    · rw [captionOf_texts hne, captionForm_full (cap := l.lineCapacity width) hfull]
    · have hlines2 : l.captionLines = 2 := min_eq_left ((Nat.le_div_iff_mul_le hl).2 htwo)
      rw [captionOf_texts hne, hlines2, captionForm_split (cap := l.lineCapacity width) hlong hgiven hgl hsl]
  · obtain ⟨hlines, hwidth⟩ := notPicturedLines_within l h
    exact ⟨hlines, fun t ht =>
      ⟨hwidth t ht, (Nat.mul_le_mul_right _ (hwidth t ht)).trans (Nat.div_mul_le_self _ _)⟩⟩

end Sys2Proof.Machine
end

section
/-! The tag that SUBMIT gives a job: the first free one of the circle of 1 to 4095 (R118). -/

namespace Sys2Proof.Machine

open Sys2Proof

theorem State.jobOf_eq_none {s : State} {tag : Nat} : s.jobOf tag = none ↔ ∀ j ∈ s.jobs, j.tag ≠ tag := by
  simp [State.jobOf, List.find?_eq_none]

theorem State.jobOf_isSome {s : State} {tag : Nat} : (s.jobOf tag).isSome ↔ tag ∈ s.jobs.map (·.tag) := by
  simp [State.jobOf, List.find?_isSome]

/-- The tag after one of the circle is the next of the circle (R118). -/
theorem tagAfter_eq {t : Nat} (h1 : 1 ≤ t) (h2 : t ≤ 4095) : tagAfter t = t % 4095 + 1 := by
  unfold tagAfter Config.maxTag
  split <;> omega

/-- The search passes over tags that jobs have, and unless its fuel runs out it stops at a free one (R118). -/
theorem freeTag_spec (s : State) (fuel t : Nat) (h1 : 1 ≤ t) (h2 : t ≤ 4095) :
    ∃ n ≤ fuel, freeTag s fuel t = (t - 1 + n) % 4095 + 1 ∧
      (∀ m < n, (s.jobOf ((t - 1 + m) % 4095 + 1)).isSome) ∧ (n < fuel → s.jobOf (freeTag s fuel t) = none) := by
  have hstart : (t - 1 + 0) % 4095 + 1 = t := by omega
  induction fuel generalizing t with
  | zero => exact ⟨0, le_rfl, hstart.symm, fun m hm => absurd hm m.not_lt_zero, fun h => absurd h (Nat.lt_irrefl 0)⟩
  | succ fuel ih =>
    unfold freeTag
    split
    · rename_i htaken
      have hafter := tagAfter_eq h1 h2
      obtain ⟨n, hn, htag, htakens, hfree⟩ := ih (tagAfter t) (by omega) (by omega) (by omega)
      have hshift (m : Nat) : (tagAfter t - 1 + m) % 4095 + 1 = (t - 1 + (m + 1)) % 4095 + 1 := by omega
      refine ⟨n + 1, by omega, htag.trans (hshift n), fun m hm => ?_, fun h => hfree (by omega)⟩
      cases m with
      | zero => rwa [hstart]
      | succ m => rw [← hshift]; exact htakens m (by omega)
    · rename_i hfree
      exact ⟨0, Nat.zero_le _, hstart.symm, fun m hm => absurd hm m.not_lt_zero, fun _ => by simpa using hfree⟩

/-- With fewer jobs than tags to look at, the search finds a free one (R118). -/
theorem jobOf_freeTag {s : State} {fuel t : Nat} (h1 : 1 ≤ t) (h2 : t ≤ 4095) (hf : fuel ≤ 4095)
    (hl : s.jobs.length < fuel) : s.jobOf (freeTag s fuel t) = none := by
  obtain ⟨n, hn, -, htaken, hfree⟩ := freeTag_spec s fuel t h1 h2
  refine hfree (lt_of_le_of_ne hn fun he => ?_)
  subst he
  have hnodup : ((List.range n).map fun m => (t - 1 + m) % 4095 + 1).Nodup := by
    refine List.Nodup.map_on (fun a ha b hb hab => ?_) List.nodup_range
    have ha := List.mem_range.1 ha
    have hb := List.mem_range.1 hb
    omega
  have hsub : ((List.range n).map fun m => (t - 1 + m) % 4095 + 1) ⊆ s.jobs.map (·.tag) := by
    intro x hx
    obtain ⟨m, hm, rfl⟩ := List.mem_map.1 hx
    exact State.jobOf_isSome.1 (htaken m (List.mem_range.1 hm))
  have := (List.subperm_of_subset hnodup hsub).length_le
  simp at this
  omega

/-- Wherever the tag counter stands, the next tag is free while there are few jobs (R118). -/
theorem State.jobOf_nextTag {s : State} (hl : s.jobs.length < 4094) : s.jobOf s.nextTag = none := by
  unfold State.nextTag Config.maxTag
  unfold freeTag
  split
  · refine jobOf_freeTag ?_ ?_ (by omega) hl <;> (unfold tagAfter Config.maxTag; split <;> omega)
  · simp_all

end Sys2Proof.Machine
end

section
/-! A sound job table, as a list: what stays sound when a record takes another's place, moves, joins or leaves (R118, R119). -/

namespace Sys2Proof.Machine

open Sys2Proof

/-! ### Lists of jobs -/

/-- A job table is sound as a list of records (R118, R119). -/
def jobsFit (l : List Job) : Prop :=
  (l.map (·.tag)).Nodup ∧
    (∀ q k, (l.filter (fun j => decide (j.press = q) && decide (j.kind = k))).length ≤ collectionPlaces k) ∧
    (l.filter (fun j => decide (j.state = .active))).length ≤ 1 ∧
    (l.filter (fun j => decide (j.state = .suspended))).length ≤ 1

theorem State.jobsSound_iff (s : State) : s.jobsSound ↔ jobsFit s.jobs := Iff.rfl

theorem jobsFit.sublist {l l' : List Job} (h : jobsFit l) (hl : l'.Sublist l) : jobsFit l' := by
  obtain ⟨htags, hplaces, hactive, hsuspended⟩ := h
  exact ⟨htags.sublist (hl.map _), fun q k => (hl.filter _).length_le.trans (hplaces q k),
    (hl.filter _).length_le.trans hactive, (hl.filter _).length_le.trans hsuspended⟩

theorem jobsFit.perm {l l' : List Job} (h : jobsFit l) (hl : l.Perm l') : jobsFit l' := by
  obtain ⟨htags, hplaces, hactive, hsuspended⟩ := h
  exact ⟨(hl.map _).nodup_iff.1 htags, fun q k => (hl.filter _).length_eq ▸ hplaces q k,
    (hl.filter _).length_eq ▸ hactive, (hl.filter _).length_eq ▸ hsuspended⟩

/-- A record may stand where `j` stood in a table: it is of the same job, and it does not become a second ACTIVE or a second
SUSPENDED job. -/
structure Job.Succeeds (k j : Job) (l : List Job) : Prop where
  tag : k.tag = j.tag
  press : k.press = j.press
  kind : k.kind = j.kind
  state : k.state = j.state ∨ k.state = .waiting ∨ k.state = .draining ∨ ∀ x ∈ l, x.state ≠ k.state

/-- A count at the head of a list stays within a bound when the new head was counted before, or no other member is. -/
theorem length_filter_cons_le {P : Job → Bool} {j k : Job} {l : List Job} {n : Nat} (hn : 1 ≤ n)
    (h : P k = true → P j = true ∨ ∀ x ∈ l, P x = false) (hl : ((j :: l).filter P).length ≤ n) :
    ((k :: l).filter P).length ≤ n := by
  by_cases hk : P k = true
  · rcases h hk with hj | hnone
    · simpa [hk, hj] using hl
    · rw [List.filter_cons, if_pos hk, List.filter_eq_nil_iff.2 fun x hx => by simp [hnone x hx]]
      exact hn
  · rw [List.filter_cons, if_neg hk]
    exact ((List.sublist_cons_self j l).filter P).length_le.trans hl

theorem one_le_collectionPlaces (k : JobKind) : 1 ≤ collectionPlaces k := by cases k <;> decide

theorem jobsFit.cons_of_succeeds {j k : Job} {l : List Job} (h : jobsFit (j :: l)) (hk : k.Succeeds j l) :
    jobsFit (k :: l) := by
  obtain ⟨htags, hplaces, hactive, hsuspended⟩ := h
  obtain ⟨ht, hp, hkind, hst⟩ := hk
  have hcount {st : JobState} (hw : st ≠ .waiting) (hd : st ≠ .draining) (he : decide (k.state = st) = true) :
      decide (j.state = st) = true ∨ ∀ x ∈ l, decide (x.state = st) = false := by
    obtain rfl := of_decide_eq_true he
    rcases hst with hs | hs | hs | hs
    · exact .inl (decide_eq_true hs.symm)
    · exact absurd hs hw
    · exact absurd hs hd
    · exact .inr fun x hx => decide_eq_false (hs x hx)
  refine ⟨by simpa [ht] using htags, fun q kind => ?_, ?_, ?_⟩
  · exact length_filter_cons_le (one_le_collectionPlaces kind) (fun h => .inl (by simpa [hp, hkind] using h)) (hplaces q kind)
  · exact length_filter_cons_le le_rfl (hcount (by decide) (by decide)) hactive
  · exact length_filter_cons_le le_rfl (hcount (by decide) (by decide)) hsuspended

/-- With distinct tags a job stands at one place: the records before it and after it are the other jobs, and its record alone
is replaced. -/
theorem exists_split_of_mem {l : List Job} {j : Job} (h : (l.map (·.tag)).Nodup) (hj : j ∈ l) :
    ∃ before after, l = before ++ j :: after ∧ l.filter (fun x => decide (x.tag ≠ j.tag)) = before ++ after ∧
      ∀ k : Job, k.tag = j.tag → l.map (fun x => if x.tag = k.tag then k else x) = before ++ k :: after := by
  obtain ⟨before, after, rfl⟩ := List.append_of_mem hj
  have hother : ∀ x ∈ before ++ after, x.tag ≠ j.tag := by
    have h' : ((j :: (before ++ after)).map (·.tag)).Nodup := (List.perm_middle.map _).nodup_iff.1 h
    intro x hx he
    exact (List.nodup_cons.1 h').1 (List.mem_map.2 ⟨x, hx, he⟩)
  have hb : ∀ x ∈ before, x.tag ≠ j.tag := fun x hx => hother x (List.mem_append_left _ hx)
  have ha : ∀ x ∈ after, x.tag ≠ j.tag := fun x hx => hother x (List.mem_append_right _ hx)
  refine ⟨before, after, rfl, ?_, fun k hk => ?_⟩
  · rw [List.filter_append, List.filter_cons_of_neg (by simp), List.filter_eq_self.2 fun x hx => decide_eq_true (hb x hx),
      List.filter_eq_self.2 fun x hx => decide_eq_true (ha x hx)]
  · rw [List.map_append, List.map_cons, if_pos hk.symm, hk]
    exact congrArg₂ (· ++ k :: ·) ((List.map_congr_left fun x hx => if_neg (hb x hx)).trans before.map_id)
      ((List.map_congr_left fun x hx => if_neg (ha x hx)).trans after.map_id)

/-- A record that succeeds a job's takes its place in the table. -/
theorem jobsFit.replace {l : List Job} {j k : Job} (h : jobsFit l) (hj : j ∈ l) (hk : k.Succeeds j l) :
    jobsFit (l.map (fun x => if x.tag = k.tag then k else x)) := by
  obtain ⟨before, after, hl, -, hmap⟩ := exists_split_of_mem h.1 hj
  rw [hmap k hk.tag]
  have hrest : k.Succeeds j (before ++ after) :=
    { hk with state := hk.state.imp_right <| .imp_right <| .imp_right fun hn x hx => hn x (by
        rw [hl]
        exact List.perm_middle.symm.subset (List.mem_cons_of_mem _ hx)) }
  rw [hl] at h
  exact ((h.perm List.perm_middle).cons_of_succeeds hrest).perm List.perm_middle.symm

/-- Moving a job to the head of its collection orders the same records (R119). -/
theorem moveToHead_perm {l : List Job} {j k : Job} (h : (l.map (·.tag)).Nodup) (hj : j ∈ l) (hk : k.tag = j.tag) :
    (l.map (fun x => if x.tag = k.tag then k else x)).Perm (moveToHead l k) := by
  obtain ⟨before, after, -, hothers, hmap⟩ := exists_split_of_mem h hj
  simp only [moveToHead]
  split
  · rw [hmap k hk, hk, hothers]
    refine List.perm_middle.trans (List.Perm.trans ?_ List.perm_middle.symm)
    rw [List.takeWhile_append_dropWhile]
  · exact .refl _

theorem jobsFit.moveToHead {l : List Job} {j k : Job} (h : jobsFit l) (hj : j ∈ l) (hk : k.Succeeds j l) :
    jobsFit (moveToHead l k) :=
  (h.replace hj hk).perm (moveToHead_perm h.1 hj hk.tag)

/-- Every job stands in one of the four collections. -/
theorem length_eq_collections (l : List Job) :
    l.length =
      (l.filter (fun j => decide (j.press = .a) && decide (j.kind = .run))).length +
      (l.filter (fun j => decide (j.press = .a) && decide (j.kind = .proof))).length +
      (l.filter (fun j => decide (j.press = .b) && decide (j.kind = .run))).length +
      (l.filter (fun j => decide (j.press = .b) && decide (j.kind = .proof))).length := by
  induction l with
  | nil => rfl
  | cons j l ih => cases hp : j.press <;> cases hk : j.kind <;> simp [hp, hk] <;> omega

/-- A sound job table has places for 32 jobs (R119). -/
theorem jobsFit.length_le {l : List Job} (h : jobsFit l) : l.length ≤ 32 := by
  obtain ⟨-, hplaces, -⟩ := h
  have h1 : _ ≤ 12 := hplaces .a .run
  have h2 : _ ≤ 4 := hplaces .a .proof
  have h3 : _ ≤ 12 := hplaces .b .run
  have h4 : _ ≤ 4 := hplaces .b .proof
  rw [length_eq_collections l]
  omega

/-- A WAITING job of a fresh tag joins a collection that has a place for it (R118 to R121). -/
theorem jobsFit.append {l : List Job} {k : Job} (h : jobsFit l) (ht : ∀ j ∈ l, j.tag ≠ k.tag) (hs : k.state = .waiting)
    (hroom : (l.filter (fun j => decide (j.press = k.press) && decide (j.kind = k.kind))).length < collectionPlaces k.kind) :
    jobsFit (l ++ [k]) := by
  obtain ⟨htags, hplaces, hactive, hsuspended⟩ := h
  refine ⟨?_, fun q kind => ?_, by simpa [List.filter_append, hs] using hactive,
    by simpa [List.filter_append, hs] using hsuspended⟩
  · rw [List.map_append, List.nodup_append]
    refine ⟨htags, List.nodup_singleton _, fun a ha b hb => ?_⟩
    obtain ⟨j, hj, rfl⟩ := List.mem_map.1 ha
    obtain rfl : b = k.tag := by simpa using hb
    exact ht j hj
  · rw [List.filter_append, List.length_append]
    by_cases hk : k.press = q ∧ k.kind = kind
    · obtain ⟨rfl, rfl⟩ := hk
      simpa using hroom
    · rw [List.filter_cons_of_neg (by simpa using hk)]
      simpa using hplaces q kind

end Sys2Proof.Machine
end

section
/-! What the operations of the job table, the renderer and the presses keep of the soundness of the job table (R118, R119, R126). -/

namespace Sys2Proof.Machine

open Sys2Proof

/-! ### The ACTIVE and the SUSPENDED job -/

theorem State.activeJob_eq_none {s : State} : s.activeJob = none ↔ ∀ j ∈ s.jobs, j.state ≠ .active := by
  simp [State.activeJob, List.find?_eq_none]

theorem State.suspendedJob_eq_none {s : State} : s.suspendedJob = none ↔ ∀ j ∈ s.jobs, j.state ≠ .suspended := by
  simp [State.suspendedJob, List.find?_eq_none]

/-- What the grant order names stands in the job table (R126). -/
theorem State.grantOrder_mem {s : State} {j : Job} (h : s.grantOrder = some j) : j ∈ s.jobs := by
  unfold State.grantOrder at h
  rcases Option.or_eq_some_iff.1 h with h | ⟨-, h⟩
  · exact List.mem_of_find?_eq_some h
  rcases Option.or_eq_some_iff.1 h with h | ⟨-, h⟩
  · exact (State.suspendedJob_mem (Option.filter_eq_some_iff.1 h).1).1
  rcases Option.or_eq_some_iff.1 h with h | ⟨-, h⟩ <;> exact List.mem_of_find?_eq_some h

/-- A record stored for a job of the table is in the table. -/
theorem State.mem_putJob_self {s : State} {j k : Job} (hj : j ∈ s.jobs) (hk : k.tag = j.tag) : k ∈ (s.putJob k).jobs :=
  (State.onlyJobMoves_putJob hj hk).1

/-- What leaves the tables leaves the jobs. -/
theorem State.jobs_of_tables {s t : State} (h : t.tables = s.tables) : t.jobs = s.jobs := by
  obtain ⟨-, -, -, -, -, hj, -⟩ := State.tables_eq_iff.1 h
  exact hj

theorem State.examine_jobs (s : State) (ps : List Nat) : (s.examine ps).jobs = s.jobs := by
  have h := congrArg State.jobs (s.examine_frame ps)
  exact h

/-- An activation pins portraits and moves a sheet (R127). -/
theorem State.activateSheet_jobs (s : State) (j : Job) : (s.activateSheet j).jobs = s.jobs := by
  unfold State.activateSheet
  split
  · rfl
  split
  · rfl
  · rw [State.setSheet_jobs, State.pin, State.mapPortraits_eq]

theorem State.startStall_jobs (s : State) : s.startStall.jobs = s.jobs := State.jobs_of_tables s.startStall_tables

/-! ### The job table -/

namespace State.jobsSound

theorem congr {s t : State} (hs : s.jobsSound) (h : t.jobs = s.jobs) : t.jobsSound := by
  rw [State.jobsSound_iff, h]
  exact hs

theorem of_tables {s t : State} (hs : s.jobsSound) (h : t.tables = s.tables) : t.jobsSound :=
  hs.congr (State.jobs_of_tables h)

theorem putJob {s : State} (hs : s.jobsSound) {j k : Job} (hj : j ∈ s.jobs) (hk : k.Succeeds j s.jobs) :
    (s.putJob k).jobsSound := jobsFit.replace hs hj hk

/-- The same where the record keeps its job's state. -/
theorem putJob_sameState {s : State} (hs : s.jobsSound) {j k : Job} (hj : j ∈ s.jobs) (ht : k.tag = j.tag)
    (hp : k.press = j.press) (hk : k.kind = j.kind) (hst : k.state = j.state) : (s.putJob k).jobsSound :=
  hs.putJob hj ⟨ht, hp, hk, .inl hst⟩

theorem filterJobs {s t : State} (hs : s.jobsSound) {f : Job → Bool} (h : t.jobs = s.jobs.filter f) : t.jobsSound := by
  rw [State.jobsSound_iff, h]
  exact jobsFit.sublist hs List.filter_sublist

theorem suspend {s : State} (hs : s.jobsSound) {j : Job} (ha : s.activeJob = some j) (hn : s.suspendedJob = none) :
    (s.suspend j).jobsSound := by
  have hput : (s.putJob { j with state := .suspended }).jobsSound := hs.putJob (State.activeJob_mem ha).1
    ⟨rfl, rfl, rfl, .inr (.inr (.inr (State.suspendedJob_eq_none.1 hn)))⟩
  exact hput.congr rfl

theorem examineProof {s : State} (hs : s.jobsSound) : s.examineProof.jobsSound := by
  obtain h | ⟨j, ha, -, hn, h⟩ := s.examineProof_cases
  · rwa [h]
  · rw [h]
    exact hs.suspend ha hn

theorem recheckWait {s : State} (hs : s.jobsSound) : s.recheckWait.jobsSound := hs.examineProof

theorem startStall {s : State} (hs : s.jobsSound) : s.startStall.jobsSound := hs.congr s.startStall_jobs

theorem stallExpiry {s : State} (hs : s.jobsSound) : s.stallExpiry.jobsSound := by
  unfold State.stallExpiry
  split
  · exact hs
  rename_i j ha
  split
  · exact hs
  split
  · rename_i h
    obtain ⟨-, -, hn, -⟩ := h
    exact hs.suspend ha hn
  · exact hs

theorem endJob {s : State} (hs : s.jobsSound) (j : Job) (notice : Notice) : (s.endJob j notice).jobsSound :=
  hs.filterJobs (s.endJob_jobs j notice)

/-! ### Reports for a job (R134 to R137, R150) -/

theorem takeConfirmation {s : State} (hs : s.jobsSound) (tag : Nat) : (s.takeConfirmation tag).jobsSound := by
  unfold State.takeConfirmation
  split
  · exact hs
  rename_i j hj
  have hput : (s.putJob { j with done := j.done + 1, spoils := 0 }).jobsSound :=
    hs.putJob_sameState (State.reportJob_mem hj).1 rfl rfl rfl rfl
  dsimp only
  split
  · exact hput.endJob _ _
  · exact hput

theorem rewindJob {s : State} (hs : s.jobsSound) {j : Job} (hj : j ∈ s.jobs) (copy : Nat) :
    (s.rewindJob j copy).jobsSound := by
  have hput : (s.putJob { j with resumeCopy := copy, resumeBand := 0, rewind := none }).jobsSound :=
    hs.putJob_sameState hj rfl rfl rfl rfl
  unfold State.rewindJob
  split
  · split
    · exact hs.putJob_sameState hj rfl rfl rfl rfl
    · exact hput.examineProof
  · exact jobsFit.moveToHead hs hj ⟨rfl, rfl, rfl, .inr (.inl rfl)⟩
  · exact hput

theorem abortJob {s : State} (hs : s.jobsSound) {j : Job} (hj : j ∈ s.jobs) : (s.abortJob j).jobsSound := by
  unfold State.abortJob
  split
  · exact hs.putJob_sameState hj rfl rfl rfl rfl
  · exact (hs.putJob_sameState hj rfl rfl rfl rfl).endJob _ _

theorem takeSpoil {s : State} (hs : s.jobsSound) (q : Press) (tag copy : Nat) (counted : Bool) :
    (s.takeSpoil q tag copy counted).jobsSound := by
  unfold State.takeSpoil
  split
  · exact hs
  rename_i j hj
  obtain ⟨hmem, -⟩ := State.reportJob_mem hj
  have hspoiled : (s.putJob (j.spoiled counted)).jobsSound := hs.putJob_sameState hmem rfl rfl rfl rfl
  have hin : j.spoiled counted ∈ (s.putJob (j.spoiled counted)).jobs := State.mem_putJob_self hmem rfl
  have hstep {u : State} (hu : u.jobs = (s.putJob (j.spoiled counted)).jobs) :
      (if counted = true ∧ 3 ≤ (j.spoiled counted).spoils then u.abortJob (j.spoiled counted)
        else u.rewindJob (j.spoiled counted) copy).jobsSound := by
    have hin : j.spoiled counted ∈ u.jobs := hu ▸ hin
    split
    · exact (hspoiled.congr hu).abortJob hin
    · exact (hspoiled.congr hu).rewindJob hin copy
  cases counted <;> exact hstep rfl

theorem linkSpoil {s : State} (hs : s.jobsSound) (q : Press) (tag copy : Nat) : (s.linkSpoil q tag copy).jobsSound :=
  (hs.of_tables (by simp)).takeSpoil q tag copy true

theorem spoilTransmission {s : State} (hs : s.jobsSound) (q : Press) : (s.spoilTransmission q).jobsSound := by
  unfold State.spoilTransmission
  split
  · exact hs
  · exact hs.linkSpoil q _ _

/-! ### The renderer and the placement unit -/

theorem grantJob {s : State} (hs : s.jobsSound) {j : Job} (hj : j ∈ s.jobs) (ha : s.activeJob = none) :
    (s.grantJob j).jobsSound := by
  have hact := s.activateSheet_jobs j
  have hput : ((s.activateSheet j).putJob { j with state := .active, started := true }).jobsSound :=
    (hs.congr hact).putJob (j := j) (hact ▸ hj)
      ⟨rfl, rfl, rfl, .inr (.inr (.inr (hact ▸ State.activeJob_eq_none.1 ha)))⟩
  exact hput.congr rfl

theorem advance {s : State} (hs : s.jobsSound) {j : Job} (hj : j ∈ s.jobs) (b : BandInProduction) :
    (s.advance j b).jobsSound := by
  unfold State.advance
  split
  · exact (hs.putJob_sameState hj (by exact rfl) (by exact rfl) (by exact rfl) (by exact rfl)).startStall
  split
  · exact (hs.putJob_sameState hj (by exact rfl) (by exact rfl) (by exact rfl) (by exact rfl)).examineProof.startStall
  · exact hs.putJob hj ⟨rfl, rfl, rfl, .inr (.inr (.inl rfl))⟩

theorem takeRewind {s : State} (hs : s.jobsSound) {j : Job} (hj : j ∈ s.jobs) (b : BandInProduction) (copy : Nat) :
    (s.takeRewind j b copy).jobsSound := by
  obtain ⟨t, ht⟩ : ∃ t, (if copy ≤ b.copy then s else s.frameJoins j b) = t := ⟨_, rfl⟩
  have htj : t.jobs = s.jobs := by
    rw [← ht]
    split
    · rfl
    · exact s.frameJoins_jobs j b
  unfold State.takeRewind
  rw [ht]
  exact ((hs.congr htj).putJob_sameState (htj ▸ hj) (by exact rfl) (by exact rfl) (by exact rfl)
    (by exact rfl)).examineProof.startStall

theorem dropRunJob {s : State} (hs : s.jobsSound) (i : Nat) : (s.dropRunJob i).jobsSound := by
  unfold State.dropRunJob
  split
  · exact hs
  split
  · exact hs
  · exact hs.filterJobs rfl

theorem acceptCompletion {s : State} (hs : s.jobsSound) (u : InProgress) : (s.acceptCompletion u).jobsSound := by
  unfold State.acceptCompletion
  split
  · exact hs
  split
  · split
    · exact hs.congr rfl
    · refine dropRunJob (hs.congr ?_) _
      rfl
  · exact hs

/-! ### The presses -/

theorem loseLock {s : State} (hs : s.jobsSound) (q : Press) : (s.loseLock q).jobsSound :=
  (hs.of_tables (by simp)).spoilTransmission q

theorem judgeReport {s : State} (hs : s.jobsSound) (q : Press) (found stray : Bool) (x : Int) :
    (s.judgeReport q found stray x).jobsSound := by
  unfold State.judgeReport
  split
  · exact hs
  · exact hs.of_tables (by simp)
  · exact hs.of_tables (by simp)
  · simp only [State.judgeHold]
    split
    · exact hs.congr rfl
    split
    · exact hs.of_tables (by simp)
    split
    · exact hs.of_tables (by simp)
    · exact (hs.of_tables (by simp)).loseLock q

theorem takeMarkReport {s : State} (hs : s.jobsSound) (q : Press) (found stray : Bool) (x : BitVec 12) :
    (s.takeMarkReport q found stray x).jobsSound := by
  unfold State.takeMarkReport
  split
  · exact (((hs.judgeReport q found stray _).spoilTransmission q).of_tables (State.setLink_tables ..)).recheckWait
  · exact hs

theorem answerLater {s : State} (hs : s.jobsSound) (q : Press) : (s.answerLater q).jobsSound := by
  simp only [State.answerLater]
  split
  · exact hs.congr rfl
  split
  · exact hs.of_tables (by simp)
  · exact (hs.of_tables (State.setLink_tables ..)).linkSpoil q _ _

theorem takeFrameRequest {s : State} (hs : s.jobsSound) (q : Press) : (s.takeFrameRequest q).jobsSound := by
  unfold State.takeFrameRequest
  split
  · split
    · exact hs.congr rfl
    · refine recheckWait ?_
      simp only [State.answerRequest]
      split
      · exact hs.of_tables (by simp)
      · exact (hs.of_tables (State.setLink_tables ..)).answerLater q
  · exact hs

theorem judgeStatus {s : State} (hs : s.jobsSound) (q : Press) (a : Attempt) (e : Bool) : (s.judgeStatus q a e).jobsSound := by
  simp only [State.judgeStatus]
  split
  · split
    · exact hs.of_tables (by simp)
    · exact (hs.of_tables (by simp)).linkSpoil q _ _
  split
  · exact (hs.of_tables (by simp)).takeConfirmation _
  · exact hs

theorem takeStatusReport {s : State} (hs : s.jobsSound) (q : Press) (e : Bool) : (s.takeStatusReport q e).jobsSound := by
  unfold State.takeStatusReport
  split
  · split
    · exact hs
    · exact (((hs.of_tables (State.setLink_tables ..)).judgeStatus q _ e).of_tables
        (State.dropReported_tables ..)).recheckWait
  · exact hs

theorem goOffline {s : State} (hs : s.jobsSound) (q : Press) : (s.goOffline q).jobsSound := by
  have hfold : ((distinct ((s.link q).unconfirmed.map (·.1))).foldl
      (fun t tag => t.takeSpoil q tag (lowestCopy (s.link q).unconfirmed tag) false) s).jobsSound :=
    List.foldlRecOn (motive := State.jobsSound) _ _ hs fun t ht tag _ => ht.takeSpoil q tag _ false
  exact (hfold.of_tables (by simp)).recheckWait

theorem takeReturnWord {s : State} (hs : s.jobsSound) (q : Press) (w : Word32) : (s.takeReturnWord q w).jobsSound := by
  unfold State.takeReturnWord
  split
  · exact hs
  · exact hs.takeFrameRequest q
  · exact hs.takeMarkReport q _ _ _
  · exact hs.takeStatusReport q _

/-! ### The print rows -/

/-- A job joins a collection with a place for it, under the tag that no job has (R118 to R121). -/
theorem submit {s : State} (hs : s.jobsSound) (p : Port) (i : Nat) (sh : Sheet) (q : Press) (k : JobKind) (copies : Nat)
    (hroom : (s.collection q k).length < collectionPlaces k) : (s.submit p i sh q k copies).jobsSound := by
  have hfew : s.jobs.length < 4094 := (jobsFit.length_le hs).trans_lt (by decide)
  exact jobsFit.append hs (State.jobOf_eq_none.1 (State.jobOf_nextTag hfew)) rfl hroom

theorem submitRun {s : State} (hs : s.jobsSound) (p : Port) (i press copies : Nat) :
    (submitRun p i press copies s).1.jobsSound := by
  unfold Machine.submitRun
  split
  · exact hs
  split
  · exact hs
  split
  · exact hs
  split
  · exact hs
  split
  · exact hs
  split
  · exact hs
  · rename_i hroom
    exact hs.submit p i _ _ .run _ (not_not.1 hroom)

theorem submitProof {s : State} (hs : s.jobsSound) (p : Port) (i press : Nat) : (submitProof p i press s).1.jobsSound := by
  unfold Machine.submitProof
  split
  · exact hs
  split
  · exact hs
  split
  · exact hs
  split
  · exact hs
  split
  · exact hs
  · rename_i hroom
    exact (hs.submit p i _ _ .proof _ (not_not.1 hroom)).recheckWait

theorem cancelJob {s : State} (hs : s.jobsSound) (tag : Nat) : (cancelJob tag s).1.jobsSound := by
  unfold Machine.cancelJob
  split
  · exact hs
  split
  · exact hs
  rename_i j hj
  split
  · exact hs
  split
  · exact hs.putJob_sameState (State.jobOf_mem hj).1 rfl rfl rfl rfl
  · exact (hs.endJob j _).recheckWait

theorem forceResync {s : State} (hs : s.jobsSound) (press : Nat) : (forceResync press s).1.jobsSound := by
  unfold Machine.forceResync
  split
  · exact hs
  split
  · exact hs
  · exact (hs.loseLock _).recheckWait
  · exact hs.congr rfl

end State.jobsSound

end Sys2Proof.Machine
end

section
/-! Every command keeps the job table sound: the commands that leave the jobs, and those that move them. -/

namespace Sys2Proof.Machine

open Sys2Proof

/-! ### The commands that leave the jobs -/

/-- Where an outcome goes on, the jobs are those of before. -/
def State.LeavesJobs (s : State) (o : Host.Outcome State Fault Refusal) : Prop := ∀ t, o = .next t → t.jobs = s.jobs

namespace State.LeavesJobs

theorem next {s t : State} (h : t.jobs = s.jobs) : s.LeavesJobs (.next t) := by
  intro u hu
  cases hu
  exact h

theorem serve {s : State} {p : Port} {row : Option Request → Option Effect}
    (h : ∀ g r op, row r = some op → (op g).1.jobs = g.jobs) : s.LeavesJobs (.next (s.serve p row)) := by
  refine next ?_
  unfold State.serve
  split
  · rfl
  rename_i g r hg
  split
  · rfl
  · rename_i op hop
    rw [State.finish_jobs, h g _ op hop]
    exact State.jobs_of_tables (State.grantDesk_tables hg)

end State.LeavesJobs

section
variable (s : State)

theorem State.imageRefuseLatch_jobs (r : Reason) (i : Option Nat) : (s.imageRefuseLatch r i).jobs = s.jobs :=
  State.jobs_of_tables (s.imageRefuseLatch_tables r i)

theorem State.refuseLoad_jobs (r : Reason) : (s.refuseLoad r).jobs = s.jobs := State.imageRefuseLatch_jobs ..

theorem State.abortReply_jobs : s.abortReply.jobs = s.jobs := State.jobs_of_tables s.abortReply_tables

theorem State.loadTimeout_jobs : s.loadTimeout.jobs = s.jobs := by simp [State.loadTimeout, State.dropLoad, State.imageIdle]

theorem State.headerGrant_jobs : s.headerGrant.jobs = s.jobs := by
  unfold State.headerGrant
  split
  · rfl
  split
  · exact State.imageRefuseLatch_jobs ..
  · rfl

theorem State.takeEndMark_jobs (check : Word32) : (s.takeEndMark check).jobs = s.jobs := by
  unfold State.takeEndMark
  split
  · exact State.jobs_of_tables (s.imageRefuse_tables _)
  · exact State.jobs_of_tables (s.imageRefuse_tables _)
  · rfl
  · split
    · rfl
    split
    · exact s.refuseLoad_jobs _
    · rfl

theorem State.staleAll_jobs (set : List Nat) : (s.staleAll set).jobs = s.jobs := by
  obtain ⟨-, -, -, -, -, -, -, h, -⟩ := s.staleAll_keeps set
  exact h

/-- A commit stales sheets, and staling leaves the jobs (R18, R73). -/
theorem State.commitLoad_jobs (r : LoadRecord) : (s.commitLoad r).jobs = s.jobs := by
  rw [State.commitLoad_eq]
  exact (State.raise_jobs ..).trans (State.staleAll_jobs ..)

theorem State.endMarkGrant_jobs : s.endMarkGrant.jobs = s.jobs := by
  unfold State.endMarkGrant
  split
  · rfl
  split
  · exact s.refuseLoad_jobs _
  split
  · split
    · exact s.refuseLoad_jobs _
    · exact s.commitLoad_jobs _
  · exact State.raise_jobs ..

theorem State.takeAbort_jobs : s.takeAbort.jobs = s.jobs := by
  unfold State.takeAbort
  split
  · rfl
  all_goals exact State.abortReply_jobs _

theorem State.takeTransfer_jobs (words : List Word32) : (s.takeTransfer words).jobs = s.jobs := by
  unfold State.takeTransfer
  split
  · exact State.jobs_of_tables (State.takePayloadTransfer_tables ..)
  · split
    · exact s.takeEndMark_jobs _
    · rfl
  · exact s.takeAbort_jobs
  · exact State.jobs_of_tables (s.takeHeader_tables words)

theorem approveSheet_jobs (i epoch : Nat) : (approveSheet i epoch s).1.jobs = s.jobs := by
  unfold approveSheet
  split
  · rfl
  split
  · rfl
  split
  · rfl
  split
  · rfl
  · rw [State.mapPortraits_eq, State.setSheet_jobs]

theorem unlockSheet_jobs (i : Nat) : (unlockSheet i s).1.jobs = s.jobs := by
  unfold unlockSheet
  split
  · rfl
  split
  · rfl
  · rw [State.examine_jobs, State.mapPortraits_eq, State.setSheet_jobs]

theorem reservePortrait_jobs (i : Nat) : (reservePortrait i s).1.jobs = s.jobs := by
  unfold reservePortrait
  split
  · rfl
  split <;> rfl

theorem releasePortrait_jobs (i : Nat) : (releasePortrait i s).1.jobs = s.jobs := by
  unfold releasePortrait
  split
  · rfl
  split
  · rfl
  split <;> rfl

theorem setFaceBox_jobs (i : Nat) (face : FaceBox) : (setFaceBox i face s).1.jobs = s.jobs := by
  unfold setFaceBox
  split
  · rfl
  split
  · rfl
  split
  · rfl
  split
  · rfl
  split
  · rfl
  split
  · rfl
  · exact State.staleAll_jobs ..

end

/-- The book and roster rows. -/
theorem execBookRow_leavesJobs {s : State} {c : Instr} {p : Port}
    (hc : c ∈ [.openBook p, .setBook p, .closeBook p, .addSection p, .setSection p, .dropSection p, .addSheet p, .dropSheet p,
      .setLayout p, .addEntry p, .dropEntry p, .editEntryName p, .editEntryRole p, .editEntryStatus p, .editEntryPortrait p,
      .moveEntry p, .swapPortraits p]) : s.LeavesJobs (exec c s) := by
  intro t ht
  obtain ⟨-, hjobs, -⟩ := State.apart_eq_iff.1 (exec_bookRow_apart hc ht)
  exact hjobs

/-- The READ rows, and the rows that touch a port's notices and mask alone. -/
theorem execReadRow_leavesJobs {s : State} {c : Instr} {p : Port}
    (hc : c ∈ [.readBook p, .readSection p, .readSheet p, .readEntry p, .readRosterIndex p, .readPortrait p, .readImagePort p,
      .readPlacementUnit p, .readPlacementResult p, .readTile p, .readJob p, .readPressJobCollections p, .readRenderer p,
      .readPressLink p, .readDeskPort p, .readArbiter p, .readCounters p, .readSettingsPort p, .readNotices p,
      .setNoticeMask p, .unknownRequestCode p]) : s.LeavesJobs (exec c s) := by
  intro t ht
  obtain ⟨hrest, -⟩ := State.offDesk_eq_iff.1 (exec_readRow_offDesk hc ht)
  have hjobs := congrArg State.jobs hrest
  exact hjobs

/-- The rows of approval and of portraits, and those of the arbiter, the counters, the press settings and the settings image. -/
theorem execTableRow_leavesJobs {s : State} {c : Instr} {p : Port}
    (hc : c ∈ [.approveSheet p, .unlockSheet p, .reservePortrait p, .releasePortrait p, .setFaceBox p, .setArbiter p,
      .clearCounters p, .setPress p, .saveSettings p]) : s.LeavesJobs (exec c s) := by
  simp only [List.mem_cons, List.not_mem_nil, or_false] at hc
  rcases hc with rfl | rfl | rfl | rfl | rfl | rfl | rfl | rfl | rfl <;>
    refine State.LeavesJobs.serve fun g r op hr => ?_ <;> split at hr <;> cases hr
  · exact approveSheet_jobs ..
  · exact unlockSheet_jobs ..
  · exact reservePortrait_jobs ..
  · exact releasePortrait_jobs ..
  · exact setFaceBox_jobs ..
  · exact State.jobs_of_tables (setArbiter_tables ..)
  · exact State.jobs_of_tables (clearCounters_tables ..)
  · exact State.jobs_of_tables (setPress_tables ..)
  · unfold saveSettings
    split <;> rfl

/-- The desk lines and the settings image. -/
theorem execLine_leavesJobs {s : State} {c : Instr} {p : Port}
    (hc : (∃ bytes, c = .requestFrame p bytes) ∨ (∃ image, c = .settingsLoadComplete image) ∨
      (∃ readBack, c = .settingsSaveComplete readBack) ∨
      c ∈ [.requestFrameStart p, .replyFrameSent p, .lineBreak p, .breakEnd p]) : s.LeavesJobs (exec c s) := by
  simp only [List.mem_cons, List.not_mem_nil, or_false] at hc
  rcases hc with ⟨bytes, rfl⟩ | ⟨image, rfl⟩ | ⟨readBack, rfl⟩ | rfl | rfl | rfl | rfl <;> simp only [exec]
  · unfold execRequestFrame
    split
    · exact .next rfl
    · split <;> exact .next (State.jobs_of_tables (by simp))
  · unfold execSettingsLoadComplete
    split
    · exact .next (State.jobs_of_tables (by simp))
    · exact .next rfl
  · unfold execSettingsSaveComplete
    split <;> exact .next rfl
  · unfold execRequestFrameStart
    split <;> exact .next rfl
  · exact .next rfl
  · unfold execLineBreak
    split <;> exact .next rfl
  · unfold execBreakEnd
    split <;> exact .next rfl

/-- The image port, and what the placement unit takes. -/
theorem execImage_leavesJobs {s : State} {c : Instr}
    (hc : (∃ words, c = .imageHeader words) ∨ (∃ n words, c = .imagePayload n words) ∨ (∃ check, c = .imageEndMark check) ∨
      c ∈ [.imageHeaderGrant, .imageEndMarkGrant, .imageAbort, .loadTimerExpiry, .placementTake]) :
    s.LeavesJobs (exec c s) := by
  simp only [List.mem_cons, List.not_mem_nil, or_false] at hc
  rcases hc with ⟨words, rfl⟩ | ⟨n, words, rfl⟩ | ⟨check, rfl⟩ | rfl | rfl | rfl | rfl | rfl <;> simp only [exec]
  · exact .next (s.takeTransfer_jobs words)
  · exact .next (State.jobs_of_tables (State.takePayloadTransfer_tables ..))
  · exact .next (s.takeEndMark_jobs check)
  · unfold execImageHeaderGrant
    split
    · split
      · rename_i g hg
        exact .next (g.headerGrant_jobs.trans (State.jobs_of_tables (State.grantImage_tables hg)))
      · exact .next rfl
    · exact .next rfl
  · unfold execImageEndMarkGrant
    split
    · split
      · rename_i g hg
        exact .next (g.endMarkGrant_jobs.trans (State.jobs_of_tables (State.grantImage_tables hg)))
      · exact .next rfl
    · exact .next rfl
  · exact .next s.takeAbort_jobs
  · unfold execLoadTimerExpiry
    split
    · exact .next s.loadTimeout_jobs
    · exact .next rfl
  · unfold execPlacementTake
    split
    · split <;> exact .next rfl
    · exact .next rfl

/-! ### The commands that move them -/

/-- Where an outcome goes on, the job table is sound if it was. -/
def State.KeepsJobs (s : State) (o : Host.Outcome State Fault Refusal) : Prop :=
  ∀ t, o = .next t → s.jobsSound → t.jobsSound

namespace State.KeepsJobs

theorem next {s t : State} (h : s.jobsSound → t.jobsSound) : s.KeepsJobs (.next t) := by
  intro u hu
  cases hu
  exact h

theorem of_leaves {s : State} {o : Host.Outcome State Fault Refusal} (h : s.LeavesJobs o) : s.KeepsJobs o :=
  fun t ht hs => hs.congr (h t ht)

theorem serve {s : State} {p : Port} {row : Option Request → Option Effect}
    (h : ∀ g r op, row r = some op → g.jobsSound → (op g).1.jobsSound) : s.KeepsJobs (.next (s.serve p row)) := by
  refine next fun hs => ?_
  unfold State.serve
  split
  · exact hs
  rename_i g r hg
  split
  · exact hs
  · rename_i op hop
    exact (h g _ op hop (hs.of_tables (State.grantDesk_tables hg))).of_tables (State.finish_tables ..)

end State.KeepsJobs

/-- The rows of jobs, and FORCE RESYNC (R118 to R124, R163). -/
theorem execJobRow_keepsJobs {s : State} {c : Instr} {p : Port}
    (hc : c ∈ [.submitRun p, .submitProof p, .cancelJob p, .forceResync p]) : s.KeepsJobs (exec c s) := by
  simp only [List.mem_cons, List.not_mem_nil, or_false] at hc
  rcases hc with rfl | rfl | rfl | rfl <;> refine State.KeepsJobs.serve fun g r op hr hg => ?_ <;> split at hr <;> cases hr
  · exact hg.submitRun ..
  · exact hg.submitProof ..
  · exact hg.cancelJob _
  · exact hg.forceResync _

/-- The renderer and the completion of a placement (R20, R126 to R129, R133). -/
theorem execRenderer_keepsJobs {s : State} {c : Instr} (hc : c = .placementCompletion ∨ Instr.ofRenderer c) :
    s.KeepsJobs (exec c s) := by
  rcases hc with rfl | rfl | rfl | rfl | rfl <;> simp only [exec]
  · unfold execPlacementCompletion
    split
    · exact .next id
    · refine .next fun hs => (State.jobsSound.acceptCompletion ?_ _).recheckWait
      exact hs
  · unfold execRendererGrant
    split
    · rename_i j ha hj
      exact .next fun hs => (hs.grantJob (State.grantOrder_mem hj) ha).examineProof.startStall
    · exact .next id
  · unfold execBandBegin
    split
    · split <;> exact .next id
    · exact .next id
  · unfold execBandCompletion
    split
    · rename_i j b ha _
      obtain ⟨hmem, -⟩ := State.activeJob_mem ha
      have hclear (hs : s.jobsSound) : s.clearBand.jobsSound := hs
      split
      · exact .next fun hs => (hclear hs).endJob _ _
      split
      · exact .next fun hs => (hclear hs).takeRewind hmem b _
      · have hjoins := s.clearBand.frameJoins_jobs j b
        exact .next fun hs => State.jobsSound.advance ((hclear hs).congr hjoins) (hjoins ▸ hmem) b
    · exact .next id
  · unfold execStallTimerExpiry
    split
    · exact .next State.jobsSound.stallExpiry
    · exact .next id

/-- The presses (R144 to R154). -/
theorem execPress_keepsJobs {s : State} {c : Instr} {q : Press} (hc : Instr.ofPress c q) : s.KeepsJobs (exec c s) := by
  rcases hc with ⟨f, x, o, rfl⟩ | rfl | ⟨e, rfl⟩ | rfl | rfl | ⟨w, rfl⟩ <;> simp only [exec]
  · exact .next fun hs => hs.takeMarkReport q f x o
  · exact .next fun hs => hs.takeFrameRequest q
  · exact .next fun hs => hs.takeStatusReport q e
  · unfold execOnlineFall
    split
    · exact .next fun hs => hs.goOffline q
    · exact .next id
  · unfold execOnlineRise
    split <;> exact .next id
  · exact .next fun hs => hs.takeReturnWord q w

/-- Every command keeps the job table sound. -/
theorem exec_keepsJobs (c : Instr) (s : State) : s.KeepsJobs (exec c s) := by
  cases c with
  | submitRun p | submitProof p | cancelJob p | forceResync p => exact execJobRow_keepsJobs (p := p) (by simp)
  | placementCompletion | rendererGrant | bandBegin | bandCompletion | stallTimerExpiry =>
    exact execRenderer_keepsJobs (by simp [Instr.ofRenderer])
  | markReport q _ _ _ | frameRequest q | statusReport q _ | onlineFall q | onlineRise q | badReturnWord q _ =>
    exact execPress_keepsJobs (q := q) (by simp [Instr.ofPress])
  | reset => exact .next fun _ => State.jobsSound_resetWith (s.ports.map (·.breakLevel)) ⟨(s.link .a).onlineLine, (s.link .b).onlineLine⟩
  | imageHeader _ | imagePayload _ _ | imageEndMark _ | imageHeaderGrant | imageEndMarkGrant | imageAbort | loadTimerExpiry
  | placementTake => exact .of_leaves (execImage_leavesJobs (by simp))
  | requestFrame p _ | requestFrameStart p | replyFrameSent p | lineBreak p | breakEnd p =>
    exact .of_leaves (execLine_leavesJobs (p := p) (by simp))
  | settingsLoadComplete _ | settingsSaveComplete _ => exact .of_leaves (execLine_leavesJobs (p := .dp0) (by simp))
  | approveSheet p | unlockSheet p | reservePortrait p | releasePortrait p | setFaceBox p | setArbiter p | clearCounters p
  | setPress p | saveSettings p => exact .of_leaves (execTableRow_leavesJobs (p := p) (by simp))
  | openBook p | setBook p | closeBook p | addSection p | setSection p | dropSection p | addSheet p | dropSheet p
  | setLayout p | addEntry p | dropEntry p | editEntryName p | editEntryRole p | editEntryStatus p | editEntryPortrait p
  | moveEntry p | swapPortraits p =>
    exact .of_leaves (execBookRow_leavesJobs (p := p) (by simp))
  | readBook p | readSection p | readSheet p | readEntry p | readRosterIndex p | readPortrait p | readImagePort p
  | readPlacementUnit p | readPlacementResult p | readTile p | readJob p | readPressJobCollections p | readRenderer p
  | readPressLink p | readDeskPort p | readArbiter p | readCounters p | readSettingsPort p | readNotices p
  | setNoticeMask p | unknownRequestCode p =>
    exact .of_leaves (execReadRow_leavesJobs (p := p) (by simp))

/-- An idle millisecond may end the stall timer, and moves no job otherwise (R129). -/
theorem State.jobsSound.tick {s : State} (hs : s.jobsSound) : s.tick.jobsSound := by
  have hload : s.tickLoad.jobs = s.jobs := by
    unfold State.tickLoad
    split
    · rfl
    split
    · exact s.loadTimeout_jobs
    · rfl
  have hstall {t : State} (ht : t.jobsSound) : t.tickStall.jobsSound := by
    unfold State.tickStall
    split
    · exact ht
    split
    · exact ht.stallExpiry
    · exact ht
  exact (hstall (hs.congr hload)).of_tables (State.tickArbiter_tables _)

/-- Settles O57, command by command: what a command makes of the job table's records. -/
theorem everyStepKeepsTheJobsSound : Obligations.EveryStepKeepsTheJobsSound := by
  unfold Obligations.EveryStepKeepsTheJobsSound
  intro s t hs h
  unfold step at h
  split at h
  · cases h
    exact hs.tick
  · exact exec_keepsJobs _ _ t h hs

end Sys2Proof.Machine
end

section
/-! Records of the job table: what a stored record leaves, and the ACTIVE and SUSPENDED job that then stand (R119, R126, R130). -/

namespace Sys2Proof.Machine

open Sys2Proof

/-- A record stored over another of its tag stands alone. -/
theorem State.putJob_putJob (s : State) {k k' : Job} (h : k'.tag = k.tag) : (s.putJob k).putJob k' = s.putJob k' := by
  simp only [State.putJob, List.map_map]
  congr 1
  refine List.map_congr_left fun x _ => ?_
  by_cases hx : x.tag = k.tag <;> simp [hx, h]

/-- Where the records of a tag are replaced the other jobs are left. -/
theorem filter_replace (l : List Job) (k : Job) :
    (l.map (fun x => if x.tag = k.tag then k else x)).filter (fun x => decide (x.tag ≠ k.tag)) =
      l.filter (fun x => decide (x.tag ≠ k.tag)) := by
  induction l with
  | nil => rfl
  | cons x l ih => by_cases hx : x.tag = k.tag <;> simp_all

theorem State.filter_putJob (s : State) (k : Job) :
    (s.putJob k).jobs.filter (fun x => decide (x.tag ≠ k.tag)) = s.jobs.filter (fun x => decide (x.tag ≠ k.tag)) :=
  filter_replace s.jobs k

/-- A record of the tag in the table after a store is the record stored. -/
theorem State.eq_of_mem_putJob {s : State} {k x : Job} (h : x ∈ (s.putJob k).jobs) (ht : x.tag = k.tag) : x = k :=
  (State.mem_putJob h).resolve_right fun ⟨_, hne⟩ => hne ht

/-- An ACTIVE record stored for the ACTIVE job, or with none ACTIVE for any job, is the ACTIVE job's. -/
theorem State.activeJob_putJob {s : State} {j k : Job} (hj : j ∈ s.jobs) (ht : k.tag = j.tag) (hk : k.state = .active)
    (ha : ∀ a, s.activeJob = some a → a = j) : (s.putJob k).activeJob = some k := by
  have hfound : ∃ x, s.jobs.find? (fun x => decide ((if x.tag = k.tag then k else x).state = .active)) = some x := by
    refine Option.isSome_iff_exists.1 (List.find?_isSome.2 ⟨j, hj, ?_⟩)
    simp [ht, hk]
  obtain ⟨x, hx⟩ := hfound
  have hput : (s.putJob k).activeJob = some (if x.tag = k.tag then k else x) := by
    rw [State.activeJob, State.putJob, List.find?_map, Function.comp_def, hx, Option.map_some]
  rw [hput]
  obtain ⟨hactive, before, after, hl, hbefore⟩ := List.find?_eq_some_iff_append.1 hx
  by_cases hxt : x.tag = k.tag
  · rw [if_pos hxt]
  · rw [if_neg hxt] at hactive ⊢
    have hxa : s.activeJob = some x := by
      refine List.find?_eq_some_iff_append.2 ⟨hactive, before, after, hl, fun y hy => ?_⟩
      have hy := hbefore y hy
      by_cases hyt : y.tag = k.tag
      · simp [hyt, hk] at hy
      · rwa [if_neg hyt] at hy
    exact absurd (ha x hxa ▸ ht.symm) hxt

/-- With no SUSPENDED job after a store, only the job of the record may have been SUSPENDED. -/
theorem State.suspended_of_putJob {s : State} {k : Job} (h : (s.putJob k).suspendedJob = none) :
    ∀ x ∈ s.jobs, x.state = .suspended → x.tag = k.tag := by
  intro x hx hst
  by_contra hne
  exact State.suspendedJob_eq_none.1 h x (List.mem_map.2 ⟨x, hx, if_neg hne⟩) hst

/-- The stall timer starts where the ACTIVE job waits for room with no band in production (R129). -/
theorem State.startStall_of_active {s : State} {j : Job} (ha : s.activeJob = some j) (hb : s.renderer.band = none) :
    s.startStall = { s with renderer := { s.renderer with
      stallTimer := if s.hasRoom j.press = true ∨ s.renderer.stallTimer.isSome then s.renderer.stallTimer
        else some s.renderer.stallWindow } } := by
  unfold State.startStall
  by_cases h : s.hasRoom j.press = true ∨ s.renderer.stallTimer.isSome
  · rw [if_pos h]
    split
    · rename_i a hj _ hst
      obtain rfl : j = a := Option.some.inj (ha.symm.trans hj)
      rw [if_pos (h.resolve_right (by simp [hst]))]
    · rfl
  · obtain ⟨hroom, hst⟩ := not_or.1 h
    have hst : s.renderer.stallTimer = none := by simpa using hst
    simp only [ha, hb, hst, if_neg hroom]
    simp [hroom]

/-- Where no proof can be granted the proof suspension is not met (R130). -/
theorem State.examineProof_of_noProof {s : State} (h : s.proofToGrant = none) : s.examineProof = s := by
  unfold State.examineProof
  split
  · rfl
  · simp [h]

/-- Nor is it met by a PROOF job that is ACTIVE. -/
theorem State.examineProof_of_proof {s : State} {j : Job} (ha : s.activeJob = some j) (hk : j.kind = .proof) :
    s.examineProof = s := by
  unfold State.examineProof
  rw [ha]
  simp [hk]

end Sys2Proof.Machine
end

section
/-! The grant order, and the grant: the theorem that settles O35. -/

namespace Sys2Proof.Machine

open Sys2Proof

/-! ### The grant order (R122, R126) -/

theorem State.hasRoom_iff (s : State) (q : Press) : s.hasRoom q = true ↔ (s.link q).fifo.length < 6 := decide_eq_true_iff

/-- A WAITING job is eligible when it has started or its sheet is in a state for it (R122). -/
theorem State.eligible_iff (s : State) (j : Job) : s.eligible j = true ↔ j.state = .waiting ∧ (j.started = true ∨
    ∃ sh, s.sheet j.sheet = some sh ∧ (sh.state = .placed ∨ j.kind = .proof ∧ sh.state = .held)) := by
  unfold State.eligible
  cases s.sheet j.sheet <;> simp

/-- No PROOF job is eligible with room in its FIFO. -/
theorem State.proofToGrant_eq_none {s : State} : s.proofToGrant = none ↔
    ∀ k ∈ s.jobs, k.kind = .proof → s.eligible k = true → s.hasRoom k.press = false := by
  simp [State.proofToGrant, List.find?_eq_none]

theorem State.proofToGrant_of_split {s : State} {before after : List Job} {j : Job} (hl : s.jobs = before ++ j :: after)
    (hk : j.kind = .proof) (he : s.eligible j = true) (hr : s.hasRoom j.press = true)
    (hb : ∀ k ∈ before, k.kind = .proof → s.eligible k = true → s.hasRoom k.press = false) : s.proofToGrant = some j :=
  List.find?_eq_some_iff_append.2 ⟨by simp [hk, he, hr], before, after, hl, fun k hm => by simpa [or_iff_not_imp_left] using hb k hm⟩

theorem State.proofToGrant_kind {s : State} {j : Job} (h : s.proofToGrant = some j) : j.kind = .proof := by
  have := List.find?_some h
  simp only [Bool.and_eq_true, decide_eq_true_eq] at this
  exact this.1.1

theorem State.oldestRun_eq_some {s : State} {q : Press} {j : Job} : s.oldestRun q = some j ↔ ∃ before after,
    s.jobs = before ++ j :: after ∧ j.kind = .run ∧ j.press = q ∧ s.eligible j = true ∧
      ∀ k ∈ before, k.kind = .run → k.press = q → s.eligible k = false := by
  unfold State.oldestRun
  rw [List.find?_eq_some_iff_append]
  simp only [Bool.and_eq_true, decide_eq_true_eq, Bool.not_eq_true', Bool.and_eq_false_imp]
  constructor
  · rintro ⟨⟨⟨hk, hp⟩, he⟩, before, after, hl, hb⟩
    exact ⟨before, after, hl, hk, hp, he, fun k hm hk hp => hb k hm ⟨hk, hp⟩⟩
  · rintro ⟨before, after, hl, hk, hp, he, hb⟩
    exact ⟨⟨⟨hk, hp⟩, he⟩, before, after, hl, fun k hm hkp => hb k hm hkp.1 hkp.2⟩

theorem State.oldestRun_eq_none {s : State} {q : Press} :
    s.oldestRun q = none ↔ ∀ k ∈ s.jobs, k.kind = .run → k.press = q → s.eligible k = false := by
  simp [State.oldestRun, List.find?_eq_none]

theorem State.resumeToGrant_eq_none {s : State} :
    s.resumeToGrant = none ↔ ∀ j, s.suspendedJob = some j → s.hasRoom j.press = false := by
  simp [State.resumeToGrant, Option.filter_eq_none_iff]

/-- With no PROOF job to grant, the SUSPENDED job comes first, and then the RUN jobs by press (R126). -/
theorem State.grantOrder_of_noProof {s : State} (h : s.proofToGrant = none) :
    (∀ j, s.suspendedJob = some j → s.hasRoom j.press = true → s.grantOrder = some j) ∧
      ((∀ j, s.suspendedJob = some j → s.hasRoom j.press = false) →
        (∀ j, s.oldestRun (otherPress s.renderer.lastServed) = some j → s.grantOrder = some j) ∧
        (s.oldestRun (otherPress s.renderer.lastServed) = none → s.grantOrder = s.oldestRun s.renderer.lastServed)) := by
  refine ⟨fun j hj hr => ?_, fun hn => ⟨fun j hj => ?_, fun hj => ?_⟩⟩
  · simp [State.grantOrder, h, State.resumeToGrant, hj, hr]
  · simp [State.grantOrder, h, State.resumeToGrant_eq_none.2 hn, hj]
  · simp [State.grantOrder, h, State.resumeToGrant_eq_none.2 hn, hj]

/-! ### The grant (R126, R127, R129) -/

theorem exec_rendererGrant_ignored {s : State} (h : s.activeJob.isSome ∨ s.grantOrder = none) :
    exec .rendererGrant s = .next s := by
  have hexec : exec .rendererGrant s = execRendererGrant s := rfl
  rw [hexec, execRendererGrant]
  rcases h with h | h
  · obtain ⟨a, ha⟩ := Option.isSome_iff_exists.1 h
    simp only [ha]
  · simp only [h]
    cases s.activeJob <;> rfl

/-- The pins of a sheet raise each portrait's count by its tiles (R62). -/
theorem State.portrait_pin (s : State) (l : List Nat) (q : Nat) :
    (s.pin l).portrait q = { s.portrait q with pinCount := (s.portrait q).pinCount + l.count q } := by
  induction l generalizing s with
  | nil => rfl
  | cons a l ih =>
    have hcons : s.pin (a :: l) = (s.mapPortrait a fun r => { r with pinCount := r.pinCount + 1 }).pin l := rfl
    rw [hcons, ih, State.portrait_mapPortrait, List.count_cons]
    by_cases hq : q = a
    · subst hq
      simp [Nat.add_assoc, Nat.add_comm]
    · simp [hq, Ne.symm hq]

section
variable {s : State} {j : Job} {sh : Sheet}

/-- A first activation pins the sheet's portraits, and the sheet enters IN_PRESS (R127). -/
theorem State.activateSheet_first (h : s.sheet j.sheet = some sh) (hst : j.started = false) :
    s.activateSheet j = (s.pin sh.pins).setSheet j.sheet (some { sh with state := .inPress }) := by
  simp [State.activateSheet, hst, h]

theorem State.activateSheet_started (hst : j.started = true) : s.activateSheet j = s := by simp [State.activateSheet, hst]

/-- An activation moves the directory and the sheets alone. -/
theorem State.activateSheet_eq (s : State) (j : Job) : s.activateSheet j =
    { s with portraits := (s.activateSheet j).portraits, sheets := (s.activateSheet j).sheets } := by
  unfold State.activateSheet
  split
  · rfl
  split
  · rfl
  · rw [State.pin, State.mapPortraits_eq]
    rfl

/-- A sheet that is PLACED or HELD after an activation stood so before. -/
theorem State.sheet_activateSheet {i : Nat} {x : Sheet} (hx : (s.activateSheet j).sheet i = some x)
    (hp : x.state ≠ .inPress) : s.sheet i = some x := by
  unfold State.activateSheet at hx
  split at hx
  · exact hx
  split at hx
  · exact hx
  · rw [State.sheet_setSheet] at hx
    split at hx
    · cases hx
      exact absurd rfl hp
    · rw [State.pin, State.mapPortraits_eq] at hx
      exact hx

/-- What a grant moves: the job's record, the press served last, and at a first activation pins and the sheet. -/
theorem State.grantJob_eq (s : State) (j : Job) : s.grantJob j =
    { s with
      jobs := s.jobs.map (fun k => if k.tag = j.tag then { j with state := .active, started := true } else k)
      renderer := { s.renderer with lastServed := if j.kind = .run then j.press else s.renderer.lastServed }
      portraits := (s.activateSheet j).portraits, sheets := (s.activateSheet j).sheets } := by
  unfold State.grantJob
  rw [State.activateSheet_eq]
  rfl

/-- A grant makes the named job ACTIVE (R126). -/
theorem State.activeJob_grantJob (hj : j ∈ s.jobs) (ha : s.activeJob = none) :
    (s.grantJob j).activeJob = some { j with state := .active, started := true } := by
  have hput : (s.putJob { j with state := .active, started := true }).activeJob =
      some { j with state := .active, started := true } :=
    State.activeJob_putJob hj (by exact rfl) (by exact rfl) fun a h => by simp [ha] at h
  rw [State.grantJob_eq]
  exact hput

/-- A grant makes no PROOF job grantable (R122). -/
theorem State.proofToGrant_grantJob (h : s.proofToGrant = none) : (s.grantJob j).proofToGrant = none := by
  rw [State.proofToGrant_eq_none] at h ⊢
  intro k hk hkind he
  have hlinks : (s.grantJob j).links = s.links := by rw [State.grantJob_eq]
  have hsheets : (s.grantJob j).sheets = (s.activateSheet j).sheets := by rw [State.grantJob_eq]
  have hjobs : (s.grantJob j).jobs = (s.putJob { j with state := .active, started := true }).jobs := by
    rw [State.grantJob_eq]
    rfl
  obtain ⟨hwait, hsheet⟩ := (State.eligible_iff _ k).1 he
  have hroom : (s.grantJob j).hasRoom k.press = s.hasRoom k.press := by unfold State.hasRoom State.link; rw [hlinks]
  rw [hroom]
  rw [hjobs] at hk
  obtain rfl | ⟨hk, -⟩ := State.mem_putJob hk
  · cases hwait
  · refine h k hk hkind ((State.eligible_iff s k).2 ⟨hwait, hsheet.imp_right ?_⟩)
    rintro ⟨sh, hsh, hst⟩
    refine ⟨sh, State.sheet_activateSheet (j := j) (by rw [State.sheet, ← hsheets]; exact hsh) fun hp => ?_, hst⟩
    simp [hp] at hst

/-- After a grant the proof suspension is not met: a RUN job is granted only where no PROOF job can be (R126, R130). -/
theorem State.examineProof_grantJob (ha : s.activeJob = none) (hg : s.grantOrder = some j) :
    (s.grantJob j).examineProof = s.grantJob j := by
  have hactive := State.activeJob_grantJob (State.grantOrder_mem hg) ha
  cases hp : s.proofToGrant with
  | none => exact State.examineProof_of_noProof (State.proofToGrant_grantJob hp)
  | some k =>
    obtain rfl : k = j := by simpa [State.grantOrder, hp] using hg
    have hkind := State.proofToGrant_kind hp
    exact State.examineProof_of_proof hactive hkind

/-- The state after a grant (R126 to R129). -/
theorem exec_rendererGrant (ha : s.activeJob = none) (hg : s.grantOrder = some j) (hb : s.renderer.band = none) :
    exec .rendererGrant s = .next { s.grantJob j with renderer := { s.renderer with
      lastServed := if j.kind = .run then j.press else s.renderer.lastServed
      stallTimer := if s.hasRoom j.press = true ∨ s.renderer.stallTimer.isSome then s.renderer.stallTimer
        else some s.renderer.stallWindow } } := by
  have hexec : exec .rendererGrant s = .next (s.grantJob j).examineProof.startStall := by
    have hexec : exec .rendererGrant s = execRendererGrant s := rfl
    simp only [hexec, execRendererGrant, ha, hg]
  have hband : (s.grantJob j).renderer.band = none := by rw [State.grantJob_eq]; exact hb
  rw [hexec, State.examineProof_grantJob ha hg,
    State.startStall_of_active (State.activeJob_grantJob (State.grantOrder_mem hg) ha) hband, State.grantJob_eq]
  rfl

end

/-- Settles O35: the searches of the grant order over the job table, and the state after a grant. -/
theorem theGrantOrderIsKept : Obligations.TheGrantOrderIsKept := by
  unfold Obligations.TheGrantOrderIsKept
  refine ⟨fun s => ⟨fun before j after hl hk he hr hb => ?_, fun hn => State.grantOrder_of_noProof (State.proofToGrant_eq_none.2 hn)⟩,
    fun s => ⟨s.eligible_iff, fun q j => State.oldestRun_eq_some, fun q => State.oldestRun_eq_none, s.hasRoom_iff⟩,
    fun s => ⟨exec_rendererGrant_ignored, fun j sh ha hg hs hb => ⟨_, exec_rendererGrant ha hg hb, ?_, rfl, fun hst => ⟨?_, fun q => ?_⟩,
      fun hst => ?_⟩⟩⟩
  · simp [State.grantOrder, State.proofToGrant_of_split hl hk he hr hb]
  · rw [State.grantJob_eq]
  · have hsheet : (s.activateSheet j).sheet j.sheet = some { sh with state := .inPress } := by
      rw [State.activateSheet_first hs hst, State.sheet_setSheet, if_pos rfl]
    rw [State.grantJob_eq]
    exact hsheet
  · have hpins : (s.activateSheet j).portrait q =
        { s.portrait q with pinCount := (s.portrait q).pinCount + sh.pins.count q } := by
      rw [State.activateSheet_first hs hst, State.portrait_setSheet, State.portrait_pin]
    rw [State.grantJob_eq]
    exact hpins
  · rw [State.grantJob_eq, State.activateSheet_started hst]
    exact ⟨rfl, rfl⟩

end Sys2Proof.Machine
end

section
/-! A cancelled job, the stall timer's expiry, and the bands: the theorems that settle O33, O37 and O36. -/

namespace Sys2Proof.Machine

open Sys2Proof

/-! ### CANCEL JOB (R124) -/

section
variable {s : State} {n : Nat} {j : Job}

theorem cancelJob_badIndex (h : n = 0 ∨ 4095 < n ∨ s.jobOf n = none) : cancelJob n s = (s, Answer.refuse .badIndex) := by
  unfold cancelJob
  by_cases hn : n = 0 ∨ Config.maxTag < n
  · rw [if_pos hn]
  · obtain ⟨h0, hmax⟩ := not_or.1 hn
    rw [if_neg hn, (h.resolve_left h0).resolve_left hmax]

theorem cancelJob_of_job (h1 : 1 ≤ n) (h2 : n ≤ 4095) (hj : s.jobOf n = some j) : cancelJob n s =
    if j.ending ≠ .none then (s, Answer.ok)
    else if j.state = .active ∧ s.renderer.band.isSome then
      (s.putJob { j with ending := .cancelled }, Answer.done false (byte2 j.done))
    else ((s.endJob j .jobAborted).recheckWait, Answer.done false (byte2 j.done)) := by
  have hn : ¬(n = 0 ∨ Config.maxTag < n) := by
    unfold Config.maxTag
    omega
  simp only [cancelJob, if_neg hn, hj]

end

/-- Settles O33. -/
theorem cancelEndsTheJobOrMarksIt : Obligations.CancelEndsTheJobOrMarksIt := by
  unfold Obligations.CancelEndsTheJobOrMarksIt
  refine fun s g p tag n hv => ⟨fun h => answers_of_served hv rfl rfl (cancelJob_badIndex h), fun h1 h2 j hj => ?_⟩
  have hcancel := cancelJob_of_job h1 h2 hj
  refine ⟨fun he => answers_of_served hv rfl rfl ?_, fun he ha hb => answers_of_served hv rfl rfl ?_,
    fun he h => answers_of_served hv rfl rfl ?_⟩
  · rw [hcancel, if_pos he]
  · rw [hcancel, if_neg (not_not.2 he), if_pos ⟨ha, hb⟩]
  · have hidle : ¬(j.state = .active ∧ g.renderer.band.isSome) := fun ⟨ha, hb⟩ => by
      simp [h.resolve_left (not_not.2 ha)] at hb
    rw [hcancel, if_neg (not_not.2 he), if_neg hidle]

/-! ### The stall timer's expiry (R129, R131) -/

theorem State.otherGrantable_iff (s : State) (q : Press) : s.otherGrantable q = true ↔
    (∃ k ∈ s.jobs, k.kind = .proof ∧ s.eligible k = true ∧ s.hasRoom k.press = true) ∨
      ∃ k ∈ s.jobs, k.kind = .run ∧ k.press = otherPress q ∧ s.eligible k = true := by
  simp only [State.otherGrantable, State.proofToGrant, State.oldestRun, Bool.or_eq_true, List.find?_isSome, decide_eq_true_eq,
    Bool.and_eq_true, and_assoc]

theorem exec_stallTimerExpiry_stopped {s : State} (h : s.renderer.stallTimer = none) :
    exec .stallTimerExpiry s = .next s := by
  have hexec : exec .stallTimerExpiry s = execStallTimerExpiry s := rfl
  simp only [hexec, execStallTimerExpiry, h]

/-- The timer of a job that still waits for room expires (R131). -/
theorem exec_stallTimerExpiry {s : State} {j : Job} {n : Nat} (hn : s.renderer.stallTimer = some n)
    (ha : s.activeJob = some j) (hr : s.hasRoom j.press = false) : exec .stallTimerExpiry s = .next
      (if j.kind = .run ∧ j.ending = .none ∧ s.suspendedJob = none ∧ s.otherGrantable j.press = true then s.suspend j
      else { s with renderer := { s.renderer with stallTimer := some s.renderer.stallWindow } }) := by
  have hexec : exec .stallTimerExpiry s = execStallTimerExpiry s := rfl
  simp only [hexec, execStallTimerExpiry, hn, State.stallExpiry, ha, hr, Bool.false_eq_true, if_false]

/-- Settles O37. -/
theorem aStallSuspendsOrRestarts : Obligations.AStallSuspendsOrRestarts := by
  unfold Obligations.AStallSuspendsOrRestarts
  refine fun s => ⟨exec_stallTimerExpiry_stopped, s.otherGrantable_iff, fun j n hn ha hr => ?_⟩
  rw [exec_stallTimerExpiry hn ha hr]
  refine ⟨fun hk he hs ho => ?_, fun h => ?_⟩
  · rw [if_pos ⟨hk, he, hs, ho⟩]
    rfl
  · rw [if_neg]
    rintro ⟨hk, he, hs, ho⟩
    simp [hk, he, hs, ho] at h

/-! ### Bands (R128, R129, R130, R133) -/

theorem exec_bandBegin {s : State} {j : Job} (ha : s.activeJob = some j) (hb : s.renderer.band = none)
    (hr : (s.link j.press).fifo.length < 6) : exec .bandBegin s = .next { s with renderer := { s.renderer with
      band := some { copy := j.resumeCopy, band := j.resumeBand, serial := j.serial }, stallTimer := none } } := by
  have hexec : exec .bandBegin s = execBandBegin s := rfl
  simp only [hexec, execBandBegin, ha, hb, (s.hasRoom_iff j.press).2 hr, if_true]

theorem exec_bandBegin_waits {s : State}
    (h : ∀ j, s.activeJob = some j → s.renderer.band.isSome ∨ 6 ≤ (s.link j.press).fifo.length) :
    exec .bandBegin s = .next s := by
  have hexec : exec .bandBegin s = execBandBegin s := rfl
  rw [hexec, execBandBegin]
  split
  · rename_i j ha hb
    have hfull := (h j ha).resolve_left (by simp [hb])
    rw [if_neg fun hr => absurd ((s.hasRoom_iff j.press).1 hr) (by omega)]
  · rfl

section
variable {s v : State} {j k : Job}

/-- The parts of a state after a band that the boundary does not concern: the press links apart, it is the state before with
the band over. -/
def State.bandOver (s v : State) : Prop := { v with links := s.links } = s.clearBand

theorem State.bandOver.jobs (hv : s.bandOver v) : v.jobs = s.jobs := by
  have h := congrArg State.jobs hv
  exact h

theorem State.bandOver.renderer (hv : s.bandOver v) : v.renderer = { s.renderer with band := none } := by
  have h := congrArg State.renderer hv
  exact h

/-- Outside the jobs, the renderer and the links nothing has moved. -/
theorem State.bandOver.rest (hv : s.bandOver v) : { v with jobs := s.jobs, renderer := s.renderer, links := s.links } = s := by
  have h := congrArg (fun t : State => { t with jobs := s.jobs, renderer := s.renderer, links := s.links }) hv
  exact h

/-- The record stored at the boundary is the only one that moves. -/
theorem State.bandOver.onlyJobMoves (hv : s.bandOver v) (ha : s.activeJob = some j) (ht : k.tag = j.tag) :
    s.onlyJobMoves (v.putJob k) k := by
  have h := State.onlyJobMoves_putJob (State.activeJob_mem ha).1 ht
  unfold State.onlyJobMoves at h ⊢
  simp only [State.putJob, hv.jobs] at h ⊢
  exact h

/-- The record stored at the boundary is the ACTIVE job's. -/
theorem State.bandOver.activeJob (hv : s.bandOver v) (ha : s.activeJob = some j) (ht : k.tag = j.tag)
    (hk : k.state = .active) : (v.putJob k).activeJob = some k := by
  have hav : v.activeJob = some j := by
    unfold State.activeJob at ha ⊢
    rwa [hv.jobs]
  obtain ⟨hj, -⟩ := State.activeJob_mem hav
  exact State.activeJob_putJob hj ht hk fun a h => Option.some.inj (h.symm.trans hav)

/-- A record that is stored is alone of its tag, so that another record of the tag has not been stored. -/
theorem State.onlyJobMoves_unique {t : State} {k k' : Job} (h : s.onlyJobMoves t k) (h' : s.onlyJobMoves t k')
    (ht : k'.tag = k.tag) : k' = k := by
  obtain ⟨-, hjobs⟩ := h
  obtain ⟨hmem, -⟩ := h'
  rw [hjobs] at hmem
  obtain ⟨x, -, hx⟩ := List.mem_map.1 hmem
  by_cases hxt : x.tag = k.tag
  · rw [← hx, if_pos hxt]
  · rw [if_neg hxt] at hx
    exact absurd (hx ▸ ht) hxt

/-- The job goes on as ACTIVE and may have to wait for room (R129). -/
theorem State.bandOver.reaches_active (hv : s.bandOver v) (ha : s.activeJob = some j) (ht : k.tag = j.tag)
    (hk : k.state = .active) (copyBoundary : Bool) : s.reachesBoundary (v.putJob k).startStall k copyBoundary := by
  have hband : (v.putJob k).renderer.band = none := by
    rw [State.putJob_renderer, hv.renderer]
  have hmoves := hv.onlyJobMoves ha ht
  have hrest := hv.rest
  rw [State.startStall_of_active (hv.activeJob ha ht hk) hband]
  refine ⟨.inl hmoves, ?_, fun _ _ => ?_, hrest⟩
  · simp only [State.putJob_renderer, hv.renderer]
  · simp only [State.putJob_renderer, hv.renderer]
    rfl

/-- At a copy boundary the job may be set aside for a proof (R130). -/
theorem State.bandOver.reaches_copy (hv : s.bandOver v) (ha : s.activeJob = some j) (ht : k.tag = j.tag)
    (hk : k.state = .active) : s.reachesBoundary (v.putJob k).examineProof.startStall k true := by
  have hactive := hv.activeJob ha ht hk
  obtain h | ⟨a, haa, hrun, hnone, h⟩ := (v.putJob k).examineProof_cases
  · rw [h]
    exact hv.reaches_active ha ht hk true
  obtain rfl : k = a := Option.some.inj (hactive.symm.trans haa)
  have hsuspend : (v.putJob k).suspend k = (v.putJob { k with state := .suspended }).stopStall := by
    rw [State.suspend, State.putJob_putJob _ (by exact rfl)]
  have hmoves : s.onlyJobMoves ((v.putJob k).suspend k) { k with state := .suspended } := by
    rw [hsuspend]
    exact hv.onlyJobMoves (k := { k with state := .suspended }) ha ht
  have hsusp := State.suspended_of_putJob hnone
  rw [hv.jobs] at hsusp
  rw [h]
  obtain ⟨timer, hst⟩ := ((v.putJob k).suspend k).startStall_frame
  have hrest := hv.rest
  rw [hst]
  refine ⟨.inr ⟨rfl, hrun, hsusp, hmoves⟩, ?_, fun hact honly => ?_, ?_⟩
  · rw [hsuspend]
    simp [hv.renderer]
  · have := State.onlyJobMoves_unique honly hmoves rfl
    rw [← this] at hact
    cases hact
  · rw [hsuspend]
    exact hrest

/-- After the last band of the last copy the job is DRAINING (R133). -/
theorem State.bandOver.reaches_draining (hv : s.bandOver v) (ha : s.activeJob = some j) :
    s.reachesBoundary (v.putJob { j with state := .draining }) { j with state := .draining } false := by
  have hmoves : s.onlyJobMoves (v.putJob { j with state := .draining }) { j with state := .draining } :=
    hv.onlyJobMoves ha rfl
  have hrest := hv.rest
  refine ⟨.inl hmoves, ?_, (fun h => nomatch h), hrest⟩
  simp [hv.renderer]

end

section
variable {s : State} {j : Job} {b : BandInProduction}

/-- A job with an ending mark ends at the boundary, and its frame is discarded (R124, R137). -/
theorem exec_bandCompletion_ends (ha : s.activeJob = some j) (hb : s.renderer.band = some b) (he : j.ending ≠ .none) :
    exec .bandCompletion s = .next (s.clearBand.endJob j .jobAborted) := by
  have hexec : exec .bandCompletion s = execBandCompletion s := rfl
  simp only [hexec, execBandCompletion, ha, hb, if_pos he]

theorem exec_bandCompletion_rewinds (ha : s.activeJob = some j) (hb : s.renderer.band = some b) (he : j.ending = .none)
    {copy : Nat} (hw : j.rewind = some copy) : exec .bandCompletion s = .next (s.clearBand.takeRewind j b copy) := by
  have hexec : exec .bandCompletion s = execBandCompletion s := rfl
  simp only [hexec, execBandCompletion, ha, hb, if_neg (not_not.2 he), hw]

theorem exec_bandCompletion_advances (ha : s.activeJob = some j) (hb : s.renderer.band = some b) (he : j.ending = .none)
    (hw : j.rewind = none) : exec .bandCompletion s = .next ((s.clearBand.frameJoins j b).advance j b) := by
  have hexec : exec .bandCompletion s = execBandCompletion s := rfl
  simp only [hexec, execBandCompletion, ha, hb, if_neg (not_not.2 he), hw]

theorem State.bandOver_clearBand (s : State) : s.bandOver s.clearBand := rfl

/-- The frame of the band joins the FIFO of the job's press (R128). -/
theorem State.frameJoins_of_frame {f : BandFrame} (h : s.bandFrame j b = some f) :
    s.frameJoins j b = s.setLink j.press ((s.link j.press).join f) := by
  simp only [State.frameJoins, h]

theorem State.links_startStall (s : State) : s.startStall.links = s.links := by
  obtain ⟨t, h⟩ := s.startStall_frame
  rw [h]

theorem State.links_examineProof (s : State) : s.examineProof.links = s.links := by
  obtain h | ⟨a, -, -, -, h⟩ := s.examineProof_cases <;> rw [h]
  rfl

/-- Every outcome of a boundary but the end of the job leaves the links as they stand. -/
theorem State.links_advance (s : State) (j : Job) (b : BandInProduction) : (s.advance j b).links = s.links := by
  unfold State.advance
  split
  · rw [State.links_startStall, State.putJob_links]
  split
  · rw [State.links_startStall, State.links_examineProof, State.putJob_links]
  · rfl

theorem State.links_takeRewind (s : State) (j : Job) (b : BandInProduction) (copy : Nat) :
    (s.takeRewind j b copy).links = (if copy ≤ b.copy then s else s.frameJoins j b).links := by
  unfold State.takeRewind
  rw [State.links_startStall, State.links_examineProof, State.putJob_links]

/-- The state in which the band is over and its frame has joined (R128). -/
def State.joined (s : State) (j : Job) (f : BandFrame) : State := s.clearBand.setLink j.press ((s.link j.press).join f)

theorem State.bandOver_joined (s : State) (j : Job) (f : BandFrame) : s.bandOver (s.joined j f) := rfl

theorem State.link_joined {t : State} {f : BandFrame} (h : t.links = (s.joined j f).links) :
    t.link j.press = (s.link j.press).join f ∧ ∀ q, q ≠ j.press → t.link q = s.link q := by
  have hlink (q : Press) : t.link q = (s.joined j f).link q := congrArg (fun l => l.get q) h
  exact ⟨(hlink _).trans (State.link_setLink_self ..), fun q hq => (hlink q).trans (State.link_setLink_other _ _ hq)⟩

end

/-- Settles O36: each outcome of a boundary stores one record of the ACTIVE job in a state with the band over. -/
theorem bandsBeginAndMeetTheirBoundaries : Obligations.BandsBeginAndMeetTheirBoundaries := by
  unfold Obligations.BandsBeginAndMeetTheirBoundaries
  refine ⟨fun s => ⟨fun j => exec_bandBegin, exec_bandBegin_waits⟩, fun s j b ha hb => ?_⟩
  obtain ⟨-, hact⟩ := State.activeJob_mem ha
  refine ⟨exec_bandCompletion_ends ha hb, fun copy he hw hc =>
    ⟨s.clearBand.takeRewind j b copy, exec_bandCompletion_rewinds ha hb he hw, ?_, ?_⟩, fun f hf he => ?_⟩
  · rw [State.links_takeRewind, if_pos hc]
    rfl
  · rw [State.takeRewind, if_pos hc]
    exact s.bandOver_clearBand.reaches_copy ha rfl hact
  have hjoin : s.clearBand.frameJoins j b = s.joined j f := State.frameJoins_of_frame hf
  refine ⟨fun copy hw hc => ⟨s.clearBand.takeRewind j b copy, exec_bandCompletion_rewinds ha hb he hw, ?_⟩,
    fun hw => ⟨(s.joined j f).advance j b, hjoin ▸ exec_bandCompletion_advances ha hb he hw, ?_⟩⟩
  · have hlinks := s.clearBand.links_takeRewind j b copy
    rw [if_neg (by omega), hjoin] at hlinks
    obtain ⟨hself, hother⟩ := State.link_joined hlinks
    refine ⟨hself, hother, ?_⟩
    rw [State.takeRewind, if_neg (by omega), hjoin]
    exact (s.bandOver_joined j f).reaches_copy ha rfl hact
  · obtain ⟨hself, hother⟩ := State.link_joined ((s.joined j f).links_advance j b)
    have hbands : (s.joined j f).bandsOf j = s.bandsOf j := rfl
    refine ⟨hself, hother, fun hn => ?_, fun hn hc => ?_, fun hn hc => ?_⟩
    · rw [State.advance, hbands, if_pos hn]
      exact (s.bandOver_joined j f).reaches_active (k := { j with resumeCopy := b.copy, resumeBand := b.band + 1 }) ha rfl hact
        false
    · rw [State.advance, hbands, if_neg (by omega), if_pos hc]
      exact (s.bandOver_joined j f).reaches_copy ha rfl hact
    · rw [State.advance, hbands, if_neg (by omega), if_neg (by omega)]
      exact (s.bandOver_joined j f).reaches_draining ha

end Sys2Proof.Machine
end

section
/-! SUBMIT RUN and SUBMIT PROOF: the theorem that settles O32. -/

namespace Sys2Proof.Machine

open Sys2Proof

/-! ### The refusals and the submission (R120, R121) -/

section
variable {s : State} {p : Port} {i n copies : Nat} {sh : Sheet} {q : Press}

theorem submitRun_badIndex (h : s.sheet i = none) : submitRun p i n copies s = (s, Answer.refuse .badIndex) := by
  simp only [submitRun, h]

theorem submitRun_badForm (h : (s.sheet i).isSome) (hn : 2 ≤ n ∨ copies = 0) :
    submitRun p i n copies s = (s, Answer.refuse .badForm) := by
  obtain ⟨sh, hs⟩ := Option.isSome_iff_exists.1 h
  simp only [submitRun, hs]
  rcases hn with hn | hc
  · simp only [pressOf_of_le hn]
  · split
    · rfl
    · rw [if_pos hc]

theorem submitRun_of_sheet (hs : s.sheet i = some sh) (hq : pressOf n = some q) (hc : 0 < copies) :
    submitRun p i n copies s =
      if sh.job.isSome then (s, Answer.refuse .inUse)
      else if sh.state ≠ .placed then (s, Answer.refuse .notEligible)
      else if ¬(s.collection q .run).length < 12 then (s, Answer.refuse .queueFull)
      else (s.submit p i sh q .run (min 999 copies), Answer.done (decide (999 < copies)) (byte2 s.nextTag)) := by
  simp only [submitRun, hs, hq, if_neg hc.ne']
  rfl

theorem submitProof_badIndex (h : s.sheet i = none) : submitProof p i n s = (s, Answer.refuse .badIndex) := by
  simp only [submitProof, h]

theorem submitProof_badForm (h : (s.sheet i).isSome) (hn : 2 ≤ n) : submitProof p i n s = (s, Answer.refuse .badForm) := by
  obtain ⟨sh, hs⟩ := Option.isSome_iff_exists.1 h
  simp only [submitProof, hs, pressOf_of_le hn]

theorem submitProof_of_sheet (hs : s.sheet i = some sh) (hq : pressOf n = some q) : submitProof p i n s =
    if sh.job.isSome then (s, Answer.refuse .inUse)
    else if sh.state ≠ .placed ∧ sh.state ≠ .held then (s, Answer.refuse .notEligible)
    else if ¬(s.collection q .proof).length < 4 then (s, Answer.refuse .queueFull)
    else ((s.submit p i sh q .proof 1).recheckWait, Answer.done false (byte2 s.nextTag)) := by
  simp only [submitProof, hs, hq]
  rfl

end

/-! ### The state after SUBMIT PROOF (R121, R130) -/

/-- The record of a new job (R118 to R121). -/
def newJob (tag i : Nat) (q : Press) (kind : JobKind) (copies : Nat) (p : Port) : Job :=
  { tag := tag, sheet := i, press := q, kind := kind, copies := copies, done := 0, port := p, state := .waiting
    started := false, resumeCopy := 1, resumeBand := 0, serial := 0, spoils := 0, ending := .none, rewind := none }

section
variable {s : State} {p : Port} {i copies : Nat} {sh : Sheet} {q : Press} {kind : JobKind}

theorem State.submit_jobs :
    (s.submit p i sh q kind copies).jobs = s.jobs ++ [newJob s.nextTag i q kind copies p] := rfl

/-- A WAITING job at the tail is neither the ACTIVE nor the SUSPENDED job. -/
theorem State.activeJob_submit : (s.submit p i sh q kind copies).activeJob = s.activeJob := by
  simp [State.activeJob, State.submit_jobs, List.find?_append, newJob]

theorem State.suspendedJob_submit : (s.submit p i sh q kind copies).suspendedJob = s.suspendedJob := by
  simp [State.suspendedJob, State.submit_jobs, List.find?_append, newJob]

/-- After a submission the proof suspension may set the ACTIVE RUN job of before aside, and moves no other job (R130). -/
theorem State.jobs_submit_recheckWait {k : Job} (hk : k = newJob s.nextTag i q kind copies p) :
    (s.submit p i sh q kind copies).recheckWait.jobs = s.jobs ++ [k] ∨
      ∃ a, s.activeJob = some a ∧ a.kind = .run ∧ a.resumeBand = 0 ∧ a.ending = .none ∧ s.renderer.band = none ∧
        s.suspendedJob = none ∧ (s.submit p i sh q kind copies).recheckWait.jobs =
          (s.jobs ++ [k]).map (fun x => if x.tag = a.tag then { a with state := .suspended } else x) := by
  subst hk
  obtain h | ⟨a, ha, hrun, hend, hband, hidle, hsusp, -, h⟩ := (s.submit p i sh q kind copies).recheckWait_mayYield
  · exact .inl (congrArg State.jobs h)
  · rw [State.activeJob_submit] at ha
    rw [State.suspendedJob_submit] at hsusp
    exact .inr ⟨a, ha, hrun, hband, hend, hidle, hsusp, congrArg State.jobs h⟩

/-- The new job stays in the table where its tag is fresh. -/
theorem State.mem_submit_recheckWait {k : Job} (hk : k = newJob s.nextTag i q kind copies p)
    (hfresh : ∀ x ∈ s.jobs, x.tag ≠ s.nextTag) : k ∈ (s.submit p i sh q kind copies).recheckWait.jobs := by
  have hmem : k ∈ s.jobs ++ [k] := List.mem_append_right _ (List.mem_singleton_self k)
  obtain h | ⟨a, ha, -, -, -, -, -, h⟩ := State.jobs_submit_recheckWait (sh := sh) hk
  · rwa [h]
  · obtain ⟨hmema, -⟩ := State.activeJob_mem ha
    have hne : k.tag ≠ a.tag := hk ▸ (hfresh a hmema).symm
    rw [h]
    exact List.mem_map.2 ⟨k, hmem, if_neg hne⟩

/-- Outside the job table, the tag counter, the sheet and the renderer nothing moves. -/
theorem State.submit_recheckWait_frame :
    { (s.submit p i sh q kind copies).recheckWait with
      jobs := s.jobs, tagCounter := s.tagCounter, sheets := s.sheets, renderer := s.renderer } = s := by
  rw [State.recheckWait_eq]
  rfl

theorem State.sheet_submit_recheckWait (i' : Nat) :
    (s.submit p i sh q kind copies).recheckWait.sheet i' =
      if i' = i then some { sh with job := some s.nextTag } else s.sheet i' := by
  rw [State.recheckWait_eq]
  exact s.sheet_setSheet i i' (some { sh with job := some s.nextTag })

end

/-! ### The tag of a new job (R118) -/

/-- The tag is the first of the circle, from the counter on, that no job has. -/
theorem State.nextTag_spec {s : State} (h1 : 1 ≤ s.tagCounter) (h2 : s.tagCounter ≤ 4095) :
    (∃ n, s.nextTag = (s.tagCounter - 1 + n) % 4095 + 1 ∧
      ∀ m < n, (s.jobOf ((s.tagCounter - 1 + m) % 4095 + 1)).isSome) ∧
    (s.jobs.length < 4095 → s.jobOf s.nextTag = none) ∧ 1 ≤ s.nextTag ∧ s.nextTag ≤ 4095 ∧
    tagAfter s.nextTag = s.nextTag % 4095 + 1 := by
  obtain ⟨n, -, htag, htaken, -⟩ := freeTag_spec s 4095 s.tagCounter h1 h2
  obtain ⟨hlo, hhi⟩ := freeTag_range s 4095 s.tagCounter h1 h2
  exact ⟨⟨n, htag, htaken⟩, jobOf_freeTag h1 h2 le_rfl, hlo, hhi, tagAfter_eq hlo hhi⟩

/-- Settles O32: the rows' checks in order, the submitted job, and the search for its tag. -/
theorem submittingMakesAWaitingJob : Obligations.SubmittingMakesAWaitingJob := by
  unfold Obligations.SubmittingMakesAWaitingJob
  refine ⟨fun s g p tag i n copies => ⟨fun hv => ⟨fun h => ?_, fun h hn => ?_⟩, fun hv => ⟨fun h => ?_, fun h hn => ?_⟩⟩,
    fun s g p tag i n copies sh q hs hq => ⟨fun hv => ⟨fun hc hj => ?_, fun hc hj hst => ?_, fun hc hj hst hl => ?_,
        fun hc hj hst hl => ?_⟩,
      fun hv => ⟨fun hj => ?_, fun hj hp hh => ?_, fun hj hst hl => ?_, fun k hk hj hst hl => ?_⟩⟩,
    fun s => State.nextTag_spec⟩
  · exact answers_of_served hv rfl rfl (submitRun_badIndex h)
  · exact answers_of_served hv rfl rfl (submitRun_badForm h hn)
  · exact answers_of_served hv rfl rfl (submitProof_badIndex h)
  · exact answers_of_served hv rfl rfl (submitProof_badForm h hn)
  · refine answers_of_served hv rfl rfl ((submitRun_of_sheet hs hq hc).trans ?_)
    rw [if_pos hj]
  · refine answers_of_served hv rfl rfl ((submitRun_of_sheet hs hq hc).trans ?_)
    rw [if_neg (by simp [hj]), if_pos hst]
  · refine answers_of_served hv rfl rfl ((submitRun_of_sheet hs hq hc).trans ?_)
    rw [if_neg (by simp [hj]), if_neg (not_not.2 hst), if_pos (by omega)]
  · refine answers_of_served hv rfl rfl ((submitRun_of_sheet hs hq hc).trans ?_)
    rw [if_neg (by simp [hj]), if_neg (not_not.2 hst), if_neg (by omega)]
    rfl
  · refine answers_of_served hv rfl rfl ((submitProof_of_sheet hs hq).trans ?_)
    rw [if_pos hj]
  · refine answers_of_served hv rfl rfl ((submitProof_of_sheet hs hq).trans ?_)
    rw [if_neg (by simp [hj]), if_pos ⟨hp, hh⟩]
  · refine answers_of_served hv rfl rfl ((submitProof_of_sheet hs hq).trans ?_)
    rw [if_neg (by simp [hj]), if_neg (by tauto), if_pos (by omega)]
  · have hsubmit : submitProof p i n g =
        ((g.submit p i sh q .proof 1).recheckWait, Answer.done false (byte2 g.nextTag)) := by
      rw [submitProof_of_sheet hs hq, if_neg (by simp [hj]), if_neg (by tauto), if_neg (by omega)]
    refine ⟨_, answers_of_served hv rfl rfl hsubmit, ?_, ?_, fun i' hi => ?_, ?_, State.jobs_submit_recheckWait hk,
      State.mem_submit_recheckWait hk, State.submit_recheckWait_frame⟩
    · rw [State.recheckWait_eq]
      rfl
    · rw [State.sheet_submit_recheckWait, if_pos rfl]
    · rw [State.sheet_submit_recheckWait, if_neg hi]
    · rw [State.recheckWait_tags, State.submit_jobs, List.map_append]
      rfl

end Sys2Proof.Machine
end

section
/-! SET PRESS: the theorem that settles O42. -/

namespace Sys2Proof.Machine

open Sys2Proof

/-! ### The values (R164) -/

theorem clampTo_eq_iff {lo hi n : Nat} (h : lo ≤ hi) : clampTo lo hi n = n ↔ lo ≤ n ∧ n ≤ hi := by
  unfold clampTo
  omega

/-- A hold window is taken as it is when it is in its range and not below the capture window. -/
theorem takenHold_eq_iff {capture hold : Nat} (h1 : 8 ≤ capture) (h2 : capture ≤ 64) :
    takenHold capture hold = hold ↔ 16 ≤ hold ∧ hold ≤ 128 ∧ capture ≤ hold := by
  unfold takenHold clampTo
  omega

/-- SET PRESS moves no value exactly when every value is in its range (R164). -/
theorem setPress_unmoved_iff (capture hold timeout stall : Nat) :
    (clampTo 8 64 capture = capture ∧ takenHold capture hold = hold ∧ clampTo 4 60 timeout = timeout ∧
      clampTo 10 2550 stall = stall) ↔
    (8 ≤ capture ∧ capture ≤ 64 ∧ 16 ≤ hold ∧ hold ≤ 128 ∧ capture ≤ hold ∧ 4 ≤ timeout ∧ timeout ≤ 60 ∧ 10 ≤ stall ∧
      stall ≤ 2550) := by
  rw [clampTo_eq_iff (by omega), clampTo_eq_iff (by omega), clampTo_eq_iff (by omega)]
  constructor
  · rintro ⟨⟨h1, h2⟩, hh, ⟨h3, h4⟩, h5, h6⟩
    obtain ⟨h7, h8, h9⟩ := (takenHold_eq_iff h1 h2).1 hh
    exact ⟨h1, h2, h7, h8, h9, h3, h4, h5, h6⟩
  · rintro ⟨h1, h2, h7, h8, h9, h3, h4, h5, h6⟩
    exact ⟨⟨h1, h2⟩, (takenHold_eq_iff h1 h2).2 ⟨h7, h8, h9⟩, ⟨h3, h4⟩, h5, h6⟩

theorem policyOf_of_le {n : Nat} (h : 2 ≤ n) : policyOf n = none := by
  obtain ⟨m, rfl⟩ := Nat.exists_eq_add_of_le' h
  rfl

theorem setPress_badForm {s : State} {n capture hold timeout policy stall : Nat} (h : 2 ≤ n ∨ 2 ≤ policy) :
    setPress n capture hold timeout policy stall s = (s, Answer.refuse .badForm) := by
  unfold setPress
  split
  · rename_i hq hpol
    rcases h with h | h
    · simp [pressOf_of_le h] at hq
    · simp [policyOf_of_le h] at hpol
  · rfl

/-! ### The lock with new settings (R158, R165) -/

theorem PerPress.set_set {α : Type} (v : PerPress α) (q : Press) (x y : α) : (v.set q x).set q y = v.set q y := by
  cases q <;> rfl

theorem State.setReg_setReg (s : State) (q : Press) (r r' : Registration) :
    (s.setReg q r).setReg q r' = s.setReg q r' := by
  have hlink : ({ (s.setReg q r).link q with reg := r' } : Link) = { s.link q with reg := r' } := by
    rw [State.setReg, State.link_setLink_self]
  unfold State.setReg at hlink ⊢
  rw [hlink]
  simp only [State.setLink, PerPress.set_set]

theorem State.reg_setReg (s : State) (q : Press) (r : Registration) : ((s.setReg q r).link q).reg = r := by
  rw [State.setReg, State.link_setLink_self]

/-- The search count of a lock that searches has reached the new timeout, and the condition is clear (R158, R165). -/
def Registration.fires (r : Registration) (timeout : Nat) : Bool :=
  decide ((r.state = .search ∨ r.state = .confirm) ∧ timeout ≤ r.search ∧ r.timedOut = false)

/-- A stored lock whose timeout the search count has reached sets the condition and latches it everywhere (R158, R182). -/
theorem State.checkTimeout_store (s : State) (q : Press) (v : PressSettings) :
    (s.setReg q ((s.link q).reg.store v)).checkTimeout q =
      if v.searchTimeout ≤ (s.link q).reg.search ∧ (s.link q).reg.timedOut = false then
        (s.setReg q { (s.link q).reg.store v with timedOut := true }).latchAll (regTimeoutOf q) .none
      else s.setReg q ((s.link q).reg.store v) := by
  simp only [State.checkTimeout, State.reg_setReg, State.setReg_setReg]
  simp only [Registration.store, le_min_iff, le_refl, true_and]

/-- Storing a press's settings, by whether the timeout fires. -/
theorem State.storePress_eq (s : State) (q : Press) (v : PressSettings) : s.storePress q v =
    if (s.link q).reg.fires v.searchTimeout then
      (s.setReg q { (s.link q).reg.store v with timedOut := true }).latchAll (regTimeoutOf q) .none
    else s.setReg q ((s.link q).reg.store v) := by
  unfold State.storePress Registration.fires
  cases hst : (s.link q).reg.state <;> simp [State.checkTimeout_store]

/-- The lock after SET PRESS (R165). -/
theorem State.link_storePress (s : State) (q : Press) (v : PressSettings) : (s.storePress q v).link q =
    { s.link q with reg := { (s.link q).reg.store v with
        timedOut := (s.link q).reg.timedOut || (s.link q).reg.fires v.searchTimeout } } := by
  rw [State.storePress_eq]
  split
  · rename_i h
    rw [h, Bool.or_true]
    exact State.link_setLink_self ..
  · rename_i h
    rw [Bool.eq_false_iff.2 h, Bool.or_false]
    exact State.link_setLink_self ..

theorem State.ports_storePress (s : State) (q : Press) (v : PressSettings) : (s.storePress q v).ports =
    if (s.link q).reg.fires v.searchTimeout then (s.latchAll (regTimeoutOf q) .none).ports else s.ports := by
  rw [State.storePress_eq]
  split <;> rfl

/-- Outside the press's link and the ports nothing moves. -/
theorem State.storePress_frame (s : State) (q : Press) (v : PressSettings) :
    (∀ q', q' ≠ q → (s.storePress q v).link q' = s.link q') ∧
      { s.storePress q v with links := s.links, ports := s.ports } = s := by
  rw [State.storePress_eq]
  split <;> exact ⟨fun q' h => State.link_setLink_other _ _ h, rfl⟩

/-- Settles O42: the values as SET PRESS takes them, and the lock that they are stored in. -/
theorem setPressStoresValuesInRange : Obligations.SetPressStoresValuesInRange := by
  unfold Obligations.SetPressStoresValuesInRange
  refine fun s g p tag n capture hold timeout policy stall hv =>
    ⟨fun h => answers_of_served hv rfl rfl (setPress_badForm h), fun q pol hq hpol => ?_⟩
  obtain ⟨v, hvals⟩ : ∃ v : PressSettings, { captureWindow := clampTo 8 64 capture, holdWindow := takenHold capture hold
                                             searchTimeout := clampTo 4 60 timeout, policy := pol } = v := ⟨_, rfl⟩
  obtain ⟨hother, hframe⟩ := g.storePress_frame q v
  have hrenderer := congrArg State.renderer hframe
  have hrest := congrArg (fun t : State => { t with renderer := g.renderer }) hframe
  refine ⟨(g.storePress q v).storeStall (clampTo 10 2550 stall), answers_of_served hv rfl rfl ?_, fun fires hf => ⟨?_, ?_⟩,
    ?_, hother, hrest⟩
  · simp only [setPress, hq, hpol, setPress_unmoved_iff, hvals]
    rfl
  · subst hvals hf
    exact g.link_storePress q _
  · subst hvals hf
    exact g.ports_storePress q _
  · exact congrArg (fun r : Renderer => { r with stallWindow := clampTo 10 2550 stall }) hrenderer

end Sys2Proof.Machine
end

section
/-! Status reports: the theorem that settles O44. -/

namespace Sys2Proof.Machine

open Sys2Proof

/-! ### The record that a report belongs to (R149) -/

/-- The oldest record with a report due takes the report. -/
theorem reportDue_split {a : Attempt} {after : List Attempt} (e : Bool) (ha : a.received < a.sent) :
    ∀ before : List Attempt, (∀ x ∈ before, x.sent ≤ x.received) →
      reportDue e (before ++ a :: after) = some (before ++ a.reported e :: after, a.reported e)
  | [], _ => by simp [reportDue, ha]
  | b :: before, h => by
    have hb : ¬b.received < b.sent := not_lt.2 (h b (List.mem_cons_self ..))
    have ih := reportDue_split (after := after) e ha before fun x hx => h x (List.mem_cons_of_mem _ hx)
    simp [reportDue, hb, ih]

/-- With no report due none is taken. -/
theorem reportDue_none (e : Bool) : ∀ l : List Attempt, (∀ x ∈ l, x.sent ≤ x.received) → reportDue e l = none
  | [], _ => rfl
  | a :: l, h => by
    have ha : ¬a.received < a.sent := not_lt.2 (h a (List.mem_cons_self ..))
    have ih := reportDue_none e l fun x hx => h x (List.mem_cons_of_mem _ hx)
    simp [reportDue, ha, ih]

/-! ### What the report does (R149) -/

section
variable {s : State} {q : Press} {e : Bool}

/-- A report that is taken is judged by its record; then the records fully reported leave the list. -/
theorem exec_statusReport {l : List Attempt} {a : Attempt} (ho : (s.link q).online = true)
    (hr : reportDue e (s.link q).attempts = some (l, a)) : exec (.statusReport q e) s =
      .next (((s.setLink q { s.link q with attempts := l }).judgeStatus q a e).dropReported q).recheckWait := by
  have hexec : exec (.statusReport q e) s = .next (s.takeStatusReport q e) := rfl
  rw [hexec, State.takeStatusReport, if_pos ho, hr]

/-- With none due a report is discarded. -/
theorem exec_statusReport_discarded (h : (s.link q).online = false ∨ reportDue e (s.link q).attempts = none) :
    exec (.statusReport q e) s = .next s := by
  have hexec : exec (.statusReport q e) s = .next (s.takeStatusReport q e) := rfl
  rw [hexec, State.takeStatusReport]
  rcases h with h | h
  · rw [h, if_neg (by decide)]
  · rw [h]
    split <;> rfl

theorem State.judgeStatus_ok {a : Attempt} : s.judgeStatus q a false =
    if a.voided = false ∧ a.error = false ∧ a.received = a.bandCount then (s.raise (pressUnit q) 0).takeConfirmation a.tag
    else s := rfl

theorem State.judgeStatus_checkError {a : Attempt} : s.judgeStatus q a true =
    if a.voided then s.raise (pressUnit q) 2 else (s.raise (pressUnit q) 2).linkSpoil q a.tag a.copy := rfl

end

/-! ### The records that stay (R143, R149) -/

/-- A record with a report due stays. -/
theorem mem_keepDue_of_due {own : Attempt → Bool} {a : Attempt} (ha : a.received < a.sent) :
    ∀ {l : List Attempt}, a ∈ l → a ∈ keepDue own l
  | b :: l, h => by
    rcases List.mem_cons.1 h with rfl | h
    · simp [keepDue, ha]
    · have ih := mem_keepDue_of_due (own := own) ha h
      unfold keepDue
      split
      · exact List.mem_cons_of_mem _ ih
      · exact ih

/-- The attempt in transmission's records, by tag, copy and serial. -/
theorem Link.namesakes_iff {l : Link} {x : Transmission} (h : l.transmission = some x) (a : Attempt) :
    l.namesakes a = true ↔ a.tag = x.tag ∧ a.copy = x.copy ∧ a.serial = x.serial := by
  simp only [Link.namesakes, Link.inTransmission, h, Bool.and_eq_true, decide_eq_true_eq, and_assoc, eq_comm (b := a.tag),
    eq_comm (b := a.copy), eq_comm (b := a.serial)]

theorem Link.namesakes_of_none {l : Link} (h : l.transmission = none) (a : Attempt) : l.namesakes a = false := by
  simp only [Link.namesakes, Link.inTransmission, h]

/-- Settles O44: the search for the record, the cases of a report, and the records that stay. -/
theorem aStatusReportMatchesTheOldestDue : Obligations.AStatusReportMatchesTheOldestDue := by
  unfold Obligations.AStatusReportMatchesTheOldestDue
  refine ⟨fun s q ho => ⟨fun before a after e u hl hb ha hu => ?_, fun h e =>
      exec_statusReport_discarded (.inr (reportDue_none e _ h))⟩,
    fun u q e h => exec_statusReport_discarded (.inl h),
    fun l => ⟨rfl, keepDue_sublist _ _, fun a ha hd => mem_keepDue_of_due hd ha, fun hx =>
      keepDue_of_none fun a _ => Link.namesakes_of_none hx a, fun x before a after hx hl ht hc hs hlast => ?_⟩⟩
  · have hdue : reportDue e (s.link q).attempts = some (before ++ a.reported e :: after, a.reported e) := by
      rw [hl, reportDue_split e ha before hb]
    rw [exec_statusReport ho hdue]
    subst hu
    refine ⟨fun he hv her hn => ?_, fun he h => ?_, fun he hv => ?_, fun he hv => ?_⟩ <;> subst he
    · rw [State.judgeStatus_ok, if_pos ⟨hv, by simp [Attempt.reported, her], hn⟩]
      rfl
    · rw [State.judgeStatus_ok, if_neg]
      · rfl
      · rintro ⟨hv, her, hn⟩
        rcases h with h | h | h
        · simp [Attempt.reported, h] at hv
        · simp [Attempt.reported, h] at her
        · exact h hn
    · rw [State.judgeStatus_checkError, if_neg (by simp [Attempt.reported, hv])]
      rfl
    · rw [State.judgeStatus_checkError, if_pos (by exact hv)]
      rfl
  · have hown : l.namesakes a = true := (Link.namesakes_iff hx a).2 ⟨ht, hc, hs⟩
    have hafter : ∀ b ∈ after, l.namesakes b = false := fun b hb =>
      Bool.eq_false_iff.2 fun h => hlast b hb ((Link.namesakes_iff hx b).1 h)
    rw [Link.dropReported, hl, keepDue_split hown hafter before]

end Sys2Proof.Machine
end

section
/-! What the job table makes of a spoil: the records that it rewinds, and the job that it aborts (R135 to R137). -/

namespace Sys2Proof.Machine

open Sys2Proof

/-! ### A job at the head of its collection (R119) -/

/-- A job among others that are not of its tag, before the first of them that `same` names. -/
def placedBefore (same : Job → Bool) (others : List Job) (k : Job) : List Job :=
  others.takeWhile (fun x => !same x) ++ k :: others.dropWhile (fun x => !same x)

theorem moveToHead_eq (l : List Job) (k : Job) : moveToHead l k =
    if (l.filter (fun x => decide (x.tag ≠ k.tag))).any (fun x => decide (x.press = k.press) && decide (x.kind = k.kind)) then
      placedBefore (fun x => decide (x.press = k.press) && decide (x.kind = k.kind))
        (l.filter (fun x => decide (x.tag ≠ k.tag))) k
    else l.map (fun x => if x.tag = k.tag then k else x) := rfl

theorem mem_placedBefore {same : Job → Bool} {others : List Job} {k x : Job} :
    x ∈ placedBefore same others k ↔ x = k ∨ x ∈ others := by
  have hparts := others.takeWhile_append_dropWhile (p := fun y => !same y)
  conv_rhs => rw [← hparts]
  simp only [placedBefore, List.mem_append, List.mem_cons]
  tauto

/-- The other jobs keep their order. -/
theorem filter_placedBefore {same p : Job → Bool} {others : List Job} {k : Job} (hk : p k = false)
    (ho : ∀ x ∈ others, p x = true) : (placedBefore same others k).filter p = others := by
  rw [placedBefore, List.filter_append, List.filter_cons_of_neg (by simp [hk]), ← List.filter_append,
    List.takeWhile_append_dropWhile, List.filter_eq_self.2 ho]

theorem find_placedBefore {same : Job → Bool} {others : List Job} {k : Job} (hk : same k = true) :
    (placedBefore same others k).find? same = some k := by
  have hnone : (others.takeWhile fun x => !same x).find? same = none :=
    List.find?_eq_none.2 fun x hx => by simpa using List.mem_takeWhile_imp hx
  rw [placedBefore, List.find?_append, hnone, Option.none_or, List.find?_cons_of_pos hk]

section
variable {l : List Job} {k : Job}

/-- A job that moves to the head is the only record of its tag. -/
theorem eq_of_mem_moveToHead {x : Job} (hx : x ∈ moveToHead l k) (ht : x.tag = k.tag) : x = k := by
  rw [moveToHead_eq] at hx
  split at hx
  · refine (mem_placedBefore.1 hx).resolve_right fun h => ?_
    exact absurd ht (by simpa using List.of_mem_filter h)
  · obtain ⟨y, -, rfl⟩ := List.mem_map.1 hx
    by_cases hy : y.tag = k.tag
    · rw [if_pos hy]
    · rw [if_neg hy] at ht
      exact absurd ht hy

theorem self_mem_moveToHead (h : ∃ x ∈ l, x.tag = k.tag) : k ∈ moveToHead l k := by
  obtain ⟨x, hx, ht⟩ := h
  rw [moveToHead_eq]
  split
  · exact mem_placedBefore.2 (.inl rfl)
  · exact List.mem_map.2 ⟨x, hx, if_pos ht⟩

/-- The other jobs keep their order. -/
theorem filter_moveToHead :
    (moveToHead l k).filter (fun x => decide (x.tag ≠ k.tag)) = l.filter (fun x => decide (x.tag ≠ k.tag)) := by
  rw [moveToHead_eq]
  split
  · exact filter_placedBefore (by simp) fun x hx => List.of_mem_filter (p := fun x : Job => decide (x.tag ≠ k.tag)) hx
  · exact filter_replace l k

/-- The job is the first of its collection. -/
theorem head_moveToHead (h : ∃ x ∈ l, x.tag = k.tag) :
    ((moveToHead l k).filter (fun x => decide (x.press = k.press) && decide (x.kind = k.kind))).head? = some k := by
  rw [List.head?_filter]
  cases hany : (l.filter (fun x => decide (x.tag ≠ k.tag))).any
      (fun x => decide (x.press = k.press) && decide (x.kind = k.kind)) with
  | true =>
    rw [moveToHead_eq, if_pos hany]
    exact find_placedBefore (by simp)
  | false =>
    obtain ⟨x, hx⟩ : ∃ x, (moveToHead l k).find? (fun x => decide (x.press = k.press) && decide (x.kind = k.kind)) = some x :=
      Option.isSome_iff_exists.1 (List.find?_isSome.2 ⟨k, self_mem_moveToHead h, by simp⟩)
    have hmem := List.mem_of_find?_eq_some hx
    have hsame := List.find?_some hx
    rw [hx]
    by_cases ht : x.tag = k.tag
    · rw [eq_of_mem_moveToHead hmem ht]
    · have hother : x ∈ l.filter (fun x => decide (x.tag ≠ k.tag)) := by
        rw [← filter_moveToHead]
        exact List.mem_filter.2 ⟨hmem, decide_eq_true ht⟩
      exact absurd hsame (List.any_eq_false.1 hany x hother)

end

/-! ### The record of a spoiled job -/

/-- A record whose production moves to band 0 of a copy (R136). -/
def Job.rewound (j : Job) (copy : Nat) : Job := { j with resumeCopy := copy, resumeBand := 0, rewind := none }

/-- The proof suspension leaves the one record of a tag, or sets its job aside (R130). -/
theorem State.eq_of_mem_examineProof {s : State} {k x : Job} (hu : ∀ y ∈ s.jobs, y.tag = k.tag → y = k)
    (hx : x ∈ s.examineProof.jobs) (ht : x.tag = k.tag) : x = k ∨ k.kind = .run ∧ x = { k with state := .suspended } := by
  obtain h | ⟨a, ha, hrun, -, h⟩ := s.examineProof_cases
  · rw [h] at hx
    exact .inl (hu x hx ht)
  · rw [h] at hx
    obtain rfl | ⟨hx, -⟩ := State.mem_putJob (j := { a with state := .suspended }) hx
    · obtain rfl := hu a (State.activeJob_mem ha).1 ht
      exact .inr ⟨hrun, rfl⟩
    · exact .inl (hu x hx ht)

theorem State.examineProof_tags (s : State) : s.examineProof.jobs.map (·.tag) = s.jobs.map (·.tag) := s.recheckWait_tags

theorem State.examineProof_eq (s : State) :
    s.examineProof = { s with jobs := s.examineProof.jobs, renderer := s.examineProof.renderer } := s.recheckWait_eq

/-- The proof suspension moves no other job than the ACTIVE one (R130). -/
theorem State.filter_examineProof {s : State} {k : Job} (ha : s.activeJob = some k) :
    s.examineProof.jobs.filter (fun x => decide (x.tag ≠ k.tag)) = s.jobs.filter (fun x => decide (x.tag ≠ k.tag)) := by
  obtain h | ⟨a, haa, -, -, h⟩ := s.examineProof_cases
  · rw [h]
  · obtain rfl : k = a := Option.some.inj (ha.symm.trans haa)
    rw [h]
    exact s.filter_putJob { k with state := .suspended }

/-! ### The spoil taken (R135, R148) -/

/-- The state in which a spoil of job `j` is taken: the record has the new serial and count, COPY_SPOILED is latched, and a
counted spoil has handed its rule over. -/
def State.spoilTaken (s : State) (q : Press) (tag copy : Nat) (counted : Bool) (j : Job) : State :=
  let t := (s.putJob (j.spoiled counted)).latchAll .copySpoiled (.job tag)
  if counted then t.setLink q ((t.link q).setRule { tag := tag, copy := copy, serial := some (j.spoiled counted).serial }) else t

section
variable {s : State} {q : Press} {tag copy : Nat} {counted : Bool} {j : Job}

theorem State.takeSpoil_of_job (hj : s.reportJob tag = some j) : s.takeSpoil q tag copy counted =
    if counted = true ∧ 3 ≤ (j.spoiled counted).spoils then
      (s.spoilTaken q tag copy counted j).abortJob (j.spoiled counted)
    else (s.spoilTaken q tag copy counted j).rewindJob (j.spoiled counted) copy := by
  simp only [State.takeSpoil, hj]
  rfl

/-- Below the third counted spoil in a row the job rewinds. -/
theorem State.takeSpoil_rewinds (hj : s.reportJob tag = some j) (h : counted = true → j.spoils < 2) :
    s.takeSpoil q tag copy counted = (s.spoilTaken q tag copy counted j).rewindJob (j.spoiled counted) copy := by
  rw [State.takeSpoil_of_job hj, if_neg]
  rintro ⟨rfl, h3⟩
  have h2 := h rfl
  simp only [Job.spoiled, if_true] at h3
  omega

/-- The third counted spoil in a row aborts it (R137). -/
theorem State.takeSpoil_aborts (hj : s.reportJob tag = some j) (h : 2 ≤ j.spoils) :
    s.takeSpoil q tag copy true = (s.spoilTaken q tag copy true j).abortJob (j.spoiled true) := by
  rw [State.takeSpoil_of_job hj, if_pos]
  refine ⟨rfl, ?_⟩
  simp only [Job.spoiled, if_true]
  omega

theorem State.spoilTaken_eq (s : State) (q : Press) (tag copy : Nat) (counted : Bool) (j : Job) :
    s.spoilTaken q tag copy counted j =
      { s with
        jobs := (s.putJob (j.spoiled counted)).jobs
        ports := (s.latchAll .copySpoiled (.job tag)).ports
        links := (if counted then
            s.setLink q ((s.link q).setRule { tag := tag, copy := copy, serial := some ((j.serial + 1) % 256) })
          else s).links } := by
  cases counted <;> rfl

/-- A record stored in it for the job is stored in the table before. -/
theorem State.jobs_putJob_spoilTaken {k : Job} (hk : k.tag = j.tag) :
    ((s.spoilTaken q tag copy counted j).putJob k).jobs = (s.putJob k).jobs := by
  have h := s.putJob_putJob (k := j.spoiled counted) (k' := k) hk
  have hjobs := congrArg State.jobs h
  rw [State.spoilTaken_eq]
  exact hjobs

/-- COPY_SPOILED stands at every port. -/
theorem State.notices_spoilTaken (p : Port) :
    (tabFind ((s.spoilTaken q tag copy counted j).port p).notices 5).map (·.subject) = some (.job tag) := by
  rw [State.spoilTaken_eq]
  exact s.notices_latchAll .copySpoiled (.job tag) p

end

/-! ### The rewind, by the job's state (R136) -/

section
variable {s : State} {j : Job} {copy : Nat}

theorem State.rewindJob_idle (h : j.state = .waiting ∨ j.state = .suspended) :
    s.rewindJob j copy = s.putJob (j.rewound copy) := by
  unfold State.rewindJob
  split
  · rename_i ha
    simp [ha] at h
  · rename_i hd
    simp [hd] at h
  · rfl

theorem State.rewindJob_active (h : j.state = .active) : s.rewindJob j copy =
    if s.renderer.band.isSome then s.putJob { j with rewind := some (lowerRewind j.rewind copy) }
    else (s.putJob (j.rewound copy)).examineProof := by
  unfold State.rewindJob
  split
  · rfl
  · rename_i hd
    simp [hd] at h
  · rename_i hna _
    exact absurd h hna

theorem State.rewindJob_draining (h : j.state = .draining) :
    s.rewindJob j copy = { s with jobs := moveToHead s.jobs { j.rewound copy with state := .waiting } } := by
  unfold State.rewindJob
  split
  · rename_i ha
    simp [ha] at h
  · rfl
  · rename_i _ hnd
    exact absurd h hnd

/-- A rewind moves the job table and the renderer alone. -/
theorem State.rewindJob_frame (s : State) (j : Job) (copy : Nat) :
    { s.rewindJob j copy with jobs := s.jobs, renderer := s.renderer } = s := by
  unfold State.rewindJob
  split
  · split
    · rfl
    · rw [State.examineProof_eq]
      rfl
  · rfl
  · rfl

end

end Sys2Proof.Machine
end

section
/-! The dead rule of a job, and the link's own part of a spoil (R148, R150). -/

namespace Sys2Proof.Machine

open Sys2Proof

/-- The least of a number and of those of a list is one of them, and at most each of them. -/
theorem foldl_min_spec (c : Nat) (l : List Nat) : l.foldl min c ∈ c :: l ∧ ∀ x ∈ c :: l, l.foldl min c ≤ x :=
  List.min?_eq_some_iff.1 List.min?_cons'

/-- What a rule makes dead (R148). -/
theorem DeadRule.kills_iff (r : DeadRule) (tag copy serial : Nat) : r.kills tag copy serial = true ↔
    r.tag = tag ∧ r.copy ≤ copy ∧ ∀ v, r.serial = some v → serial ≠ v := by
  unfold DeadRule.kills
  cases r.serial <;> simp [and_assoc]

theorem DeadRule.kills_of_noSerial {tag copy c : Nat} (serial : Nat) (h : copy ≤ c) :
    ({ tag := tag, copy := copy, serial := none } : DeadRule).kills tag c serial = true :=
  (DeadRule.kills_iff ..).2 ⟨rfl, h, nofun⟩

/-! ### Attempts made dead (R148) -/

section
variable {l : Link} {dead : Nat → Nat → Nat → Bool}

/-- The records that are dead are void. -/
theorem Link.voided_of_kill {a : Attempt} (ha : a ∈ (l.kill dead).attempts) (hd : dead a.tag a.copy a.serial = true) :
    a.voided = true := by
  obtain ⟨b, -, hb⟩ := List.mem_map.1 (mem_keepDue ha)
  split at hb
  · rw [← hb]
  · rename_i hnot
    rw [← hb] at hd
    exact absurd hd hnot

/-- A record that is not dead and has a report due stays. -/
theorem Link.mem_kill {a : Attempt} (ha : a ∈ l.attempts) (hdue : a.received < a.sent)
    (hd : dead a.tag a.copy a.serial = false) : a ∈ (l.kill dead).attempts :=
  mem_keepDue_of_due hdue (List.mem_map.2 ⟨a, ha, if_neg (by simp [hd])⟩)

theorem Link.kill_transmission :
    (l.kill dead).transmission = l.transmission.filter (fun t => !dead t.tag t.copy t.serial) := rfl

/-- The attempt that goes on in transmission is not dead. -/
theorem Link.not_dead_of_transmission {t : Transmission} (h : (l.kill dead).transmission = some t) :
    dead t.tag t.copy t.serial = false := by
  rw [Link.kill_transmission, Option.filter_eq_some_iff] at h
  simpa using h.2

/-- The dead frames at the head are removed, and no other. -/
theorem Link.kill_fifo :
    (∃ frames, l.fifo = frames ++ (l.kill dead).fifo ∧ ∀ f ∈ frames, (l.kill dead).isDead f = true) ∧
      ∀ f, (l.kill dead).fifo.head? = some f → (l.kill dead).isDead f = false := by
  have hfifo : (l.kill dead).fifo = l.fifo.dropWhile (l.kill dead).isDead := rfl
  refine ⟨⟨l.fifo.takeWhile (l.kill dead).isDead, ?_, fun f hf => List.mem_takeWhile_imp hf⟩, fun f hf => ?_⟩
  · rw [hfifo, List.takeWhile_append_dropWhile]
  · have h := List.head?_dropWhile_not (l.kill dead).isDead l.fifo
    rw [← hfifo, hf] at h
    simpa using h

end

/-! ### The link's part of a spoil (R150) -/

section
variable {l : Link} {tag copy : Nat}

/-- The rule's copy is the least of the spoiled copy and of those of the job's rules. -/
theorem Link.ruleCopy_spec (l : Link) (tag copy : Nat) :
    l.ruleCopy tag copy ≤ copy ∧ (∀ o ∈ l.rules, o.tag = tag → l.ruleCopy tag copy ≤ o.copy) ∧
      (l.ruleCopy tag copy = copy ∨ ∃ o ∈ l.rules, o.tag = tag ∧ l.ruleCopy tag copy = o.copy) := by
  have hfold : l.ruleCopy tag copy =
      ((l.rules.filter (fun o => decide (o.tag = tag))).map (·.copy)).foldl min copy := by
    rw [List.foldl_map]
    rfl
  obtain ⟨hmem, hle⟩ := foldl_min_spec copy ((l.rules.filter (fun o => decide (o.tag = tag))).map (·.copy))
  rw [← hfold] at hmem hle
  refine ⟨hle _ (List.mem_cons_self ..), fun o ho ht => hle _ (List.mem_cons_of_mem _ (List.mem_map.2 ⟨o, ?_, rfl⟩)), ?_⟩
  · exact List.mem_filter.2 ⟨ho, decide_eq_true ht⟩
  · refine (List.mem_cons.1 hmem).imp_right fun h => ?_
    obtain ⟨o, ho, hc⟩ := List.mem_map.1 h
    obtain ⟨hor, hot⟩ := List.mem_filter.1 ho
    exact ⟨o, hor, of_decide_eq_true hot, hc.symm⟩

theorem Link.keepsRule_iff : l.keepsRule tag copy = true ↔ ∃ o ∈ l.rules, o.tag = tag ∧ o.copy < copy := by
  simp [Link.keepsRule, List.any_eq_true]

/-- A lower rule that stands is kept where the job table takes the spoil. -/
theorem Link.spoilRule_kept (h : ∃ o ∈ l.rules, o.tag = tag ∧ o.copy < copy) :
    l.spoilRule tag copy true = l.kill ({ tag := tag, copy := copy, serial := none } : DeadRule).kills := by
  rw [Link.spoilRule, Link.keepsRule_iff.2 h]
  rfl

/-- Where no lower rule stands the job's rule is set to the spoiled copy. -/
theorem Link.spoilRule_set (h : ∀ o ∈ l.rules, o.tag = tag → copy ≤ o.copy) :
    l.spoilRule tag copy true = l.setRule { tag := tag, copy := copy, serial := none } := by
  have hkeeps : l.keepsRule tag copy = false :=
    Bool.eq_false_iff.2 fun hk => by
      obtain ⟨o, ho, ht, hc⟩ := Link.keepsRule_iff.1 hk
      exact absurd (h o ho ht) (by omega)
  have hcopy : l.ruleCopy tag copy = copy := by
    obtain ⟨hle, -, hc | ⟨o, ho, ht, hc⟩⟩ := l.ruleCopy_spec tag copy
    · exact hc
    · have := h o ho ht
      omega
  rw [Link.spoilRule, hkeeps, hcopy]
  rfl

/-- Either way the attempts of the job at the spoiled copy and later are dead. -/
theorem Link.spoilRule_taken (l : Link) (tag copy : Nat) : ∃ l' : Link,
    l.spoilRule tag copy true = l'.kill ({ tag := tag, copy := copy, serial := none } : DeadRule).kills := by
  by_cases h : ∃ o ∈ l.rules, o.tag = tag ∧ o.copy < copy
  · exact ⟨l, Link.spoilRule_kept h⟩
  · refine ⟨_, Link.spoilRule_set fun o ho ht => ?_⟩
    by_contra hc
    exact h ⟨o, ho, ht, by omega⟩

end

end Sys2Proof.Machine
end

section
/-! Spoils: the theorem that settles O38. -/

namespace Sys2Proof.Machine

open Sys2Proof

/-! ### What the end of a job and an abort leave -/

/-- The end of a job latches its own notice and PORTRAIT_PROMOTED at most. -/
theorem State.endJob_notices_other (s : State) (j : Job) {notice : Notice} (p : Port) {n : Nat} (h : n ≠ notice.flag)
    (h9 : n ≠ 9) : tabFind ((s.endJob j notice).port p).notices n = tabFind (s.port p).notices n := by
  have hport : (s.jobLeft j notice).port p = (s.latchAt j.port notice (.job j.tag)).port p := by
    rw [State.jobLeft_eq]
    rfl
  rw [State.endJob_eq, State.notices_examine _ _ _ h9, hport, State.notices_latchAt_other _ _ _ _ h]

theorem State.endJob_counters (s : State) (j : Job) (notice : Notice) : (s.endJob j notice).counters = s.counters := by
  have hframe := congrArg State.counters ((s.jobLeft j notice).examine_frame (distinct (s.jobPins j)))
  rw [State.endJob_eq]
  refine Eq.trans hframe ?_
  rw [State.jobLeft_eq]

theorem State.abortJob_counters (s : State) (j : Job) : (s.abortJob j).counters = s.counters := by
  unfold State.abortJob
  split
  · rfl
  · exact State.endJob_counters ..

theorem State.abortJob_notices (s : State) (j : Job) (p : Port) :
    tabFind ((s.abortJob j).port p).notices 5 = tabFind (s.port p).notices 5 := by
  unfold State.abortJob
  split
  · rfl
  · exact State.endJob_notices_other (s.putJob j) j p (by decide) (by decide)

/-! ### A spoil that rewinds (R135, R136) -/

section
variable {s : State} {q : Press} {tag copy : Nat} {counted : Bool} {j : Job}

/-- Outside the jobs, the ports, the links and the renderer a rewinding spoil moves nothing. -/
theorem State.takeSpoil_frame (hj : s.reportJob tag = some j) (h : counted = true → j.spoils < 2) :
    (s.takeSpoil q tag copy counted).links = (if counted then
        s.setLink q ((s.link q).setRule { tag := tag, copy := copy, serial := some ((j.serial + 1) % 256) }) else s).links ∧
      (s.takeSpoil q tag copy counted).ports = (s.latchAll .copySpoiled (.job tag)).ports ∧
      { s.takeSpoil q tag copy counted with
        jobs := s.jobs, ports := s.ports, links := s.links, renderer := s.renderer } = s := by
  have hframe := (s.spoilTaken q tag copy counted j).rewindJob_frame (j.spoiled counted) copy
  have hlinks := congrArg State.links hframe
  have hports := congrArg State.ports hframe
  have hrest := congrArg (fun t : State => { t with jobs := s.jobs, ports := s.ports, links := s.links, renderer := s.renderer })
    hframe
  rw [State.takeSpoil_rewinds hj h]
  refine ⟨hlinks.trans ?_, hports.trans ?_, hrest.trans ?_⟩ <;> rw [State.spoilTaken_eq]

/-- A WAITING or SUSPENDED job moves its resume point. -/
theorem State.takeSpoil_idle (hj : s.reportJob tag = some j) (h : counted = true → j.spoils < 2)
    (hst : j.state = .waiting ∨ j.state = .suspended) :
    (s.takeSpoil q tag copy counted).jobs = (s.putJob ((j.spoiled counted).rewound copy)).jobs := by
  rw [State.takeSpoil_rewinds hj h, State.rewindJob_idle (j := j.spoiled counted) hst]
  exact State.jobs_putJob_spoilTaken rfl

/-- The ACTIVE job with a band in production keeps the lowest spoiled copy. -/
theorem State.takeSpoil_inBand (hj : s.reportJob tag = some j) (h : counted = true → j.spoils < 2) (hst : j.state = .active)
    (hb : s.renderer.band.isSome) : (s.takeSpoil q tag copy counted).jobs =
      (s.putJob { j.spoiled counted with rewind := some (lowerRewind j.rewind copy) }).jobs := by
  have hband : (s.spoilTaken q tag copy counted j).renderer.band.isSome := by rw [State.spoilTaken_eq]; exact hb
  rw [State.takeSpoil_rewinds hj h, State.rewindJob_active (j := j.spoiled counted) hst, if_pos hband]
  exact State.jobs_putJob_spoilTaken rfl

/-- With none in production it moves at once, and a proof may take the renderer. -/
theorem State.takeSpoil_noBand (hj : s.reportJob tag = some j) (h : counted = true → j.spoils < 2) (hst : j.state = .active)
    (hb : s.renderer.band = none) : ∃ v : State, v.jobs = (s.putJob ((j.spoiled counted).rewound copy)).jobs ∧
      (s.takeSpoil q tag copy counted).jobs = v.examineProof.jobs := by
  have hband : ¬(s.spoilTaken q tag copy counted j).renderer.band.isSome := by rw [State.spoilTaken_eq]; simp [hb]
  refine ⟨(s.spoilTaken q tag copy counted j).putJob ((j.spoiled counted).rewound copy), State.jobs_putJob_spoilTaken rfl, ?_⟩
  rw [State.takeSpoil_rewinds hj h, State.rewindJob_active (j := j.spoiled counted) hst, if_neg hband]

/-- A DRAINING job goes to the head of its collection. -/
theorem State.takeSpoil_draining (hj : s.reportJob tag = some j) (h : counted = true → j.spoils < 2)
    (hst : j.state = .draining) : (s.takeSpoil q tag copy counted).jobs =
      moveToHead (s.putJob (j.spoiled counted)).jobs { (j.spoiled counted).rewound copy with state := .waiting } := by
  rw [State.takeSpoil_rewinds hj h, State.rewindJob_draining (j := j.spoiled counted) hst, State.spoilTaken_eq]

/-- The job stays in the table. -/
theorem State.takeSpoil_keepsJob (hj : s.reportJob tag = some j) (h : counted = true → j.spoils < 2) :
    ∃ x ∈ (s.takeSpoil q tag copy counted).jobs, x.tag = j.tag := by
  obtain ⟨hmem, -⟩ := State.reportJob_mem hj
  cases hst : j.state with
  | waiting =>
    rw [State.takeSpoil_idle hj h (.inl hst)]
    exact ⟨_, State.mem_putJob_self hmem rfl, rfl⟩
  | suspended =>
    rw [State.takeSpoil_idle hj h (.inr hst)]
    exact ⟨_, State.mem_putJob_self hmem rfl, rfl⟩
  | draining =>
    rw [State.takeSpoil_draining hj h hst]
    exact ⟨_, self_mem_moveToHead ⟨_, State.mem_putJob_self (k := j.spoiled counted) hmem rfl, rfl⟩, rfl⟩
  | active =>
    cases hb : s.renderer.band with
    | some b =>
      rw [State.takeSpoil_inBand hj h hst (by simp [hb])]
      exact ⟨_, State.mem_putJob_self hmem rfl, rfl⟩
    | none =>
      obtain ⟨v, hv, hjobs⟩ := State.takeSpoil_noBand (q := q) (copy := copy) hj h hst hb
      have htag : j.tag ∈ v.examineProof.jobs.map (·.tag) := by
        rw [State.examineProof_tags, hv, State.putJob_tags]
        exact List.mem_map_of_mem hmem
      rw [hjobs]
      exact List.mem_map.1 htag

/-- No other job moves. -/
theorem State.takeSpoil_others (hj : s.reportJob tag = some j) (h : counted = true → j.spoils < 2)
    (ha : j.state = .active → s.activeJob = some j) :
    (s.takeSpoil q tag copy counted).jobs.filter (fun x => decide (x.tag ≠ j.tag)) =
      s.jobs.filter (fun x => decide (x.tag ≠ j.tag)) := by
  obtain ⟨hmem, -⟩ := State.reportJob_mem hj
  have hrewound := s.filter_putJob ((j.spoiled counted).rewound copy)
  cases hst : j.state with
  | waiting => rw [State.takeSpoil_idle hj h (.inl hst)]; exact hrewound
  | suspended => rw [State.takeSpoil_idle hj h (.inr hst)]; exact hrewound
  | draining =>
    rw [State.takeSpoil_draining hj h hst]
    exact (filter_moveToHead (k := { (j.spoiled counted).rewound copy with state := .waiting })).trans
      (s.filter_putJob (j.spoiled counted))
  | active =>
    cases hb : s.renderer.band with
    | some b =>
      rw [State.takeSpoil_inBand hj h hst (by simp [hb])]
      exact s.filter_putJob { j.spoiled counted with rewind := some (lowerRewind j.rewind copy) }
    | none =>
      obtain ⟨v, hv, hjobs⟩ := State.takeSpoil_noBand (q := q) (copy := copy) hj h hst hb
      have hactive : v.activeJob = some ((j.spoiled counted).rewound copy) := by
        have hput : (s.putJob ((j.spoiled counted).rewound copy)).activeJob = some ((j.spoiled counted).rewound copy) :=
          State.activeJob_putJob hmem rfl hst fun a h => Option.some.inj (h.symm.trans (ha hst))
        unfold State.activeJob at hput ⊢
        rwa [hv]
      have hfilter := State.filter_examineProof hactive
      rw [hv] at hfilter
      rw [hjobs]
      exact hfilter.trans hrewound

end

/-! ### Every spoil -/

/-- A spoil counts nothing by itself. -/
theorem State.takeSpoil_counters (s : State) (q : Press) (tag copy : Nat) (counted : Bool) :
    (s.takeSpoil q tag copy counted).counters = s.counters := by
  cases hj : s.reportJob tag with
  | none => rw [(State.takeSpoil_none hj q copy counted).1]
  | some j =>
    have hframe := (s.spoilTaken q tag copy counted j).rewindJob_frame (j.spoiled counted) copy
    have hcounters := congrArg State.counters hframe
    have htaken : (s.spoilTaken q tag copy counted j).counters = s.counters := by rw [State.spoilTaken_eq]
    rw [State.takeSpoil_of_job hj]
    split
    · exact (State.abortJob_counters ..).trans htaken
    · exact hcounters.trans htaken

/-- A spoil that the job table takes latches COPY_SPOILED everywhere (R135). -/
theorem State.takeSpoil_notices {s : State} {tag : Nat} {j : Job} (hj : s.reportJob tag = some j) (q : Press) (copy : Nat)
    (counted : Bool) (p : Port) :
    (tabFind ((s.takeSpoil q tag copy counted).port p).notices 5).map (·.subject) = some (.job tag) := by
  have hframe := (s.spoilTaken q tag copy counted j).rewindJob_frame (j.spoiled counted) copy
  have hports := congrArg (fun t : State => t.port p) hframe
  have hport : ((s.spoilTaken q tag copy counted j).rewindJob (j.spoiled counted) copy).port p =
      (s.spoilTaken q tag copy counted j).port p := hports
  rw [State.takeSpoil_of_job hj]
  split
  · rw [State.abortJob_notices]
    exact State.notices_spoilTaken p
  · rw [hport]
    exact State.notices_spoilTaken p

section
variable {s : State} {q : Press} {tag copy : Nat} {j : Job}

/-- The third counted spoil in a row marks the job that has a band in production (R137). -/
theorem State.takeSpoil_marks (hj : s.reportJob tag = some j) (h : 2 ≤ j.spoils) (ha : j.state = .active)
    (hb : s.renderer.band.isSome) : s.onlyJobMoves (s.takeSpoil q tag copy true)
      { j with serial := (j.serial + 1) % 256, spoils := j.spoils + 1, ending := .aborted } := by
  have hband : (s.spoilTaken q tag copy true j).renderer.band.isSome := by rw [State.spoilTaken_eq]; exact hb
  have hjobs : ((s.spoilTaken q tag copy true j).putJob { j.spoiled true with ending := .aborted }).jobs =
      (s.putJob { j.spoiled true with ending := .aborted }).jobs := State.jobs_putJob_spoilTaken rfl
  have hmoves : s.onlyJobMoves (s.putJob { j.spoiled true with ending := .aborted }) { j.spoiled true with ending := .aborted } :=
    State.onlyJobMoves_putJob (State.reportJob_mem hj).1 rfl
  rw [State.takeSpoil_aborts hj h, State.abortJob, if_pos ⟨ha, hband⟩]
  unfold State.onlyJobMoves at hmoves ⊢
  rwa [hjobs]

/-- It ends any other job at once. -/
theorem State.takeSpoil_ends (hj : s.reportJob tag = some j) (h : 2 ≤ j.spoils)
    (hn : j.state ≠ .active ∨ s.renderer.band = none) :
    (s.takeSpoil q tag copy true).jobs = s.jobs.filter (fun k => decide (k.tag ≠ tag)) ∧
      (tabFind ((s.takeSpoil q tag copy true).port j.port).notices 3).map (·.subject) = some (.job tag) := by
  obtain ⟨-, rfl⟩ := State.reportJob_mem hj
  have hidle : ¬((j.spoiled true).state = .active ∧ (s.spoilTaken q j.tag copy true j).renderer.band.isSome) := by
    rintro ⟨ha, hb⟩
    have hband := hn.resolve_left (not_not.2 ha)
    rw [State.spoilTaken_eq] at hb
    simp [hband] at hb
  rw [State.takeSpoil_aborts hj h, State.abortJob, if_neg hidle]
  obtain ⟨hnotice, -⟩ := ((s.spoilTaken q j.tag copy true j).putJob (j.spoiled true)).endJob_notices (j.spoiled true)
    (notice := .jobAborted) (.inr rfl)
  refine ⟨?_, hnotice⟩
  have hjobs : ((s.spoilTaken q j.tag copy true j).putJob (j.spoiled true)).jobs = (s.putJob (j.spoiled true)).jobs :=
    State.jobs_putJob_spoilTaken rfl
  rw [State.endJob_jobs, hjobs]
  exact s.filter_putJob (j.spoiled true)

/-! ### The spoil by the link (R150) -/

/-- The state in which the link has done its own part of a spoil. -/
def State.linkSpoiled (s : State) (q : Press) (tag copy : Nat) : State :=
  (s.setLink q ((s.link q).spoilRule tag copy (s.reportJob tag).isSome)).raise (pressUnit q) 3

theorem State.linkSpoil_eq (s : State) (q : Press) (tag copy : Nat) :
    s.linkSpoil q tag copy = (s.linkSpoiled q tag copy).takeSpoil q tag copy true := rfl

theorem State.linkSpoiled_jobs (s : State) (q : Press) (tag copy : Nat) : (s.linkSpoiled q tag copy).jobs = s.jobs :=
  State.raise_jobs ..

theorem State.linkSpoiled_reportJob (s : State) (q : Press) (tag copy t : Nat) :
    (s.linkSpoiled q tag copy).reportJob t = s.reportJob t := by
  simp only [State.reportJob, State.jobOf, State.linkSpoiled_jobs]

theorem State.link_raise (s : State) (u i : Nat) (q : Press) : (s.raise u i).link q = s.link q := by
  simp only [State.link, State.raise_links]

theorem State.linkSpoiled_link (s : State) (q : Press) (tag copy : Nat) :
    (s.linkSpoiled q tag copy).link q = (s.link q).spoilRule tag copy (s.reportJob tag).isSome :=
  (State.link_raise ..).trans (State.link_setLink_self ..)

/-- A raise moves the counters, and the ports that it latches at. -/
theorem State.raise_frame (s : State) (u i : Nat) : { s.raise u i with ports := s.ports, counters := s.counters } = s := by
  unfold State.raise
  split <;> rfl

theorem State.linkSpoiled_frame (s : State) (q : Press) (tag copy : Nat) :
    { s.linkSpoiled q tag copy with links := s.links, ports := s.ports, counters := s.counters } = s := by
  have h := congrArg (fun t : State => { t with links := s.links })
    ((s.setLink q ((s.link q).spoilRule tag copy (s.reportJob tag).isSome)).raise_frame (pressUnit q) 3)
  exact h

theorem State.linkSpoil_counters (s : State) (q : Press) (tag copy : Nat) :
    (s.linkSpoil q tag copy).counters = (s.raise (pressUnit q) 3).counters :=
  (State.takeSpoil_counters ..).trans (State.raise_counters_congr _ _ _ _ rfl)

end

/-- Settles O38: the spoil by the job's state, the third in a row, the dead rule, and the spoil by the link. -/
theorem aSpoilRewindsOrAborts : Obligations.ASpoilRewindsOrAborts := by
  unfold Obligations.ASpoilRewindsOrAborts
  refine ⟨fun s q tag copy counted j k hj h hk => ?_, fun s q tag copy => ?_, fun l r => ?_, fun s q tag copy => ?_⟩
  · obtain ⟨hmem, rfl⟩ := State.reportJob_mem hj
    obtain rfl : k = j.spoiled counted := by
      rw [hk]
      cases counted <;> rfl
    obtain ⟨hlinks, -, hrest⟩ := State.takeSpoil_frame (q := q) (copy := copy) hj h
    have hcounters := congrArg State.counters hrest
    have hsheets := congrArg State.sheets hrest
    refine ⟨fun hst x hx ht => ?_, fun hst hb x hx ht => ?_, fun hst hb x hx ht => ?_, fun hst x hx ht => ?_,
      State.takeSpoil_keepsJob hj h, State.takeSpoil_others hj h, ?_, hcounters, hsheets⟩
    · rw [State.takeSpoil_idle hj h hst] at hx
      exact State.eq_of_mem_putJob hx ht
    · rw [State.takeSpoil_inBand hj h hst hb] at hx
      rw [State.eq_of_mem_putJob hx ht]
      cases j.rewind <;> rfl
    · obtain ⟨v, hv, hjobs⟩ := State.takeSpoil_noBand (q := q) (copy := copy) hj h hst hb
      rw [hjobs] at hx
      refine State.eq_of_mem_examineProof (k := (j.spoiled counted).rewound copy) (fun y hy hyt => ?_) hx ht
      exact State.eq_of_mem_putJob (hv ▸ hy) hyt
    · have hthere : ∃ y ∈ (s.putJob (j.spoiled counted)).jobs,
          y.tag = ({ (j.spoiled counted).rewound copy with state := .waiting } : Job).tag :=
        ⟨_, State.mem_putJob_self (k := j.spoiled counted) hmem rfl, rfl⟩
      have hjobs := State.takeSpoil_draining (q := q) (copy := copy) hj h hst
      have hhead := head_moveToHead hthere
      rw [hjobs] at hx
      obtain rfl := eq_of_mem_moveToHead hx ht
      refine ⟨rfl, ?_⟩
      rw [State.collection, hjobs]
      exact hhead
    · rw [hlinks]
      split <;> rfl
  · exact ⟨fun j counted hj p => State.takeSpoil_notices hj q copy counted p, fun j hj => State.takeSpoil_marks hj,
      fun j hj => State.takeSpoil_ends hj, fun hn counted => (State.takeSpoil_none hn q copy counted).1,
      fun hn => (State.takeSpoil_none hn q copy true).2⟩
  · obtain ⟨hfifo, hhead⟩ := Link.kill_fifo
      (l := { l with rules := l.rules.filter (fun o => decide (o.tag ≠ r.tag)) ++ [r] }) (dead := r.kills)
    exact ⟨rfl, r.kills_iff, fun a ha hk => Link.voided_of_kill ha hk, fun a ha hd hk => Link.mem_kill ha hd hk, rfl, hfifo,
      hhead⟩
  · refine ⟨s.linkSpoil_counters q tag copy, fun j hj => ⟨s.linkSpoiled q tag copy, rfl,
      (State.linkSpoiled_reportJob ..).trans hj, s.linkSpoiled_jobs q tag copy, ?_⟩, fun hn => ?_⟩
    · have hlink := s.linkSpoiled_link q tag copy
      rw [hj, Option.isSome_some] at hlink
      obtain ⟨l', hkill⟩ := (s.link q).spoilRule_taken tag copy
      rw [hlink]
      refine ⟨fun a ha ht hc => ?_, fun t ht htag => ?_, fun h => ?_, fun h => ?_, s.linkSpoiled_frame q tag copy⟩
      · rw [hkill] at ha
        exact Link.voided_of_kill ha (ht ▸ DeadRule.kills_of_noSerial a.serial hc)
      · rw [hkill] at ht
        have hd := Link.not_dead_of_transmission ht
        by_contra hc
        rw [htag, DeadRule.kills_of_noSerial _ (not_lt.1 hc)] at hd
        cases hd
      · rw [Link.spoilRule_set h]
        rfl
      · rw [Link.spoilRule_kept h]
        rfl
    · have hspoil : s.linkSpoil q tag copy = s.linkSpoiled q tag copy := by
        rw [State.linkSpoil_eq, (State.takeSpoil_none ((State.linkSpoiled_reportJob ..).trans hn) q copy true).1]
      have hlink := s.linkSpoiled_link q tag copy
      rw [hn, Option.isSome_none, Link.spoilRule_ignored] at hlink
      have hrules : ((s.linkSpoiled q tag copy).link q).rules = (s.link q).rules.filter (fun o => decide (o.tag ≠ tag)) ++
          [{ tag := tag, copy := (s.link q).ruleCopy tag copy, serial := none }] := by
        rw [hlink]
        rfl
      obtain ⟨hle, hall, hfrom⟩ := (s.link q).ruleCopy_spec tag copy
      rw [hspoil, hrules]
      refine ⟨⟨_, List.mem_append_right _ (List.mem_singleton_self _), rfl, rfl, hle, hall, hfrom⟩, fun r hr ht => ?_,
        s.linkSpoiled_jobs q tag copy⟩
      rcases List.mem_append.1 hr with hr | hr
      · exact absurd ht (by simpa using List.of_mem_filter hr)
      · rw [List.mem_singleton.1 hr]

end Sys2Proof.Machine
end

section
/-! The online line: the theorem that settles O45. -/

namespace Sys2Proof.Machine

open Sys2Proof

/-! ### Lists -/

/-- Each member kept at its first place stands once. -/
theorem nodup_eraseDups {α : Type} [BEq α] [LawfulBEq α] : ∀ l : List α, l.eraseDups.Nodup
  | [] => by simp
  | a :: l => by
    rw [List.eraseDups_cons]
    refine List.nodup_cons.2 ⟨?_, nodup_eraseDups _⟩
    simp [List.mem_eraseDups]
termination_by l => l.length
decreasing_by exact Nat.lt_succ_of_le (List.length_filter_le ..)

theorem distinct_sublist : ∀ l : List Nat, (distinct l).Sublist l
  | [] => .slnil
  | _ :: l => (List.filter_sublist.trans (distinct_sublist l)).cons_cons _

/-! ### Unconfirmed attempts (R153) -/

theorem Link.mem_unconfirmed (l : Link) (n c v : Nat) : (n, c, v) ∈ l.unconfirmed ↔
    (∃ a ∈ l.attempts, a.voided = false ∧ a.tag = n ∧ a.copy = c ∧ a.serial = v) ∨
      ∃ f ∈ l.fifo, l.isDead f = false ∧ f.tag = n ∧ f.copy = c ∧ f.serial = v := by
  simp [Link.unconfirmed, List.mem_eraseDups, and_assoc]

/-- A job's lowest copy is that of one of its attempts, and at most that of each. -/
theorem lowestCopy_spec {as : List (Nat × Nat × Nat)} {x : Nat × Nat × Nat} (hx : x ∈ as) :
    lowestCopy as x.1 ≤ x.2.1 ∧ ∃ y ∈ as, y.1 = x.1 ∧ y.2.1 = lowestCopy as x.1 := by
  have hcopy : x.2.1 ∈ (as.filter (fun a => decide (a.1 = x.1))).map (·.2.1) :=
    List.mem_map_of_mem (List.mem_filter.2 ⟨hx, decide_eq_true rfl⟩)
  cases hl : (as.filter (fun a => decide (a.1 = x.1))).map (·.2.1) with
  | nil =>
    rw [hl] at hcopy
    cases hcopy
  | cons c cs =>
    obtain ⟨hmem, hle⟩ := foldl_min_spec c cs
    have hlow : lowestCopy as x.1 = cs.foldl min c := by simp only [lowestCopy, hl]
    rw [← hl, ← hlow] at hmem hle
    obtain ⟨y, hy, hyc⟩ := List.mem_map.1 hmem
    obtain ⟨hya, hyt⟩ := List.mem_filter.1 hy
    exact ⟨hle _ hcopy, y, hya, of_decide_eq_true hyt, hyc⟩

/-! ### A counter raised several times (R187) -/

section
variable (s : State) (u i n : Nat)

theorem State.raiseTimes_eq : s.raiseTimes u i n =
    { s with ports := (s.raiseTimes u i n).ports, counters := (s.raiseTimes u i n).counters } := by
  induction n generalizing s with
  | zero => rfl
  | succ n ih =>
    have hraise := congrArg (fun t : State => { t with
      ports := (s.raiseTimes u i (n + 1)).ports, counters := (s.raiseTimes u i (n + 1)).counters }) (s.raise_frame u i)
    exact (ih (s.raise u i)).trans hraise

theorem State.notices_raiseTimes (p : Port) {m : Nat} (h : m ≠ 11) :
    tabFind ((s.raiseTimes u i n).port p).notices m = tabFind (s.port p).notices m := by
  induction n generalizing s with
  | zero => rfl
  | succ n ih => exact (ih (s.raise u i)).trans (s.notices_raise u i p h)

theorem State.raiseTimes_counters_congr {s t : State} (h : s.counters = t.counters) :
    (s.raiseTimes u i n).counters = (t.raiseTimes u i n).counters := by
  induction n generalizing s t with
  | zero => exact h
  | succ n ih => exact ih (State.raise_counters_congr s t u i h)

end

/-! ### The uncounted spoils of a fall (R153) -/

/-- The state after an uncounted spoil of each job of a list at its lowest copy. -/
def State.lose (s : State) (q : Press) (lost : List (Nat × Nat × Nat)) (tags : List Nat) : State :=
  tags.foldl (fun v tag => v.takeSpoil q tag (lowestCopy lost tag) false) s

section
variable (s : State) (q : Press)

/-- An uncounted spoil moves the jobs, the ports and the renderer alone. -/
theorem State.takeSpoil_uncounted (tag copy : Nat) :
    { s.takeSpoil q tag copy false with jobs := s.jobs, ports := s.ports, renderer := s.renderer } = s := by
  cases hj : s.reportJob tag with
  | none => rw [(State.takeSpoil_none hj q copy false).1]
  | some j =>
    obtain ⟨hlinks, -, hrest⟩ := State.takeSpoil_frame (q := q) (copy := copy) (counted := false) hj nofun
    have hlinks : (s.takeSpoil q tag copy false).links = s.links := hlinks
    rw [← hlinks] at hrest
    exact hrest

theorem State.lose_frame (lost : List (Nat × Nat × Nat)) (tags : List Nat) :
    { s.lose q lost tags with jobs := s.jobs, ports := s.ports, renderer := s.renderer } = s :=
  List.foldlRecOn (motive := fun v : State => { v with jobs := s.jobs, ports := s.ports, renderer := s.renderer } = s) tags _
    rfl fun v hv tag _ => by
      have hspoil := congrArg (fun t : State => { t with jobs := s.jobs, ports := s.ports, renderer := s.renderer })
        (v.takeSpoil_uncounted q tag (lowestCopy lost tag))
      exact hspoil.trans hv

/-- COPY_SPOILED that stands at a port stands there after a spoil. -/
theorem State.takeSpoil_keepsNotice {p : Port} (tag copy : Nat) (counted : Bool)
    (h : (tabFind (s.port p).notices 5).isSome) :
    (tabFind ((s.takeSpoil q tag copy counted).port p).notices 5).isSome := by
  cases hj : s.reportJob tag with
  | none => rwa [(State.takeSpoil_none hj q copy counted).1]
  | some j =>
    have hset := State.takeSpoil_notices hj q copy counted p
    rw [← Option.isSome_map, hset]
    rfl

/-- A spoil that the job table takes leaves COPY_SPOILED at every port (R135): those before the first one taken change
nothing, and none clears it. -/
theorem State.lose_notices (lost : List (Nat × Nat × Nat)) {tags : List Nat} (h : ∃ tag ∈ tags, (s.reportJob tag).isSome)
    (p : Port) : (tabFind ((s.lose q lost tags).port p).notices 5).isSome := by
  induction tags with
  | nil =>
    obtain ⟨tag, hmem, -⟩ := h
    cases hmem
  | cons tag tags ih =>
    cases hj : s.reportJob tag with
    | none =>
      have hsame : s.lose q lost (tag :: tags) = s.lose q lost tags := by
        rw [State.lose, List.foldl_cons, (State.takeSpoil_none hj q _ false).1]
        rfl
      obtain ⟨t, hmem, ht⟩ := h
      rw [hsame]
      refine ih ⟨t, (List.mem_cons.1 hmem).resolve_left ?_, ht⟩
      rintro rfl
      rw [hj] at ht
      cases ht
    | some j =>
      have hset := State.takeSpoil_notices hj q (lowestCopy lost tag) false p
      refine List.foldlRecOn (motive := fun v : State => (tabFind (v.port p).notices 5).isSome) tags _ ?_
        fun v hv t _ => v.takeSpoil_keepsNotice q t _ false hv
      rw [← Option.isSome_map, hset]
      rfl

end

/-! ### The fall (R153, R162) -/

section
variable (s : State) (q : Press)

/-- The state in which a fall has handed its spoils to the job table. -/
def State.lostAttempts : State :=
  s.lose q (s.link q).unconfirmed (distinct ((s.link q).unconfirmed.map (·.1)))

/-- The state in which the link is flushed too, before the look for a proof that may take the renderer. -/
def State.flushed : State :=
  (((s.lostAttempts q).raiseTimes (pressUnit q) 3 (s.link q).unconfirmed.length)).setLink q (s.link q).fall

/-- The spoils move the jobs, the ports and the renderer alone. -/
theorem State.lostAttempts_eq : s.lostAttempts q = { s with
    jobs := (s.lostAttempts q).jobs, ports := (s.lostAttempts q).ports, renderer := (s.lostAttempts q).renderer } :=
  congrArg (fun t : State => { t with
    jobs := (s.lostAttempts q).jobs, ports := (s.lostAttempts q).ports, renderer := (s.lostAttempts q).renderer })
    (s.lose_frame q (s.link q).unconfirmed (distinct ((s.link q).unconfirmed.map (·.1))))

theorem State.lostAttempts_link (q' : Press) : (s.lostAttempts q).link q' = s.link q' := by
  rw [State.lostAttempts_eq]
  rfl

theorem State.goOffline_eq : s.goOffline q = (s.flushed q).recheckWait := by
  have hlink : ((s.lostAttempts q).raiseTimes (pressUnit q) 3 (s.link q).unconfirmed.length).link q = s.link q := by
    rw [State.raiseTimes_eq]
    exact s.lostAttempts_link q q
  have hgo : s.goOffline q = ((((s.lostAttempts q).raiseTimes (pressUnit q) 3 (s.link q).unconfirmed.length)).setLink q
    (((s.lostAttempts q).raiseTimes (pressUnit q) 3 (s.link q).unconfirmed.length).link q).fall).recheckWait := rfl
  rw [hgo, hlink, State.flushed]

/-- The flush moves the links, the counters and the ports of the state after the spoils. -/
theorem State.flushed_eq : s.flushed q = { s.lostAttempts q with
    links := (s.flushed q).links, counters := (s.flushed q).counters, ports := (s.flushed q).ports } :=
  congrArg (fun t : State => { t with links := (s.flushed q).links })
    ((s.lostAttempts q).raiseTimes_eq (pressUnit q) 3 (s.link q).unconfirmed.length)

theorem State.flushed_link : (s.flushed q).link q = (s.link q).fall := State.link_setLink_self ..

theorem State.flushed_link_other {q' : Press} (h : q' ≠ q) : (s.flushed q).link q' = s.link q' := by
  rw [State.flushed, State.link_setLink_other _ _ h, State.raiseTimes_eq]
  exact s.lostAttempts_link q q'

theorem State.flushed_counters :
    (s.flushed q).counters = (s.raiseTimes (pressUnit q) 3 (s.link q).unconfirmed.length).counters :=
  State.raiseTimes_counters_congr _ _ _ (by rw [State.lostAttempts_eq])

theorem State.flushed_notices (p : Port) {n : Nat} (h : n ≠ 11) :
    tabFind ((s.flushed q).port p).notices n = tabFind ((s.lostAttempts q).port p).notices n :=
  State.notices_raiseTimes _ _ _ _ p h

/-- The look for a proof leaves all but the jobs and the renderer. -/
theorem State.goOffline_frame : s.goOffline q =
    { s.flushed q with jobs := (s.goOffline q).jobs, renderer := (s.goOffline q).renderer } := by
  rw [State.goOffline_eq]
  exact State.recheckWait_eq _

theorem State.goOffline_mayYield : State.mayYield { s.lostAttempts q with
    links := (s.goOffline q).links, counters := (s.goOffline q).counters, ports := (s.goOffline q).ports } (s.goOffline q) := by
  have hbefore : { s.lostAttempts q with
      links := (s.goOffline q).links, counters := (s.goOffline q).counters, ports := (s.goOffline q).ports } = s.flushed q := by
    rw [State.goOffline_frame, State.flushed_eq]
  rw [hbefore, State.goOffline_eq]
  exact State.recheckWait_mayYield _

end

/-! ### The line moves -/

section
variable {s : State} {q : Press}

theorem exec_onlineFall_online (h : (s.link q).online = true) : exec (.onlineFall q) s = .next (s.goOffline q) := by
  have hexec : exec (.onlineFall q) s = execOnlineFall q s := rfl
  rw [hexec, execOnlineFall, if_pos h]

theorem exec_onlineFall_offline (h : (s.link q).online = false) :
    exec (.onlineFall q) s = .next (s.setLink q { s.link q with onlineLine := false }) := by
  have hexec : exec (.onlineFall q) s = execOnlineFall q s := rfl
  rw [hexec, execOnlineFall, if_neg (by simp [h])]

theorem exec_onlineRise_online (h : (s.link q).online = true) :
    exec (.onlineRise q) s = .next (s.setLink q { s.link q with onlineLine := true }) := by
  have hexec : exec (.onlineRise q) s = execOnlineRise q s := rfl
  rw [hexec, execOnlineRise, if_pos h]

theorem exec_onlineRise_offline (h : (s.link q).online = false) :
    exec (.onlineRise q) s = .next (s.setLink q (s.link q).rise) := by
  have hexec : exec (.onlineRise q) s = execOnlineRise q s := rfl
  rw [hexec, execOnlineRise, if_neg (by simp [h])]

end

/-- Settles O45: the spoils of a fall in turn, the flush, and the look for a proof; what is unconfirmed; and the rise. -/
theorem theOnlineLineOpensAndFlushesTheLink : Obligations.TheOnlineLineOpensAndFlushesTheLink := by
  unfold Obligations.TheOnlineLineOpensAndFlushesTheLink
  intro s q
  have hframe := s.goOffline_frame q
  have hlink (q' : Press) : (s.goOffline q).link q' = (s.flushed q).link q' := by rw [hframe]; rfl
  have hport (p : Port) : (s.goOffline q).port p = (s.flushed q).port p := by rw [hframe]; rfl
  have hcounters : (s.goOffline q).counters = (s.flushed q).counters := by rw [hframe]
  have hsheets : (s.goOffline q).sheets = s.sheets := by rw [hframe, State.flushed_eq, State.lostAttempts_eq]
  have hportraits : (s.goOffline q).portraits = s.portraits := by rw [hframe, State.flushed_eq, State.lostAttempts_eq]
  refine ⟨fun ho => ⟨s.goOffline q, exec_onlineFall_online ho, (hlink q).trans (s.flushed_link q),
      hcounters.trans (s.flushed_counters q), fun q' hq => (hlink q').trans (s.flushed_link_other q hq), hsheets, hportraits,
      fun lost u hl hu => ?_⟩,
    ⟨nodup_eraseDups _, (s.link q).mem_unconfirmed⟩, fun x hx => ⟨mem_distinct.2 (List.mem_map_of_mem hx), lowestCopy_spec hx⟩,
    ⟨nodup_distinct _, distinct_sublist _⟩, exec_onlineRise_offline, exec_onlineFall_offline, exec_onlineRise_online⟩
  subst hl
  obtain rfl : u = s.lostAttempts q := hu
  have hnotices (p : Port) {n : Nat} (hn : n ≠ 11) :
      tabFind ((s.goOffline q).port p).notices n = tabFind ((s.lostAttempts q).port p).notices n := by
    rw [hport, State.flushed_notices s q p hn]
  refine ⟨s.goOffline_mayYield q, fun p n hn => hnotices p hn, fun ⟨x, hx, hjob⟩ p => ?_⟩
  rw [hnotices p (by decide)]
  exact s.lose_notices q _ ⟨x.1, mem_distinct.2 (List.mem_map_of_mem hx), hjob⟩ p

end Sys2Proof.Machine
end

section
/-! What the job table and the renderer make of a press link: its lock and its state stand, its attempt list grows no longer,
and no attempt enters transmission (R148, R150, R151). -/

namespace Sys2Proof.Machine

open Sys2Proof

/-! ### One press link -/

/-- From `l` to `m` a press link loses frames, records, rules or the attempt in transmission, and its lock stands. -/
structure Link.Eases (l m : Link) : Prop where
  reg : m.reg = l.reg
  online : m.online = l.online
  transmission : l.transmission = none → m.transmission = none
  attempts : m.attempts.length ≤ l.attempts.length

namespace Link.Eases

variable {l m n : Link}

theorem refl (l : Link) : l.Eases l := ⟨rfl, rfl, id, le_rfl⟩

theorem trans (h : l.Eases m) (h' : m.Eases n) : l.Eases n :=
  ⟨h'.reg.trans h.reg, h'.online.trans h.online, h'.transmission ∘ h.transmission, h'.attempts.trans h.attempts⟩

/-- The same, from the last loss to the first. -/
theorem after (h' : m.Eases n) (h : l.Eases m) : l.Eases n := h.trans h'

/-- The parts that soundness speaks of are left. -/
theorem of_eq (hr : m.reg = l.reg) (ho : m.online = l.online) (ht : m.transmission = l.transmission)
    (ha : m.attempts = l.attempts) : l.Eases m :=
  ⟨hr, ho, fun h => ht.trans h, by rw [ha]⟩

theorem sound (h : l.Eases m) (hl : l.sound) : m.sound := by
  obtain ⟨hrange, honline, hcorrection, hlocked, hattempts⟩ := hl
  unfold Link.sound
  rw [h.reg, h.online]
  refine ⟨hrange, honline, hcorrection, fun ht => hlocked ?_, h.attempts.trans hattempts⟩
  by_contra hn
  rw [h.transmission (by simpa using hn)] at ht
  cases ht

theorem kill (l : Link) (dead : Nat → Nat → Nat → Bool) : l.Eases (l.kill dead) where
  reg := rfl
  online := rfl
  transmission h := by rw [Link.kill_transmission, h, Option.filter_none]
  attempts := ((keepDue_sublist ..).length_le).trans (List.length_map ..).le

theorem setRule (l : Link) (r : DeadRule) : l.Eases (l.setRule r) := (kill _ _).after (of_eq rfl rfl rfl rfl)

theorem spoilRule (l : Link) (tag copy : Nat) (taken : Bool) : l.Eases (l.spoilRule tag copy taken) := by
  unfold Link.spoilRule
  split
  · exact kill l _
  · exact setRule l _

theorem jobEnd (l : Link) (tag : Nat) : l.Eases (l.jobEnd tag) := (kill _ _).after (of_eq rfl rfl rfl rfl)

theorem join (l : Link) (f : BandFrame) : l.Eases (l.join f) := of_eq rfl rfl rfl rfl

theorem dropReported (l : Link) : l.Eases l.dropReported := ⟨rfl, rfl, id, (keepDue_sublist ..).length_le⟩

end Link.Eases

/-- The link's part of a spoil of the attempt in transmission stops it: its rule has a copy at or below the attempt's, and no
serial (R150). -/
theorem Link.spoilRule_stops {l : Link} {x : Transmission} (h : l.transmission = some x) (taken : Bool) :
    (l.spoilRule x.tag x.copy taken).transmission = none := by
  have hstop {c : Nat} (hc : c ≤ x.copy) (m : Link) (hm : m.transmission = some x) :
      (m.kill ({ tag := x.tag, copy := c, serial := none } : DeadRule).kills).transmission = none := by
    rw [Link.kill_transmission, hm, Option.filter_some, DeadRule.kills_of_noSerial x.serial hc]
    rfl
  unfold Link.spoilRule
  split
  · exact hstop le_rfl l h
  · exact hstop (l.ruleCopy_spec x.tag x.copy).1 _ h

/-! ### Both press links -/

/-- Each press link loses at most what `Link.Eases` lets it lose. -/
def State.LinksEase (s t : State) : Prop := ∀ q, (s.link q).Eases (t.link q)

namespace State.LinksEase

theorem refl (s : State) : s.LinksEase s := fun _ => .refl _

theorem trans {s t u : State} (h : s.LinksEase t) (h' : t.LinksEase u) : s.LinksEase u := fun q => (h q).trans (h' q)

theorem of_links {s t : State} (h : t.links = s.links) : s.LinksEase t := fun q => by
  rw [State.link, State.link, h]
  exact .refl _

/-- The same, from the last operation to the first. -/
theorem after_links {s t u : State} (h' : t.LinksEase u) (h : t.links = s.links) : s.LinksEase u := (of_links h).trans h'

theorem setLink {s : State} {q : Press} {l : Link} (h : (s.link q).Eases l) : s.LinksEase (s.setLink q l) := by
  intro r
  by_cases hr : r = q
  · rw [hr, State.link_setLink_self]
    exact h
  · rw [State.link_setLink_other _ _ hr]
    exact .refl _

theorem sound {s t : State} (h : s.LinksEase t) (hs : s.linksSound) : t.linksSound := fun q => (h q).sound (hs q)

/-! ### The job table and the renderer -/

theorem endJob (s : State) (j : Job) (notice : Notice) : s.LinksEase (s.endJob j notice) :=
  (setLink (.jobEnd _ j.tag)).trans (of_links (s.endJob_links j notice))

theorem takeConfirmation (s : State) (tag : Nat) : s.LinksEase (s.takeConfirmation tag) := by
  unfold State.takeConfirmation
  split
  · exact refl s
  dsimp only
  split
  · exact (endJob _ _ _).after_links rfl
  · exact of_links rfl

theorem abortJob (s : State) (j : Job) : s.LinksEase (s.abortJob j) := by
  unfold State.abortJob
  split
  · exact of_links rfl
  · exact (endJob _ _ _).after_links rfl

theorem rewindJob (s : State) (j : Job) (copy : Nat) : s.LinksEase (s.rewindJob j copy) := by
  have hlinks := congrArg State.links (s.rewindJob_frame j copy)
  exact of_links hlinks

theorem takeSpoil (s : State) (q : Press) (tag copy : Nat) (counted : Bool) :
    s.LinksEase (s.takeSpoil q tag copy counted) := by
  cases hj : s.reportJob tag with
  | none =>
    rw [(State.takeSpoil_none hj q copy counted).1]
    exact refl s
  | some j =>
    have htaken : s.LinksEase (s.spoilTaken q tag copy counted j) := by
      cases counted
      · exact of_links rfl
      · exact (setLink (.setRule _ _)).trans (of_links rfl)
    rw [State.takeSpoil_of_job hj]
    split
    · exact htaken.trans (abortJob _ _)
    · exact htaken.trans (rewindJob _ _ _)

theorem linkSpoil (s : State) (q : Press) (tag copy : Nat) : s.LinksEase (s.linkSpoil q tag copy) := by
  have hlink : s.LinksEase (s.linkSpoiled q tag copy) := (setLink (.spoilRule _ _ _ _)).trans (of_links (State.raise_links ..))
  exact hlink.trans (takeSpoil _ q tag copy true)

theorem spoilTransmission (s : State) (q : Press) : s.LinksEase (s.spoilTransmission q) := by
  unfold State.spoilTransmission
  split
  · exact refl s
  · exact linkSpoil s q _ _

theorem recheckWait (s : State) : s.LinksEase s.recheckWait := of_links s.links_examineProof

theorem frameJoins (s : State) (j : Job) (b : BandInProduction) : s.LinksEase (s.frameJoins j b) := by
  unfold State.frameJoins
  split
  · exact setLink (.join _ _)
  · exact refl s

theorem takeRewind (s : State) (j : Job) (b : BandInProduction) (copy : Nat) : s.LinksEase (s.takeRewind j b copy) := by
  have hframe : s.LinksEase (if copy ≤ b.copy then s else s.frameJoins j b) := by
    split
    · exact refl s
    · exact frameJoins s j b
  exact hframe.trans (of_links (s.links_takeRewind j b copy))

end State.LinksEase

/-! ### The attempt in transmission (R144, R146, R152) -/

section
variable (s : State) (q : Press)

theorem State.spoilTransmission_of_none {s : State} {q : Press} (h : (s.link q).transmission = none) :
    s.spoilTransmission q = s := by
  simp only [State.spoilTransmission, h]

theorem State.spoilTransmission_of_some {s : State} {q : Press} {x : Transmission} (h : (s.link q).transmission = some x) :
    s.spoilTransmission q = s.linkSpoil q x.tag x.copy := by
  simp only [State.spoilTransmission, h]

/-- After its spoil no attempt is in transmission. -/
theorem State.transmission_spoilTransmission : ((s.spoilTransmission q).link q).transmission = none := by
  cases hx : (s.link q).transmission with
  | none => rw [State.spoilTransmission_of_none hx, hx]
  | some x =>
    rw [State.spoilTransmission_of_some hx, State.linkSpoil_eq]
    refine (State.LinksEase.takeSpoil (s.linkSpoiled q x.tag x.copy) q x.tag x.copy true q).transmission ?_
    rw [State.linkSpoiled_link]
    exact Link.spoilRule_stops hx _

/-- A spoil of the attempt in transmission leaves the lock. -/
theorem State.reg_spoilTransmission : ((s.spoilTransmission q).link q).reg = (s.link q).reg :=
  (State.LinksEase.spoilTransmission s q q).reg

theorem State.spoilTransmission_counters : (s.spoilTransmission q).counters =
    if (s.link q).transmission.isSome then (s.raise (pressUnit q) 3).counters else s.counters := by
  cases hx : (s.link q).transmission with
  | none => rw [State.spoilTransmission_of_none hx]; rfl
  | some x => rw [State.spoilTransmission_of_some hx]; exact s.linkSpoil_counters q x.tag x.copy

/-! ### Notices that a spoil leaves -/

theorem State.notices_latchAll_other {s : State} {k : Notice} (x : Subject) (p : Port) {n : Nat} (h : n ≠ k.flag) :
    tabFind ((s.latchAll k x).port p).notices n = tabFind (s.port p).notices n := by
  rw [State.latchAll, State.port_mapPorts, DeskPort.notices_latch_other _ _ h]

/-- A spoil latches COPY_SPOILED, JOB_ABORTED and PORTRAIT_PROMOTED at most, so LOCK_LOST stands as it stood. -/
theorem State.takeSpoil_lockLost (tag copy : Nat) (counted : Bool) (p : Port) :
    tabFind ((s.takeSpoil q tag copy counted).port p).notices 7 = tabFind (s.port p).notices 7 := by
  cases hj : s.reportJob tag with
  | none => rw [(State.takeSpoil_none hj q copy counted).1]
  | some j =>
    have htaken : tabFind ((s.spoilTaken q tag copy counted j).port p).notices 7 = tabFind (s.port p).notices 7 := by
      rw [State.spoilTaken_eq]
      exact State.notices_latchAll_other (k := .copySpoiled) (.job tag) p (by decide)
    have hrewind := congrArg (fun t : State => t.port p)
      ((s.spoilTaken q tag copy counted j).rewindJob_frame (j.spoiled counted) copy)
    have hport : ((s.spoilTaken q tag copy counted j).rewindJob (j.spoiled counted) copy).port p =
        (s.spoilTaken q tag copy counted j).port p := hrewind
    rw [State.takeSpoil_of_job hj]
    split
    · rw [← htaken, State.abortJob]
      split
      · rfl
      · exact State.endJob_notices_other _ _ p (by decide) (by decide)
    · rw [hport, htaken]

theorem State.spoilTransmission_lockLost (p : Port) :
    tabFind ((s.spoilTransmission q).port p).notices 7 = tabFind (s.port p).notices 7 := by
  cases hx : (s.link q).transmission with
  | none => rw [State.spoilTransmission_of_none hx]
  | some x =>
    have hraise : tabFind ((s.linkSpoiled q x.tag x.copy).port p).notices 7 = tabFind (s.port p).notices 7 :=
      State.notices_raise _ _ _ p (by decide)
    rw [State.spoilTransmission_of_some hx, State.linkSpoil_eq, State.takeSpoil_lockLost, hraise]

end

end Sys2Proof.Machine
end

section
/-! Mark reports and FORCE RESYNC: the theorems that settle O39 and O41. -/

namespace Sys2Proof.Machine

open Sys2Proof

theorem goodFor_iff (window : Nat) (found stray : Bool) (offset : Int) :
    goodFor window found stray offset = true ↔ found = true ∧ stray = false ∧ offset.natAbs ≤ window := by
  simp [goodFor, and_assoc]

/-! ### The search timeout (R158, R182) -/

/-- A lock whose search count has been compared with the search timeout (R158). -/
def Registration.timed (r : Registration) : Registration :=
  { r with timedOut := r.timedOut || decide (r.searchTimeout ≤ r.search) }

/-- A stored lock whose search count reaches the timeout with the condition clear sets it, and latches it everywhere. -/
theorem State.checkTimeout_setReg (s : State) (q : Press) (r : Registration) : (s.setReg q r).checkTimeout q =
    { s.setReg q r.timed with
      ports := if r.searchTimeout ≤ r.search ∧ r.timedOut = false then (s.latchAll (regTimeoutOf q) .none).ports
        else s.ports } := by
  simp only [State.checkTimeout, State.reg_setReg, State.setReg_setReg]
  split
  · rename_i h
    have htimed : r.timed = { r with timedOut := true } := by simp [Registration.timed, h.1]
    rw [htimed]
    rfl
  · rename_i h
    have htimed : r.timed = r := by
      unfold Registration.timed
      cases r
      simp_all
    rw [htimed]
    rfl

/-! ### The capture judgement (R157, R158) -/

/-- The lock after a report that is counted and does not lock: it confirms, or the search starts over (R157, R158). -/
def Registration.counted (r : Registration) (good : Bool) : Registration :=
  if good then { r.searched with state := .confirm, confirm := r.confirm + 1 }
  else { r.searched with state := .search, confirm := 0 }

/-- Either way the search count has gone up to the timeout at most, and is compared with it. -/
theorem Registration.timed_counted (r : Registration) (good : Bool) : (r.counted good).timed =
    { r with
      state := if good then .confirm else .search, confirm := if good then r.confirm + 1 else 0
      search := min r.searchTimeout (r.search + 1)
      timedOut := r.timedOut || decide (r.searchTimeout ≤ r.search + 1) } := by
  cases good <;> simp [Registration.timed, Registration.counted, Registration.searched]

section
variable {s : State} {q : Press} {found stray good : Bool} {offset : Int} {r : Registration}

/-- The third good report in a row locks. -/
theorem State.judgeReport_locks (hr : (s.link q).reg = r) (hst : r.state = .search ∨ r.state = .confirm)
    (hg : goodFor r.captureWindow found stray offset = true) (hc : 2 ≤ r.confirm) :
    s.judgeReport q found stray offset = (s.setReg q (r.lockAt offset)).latchAll .lockGained (.press q) := by
  subst hr
  rcases hst with hst | hst <;>
    simp only [State.judgeReport, hst, State.judgeCapture, hg, if_true, if_neg (not_lt.2 hc)]

/-- Any other report is counted. -/
theorem State.judgeReport_counts (hr : (s.link q).reg = r) (hst : r.state = .search ∨ r.state = .confirm)
    (hg : goodFor r.captureWindow found stray offset = good) (hc : good = false ∨ r.confirm < 2) :
    s.judgeReport q found stray offset = (s.setReg q (r.counted good)).checkTimeout q := by
  subst hr
  have hcapture : s.judgeReport q found stray offset = s.judgeCapture q found stray offset := by
    rcases hst with hst | hst <;> simp only [State.judgeReport, hst]
  rw [hcapture, State.judgeCapture, hg]
  cases good with
  | false => rfl
  | true => rw [if_pos rfl, if_pos (hc.resolve_left (by decide))]; rfl

/-- The state after a report that is counted. -/
theorem State.judgeReport_counted (hr : (s.link q).reg = r) (hst : r.state = .search ∨ r.state = .confirm)
    (hg : goodFor r.captureWindow found stray offset = good) (hc : good = false ∨ r.confirm < 2) :
    s.judgeReport q found stray offset = { s.setReg q (r.counted good).timed with
      ports := if r.searchTimeout ≤ r.search + 1 ∧ r.timedOut = false then (s.latchAll (regTimeoutOf q) .none).ports
        else s.ports } := by
  have hcount : ((r.counted good).searchTimeout ≤ (r.counted good).search ∧ (r.counted good).timedOut = false) ↔
      (r.searchTimeout ≤ r.search + 1 ∧ r.timedOut = false) := by
    cases good <;> simp [Registration.counted, Registration.searched]
  rw [State.judgeReport_counts hr hst hg hc, State.checkTimeout_setReg]
  simp only [hcount]

/-- In SEARCH and CONFIRM a report moves its own press's lock and the ports alone. -/
theorem State.judgeReport_frame (hr : (s.link q).reg = r) (hst : r.state = .search ∨ r.state = .confirm) :
    { s.judgeReport q found stray offset with links := s.links, ports := s.ports } = s ∧
      ∀ q', q' ≠ q → (s.judgeReport q found stray offset).link q' = s.link q' := by
  have hother (r' : Registration) {q' : Press} (h : q' ≠ q) : (s.setReg q r').link q' = s.link q' :=
    State.link_setLink_other _ _ h
  by_cases hl : goodFor r.captureWindow found stray offset = true ∧ 2 ≤ r.confirm
  · rw [State.judgeReport_locks hr hst hl.1 hl.2]
    exact ⟨rfl, fun q' h => hother _ h⟩
  · rw [State.judgeReport_counted hr hst rfl (by simpa [or_iff_not_imp_left] using hl)]
    exact ⟨rfl, fun q' h => hother _ h⟩

end

/-! ### The hold judgement (R159, R160) -/

/-- The state in which LOCKED has been left for SEARCH, the loss counted and latched (R160, R163). -/
def State.lockLost (s : State) (q : Press) : State :=
  ((s.setReg q (s.link q).reg.restart).raise (pressUnit q) 4).latchAll .lockLost (.press q)

/-- The attempt in transmission is then spoiled (R152). -/
theorem State.loseLock_eq (s : State) (q : Press) : s.loseLock q = (s.lockLost q).spoilTransmission q := rfl

section
variable (s : State) (q : Press)

theorem State.link_lockLost : (s.lockLost q).link q = { s.link q with reg := (s.link q).reg.restart } :=
  (State.link_raise ..).trans (State.link_setLink_self ..)

theorem State.link_lockLost_other {q' : Press} (h : q' ≠ q) : (s.lockLost q).link q' = s.link q' :=
  (State.link_raise ..).trans (State.link_setLink_other _ _ h)

theorem State.counters_lockLost : (s.lockLost q).counters = (s.raise (pressUnit q) 4).counters :=
  State.raise_counters_congr _ _ _ _ rfl

/-- A lost lock restarts, its correction kept. -/
theorem State.reg_loseLock : ((s.loseLock q).link q).reg = (s.link q).reg.restart := by
  rw [State.loseLock_eq, State.reg_spoilTransmission, State.link_lockLost]

/-- LOCK_LOST stands at every port, with the press as its subject. -/
theorem State.notices_loseLock (p : Port) :
    (tabFind ((s.loseLock q).port p).notices 7).map (·.subject) = some (.press q) := by
  rw [State.loseLock_eq, State.spoilTransmission_lockLost]
  exact State.notices_latchAll _ .lockLost (.press q) p

theorem State.counters_loseLock : (s.loseLock q).counters =
    if (s.link q).transmission.isSome then ((s.raise (pressUnit q) 4).raise (pressUnit q) 3).counters
    else (s.raise (pressUnit q) 4).counters := by
  rw [State.loseLock_eq, State.spoilTransmission_counters, State.link_lockLost, State.counters_lockLost,
    State.raise_counters_congr _ _ _ _ (s.counters_lockLost q)]

end

section
variable {s : State} {q : Press} {found stray : Bool} {offset : Int} {r : Registration}

theorem State.judgeReport_holds (hr : (s.link q).reg = r) (hst : r.state = .locked)
    (hg : goodFor r.holdWindow found stray offset = true) :
    s.judgeReport q found stray offset = s.setReg q { r with correction := offset, bad := 0 } := by
  subst hr
  simp only [State.judgeReport, hst, State.judgeHold, hg, if_true]

theorem State.judgeReport_manual (hr : (s.link q).reg = r) (hst : r.state = .locked)
    (hg : goodFor r.holdWindow found stray offset = false) (hp : r.policy = .manual) :
    s.judgeReport q found stray offset = (s.raise (pressUnit q) 5).setReg q { r with bad := min 2 (r.bad + 1) } := by
  subst hr
  simp [State.judgeReport, hst, State.judgeHold, hg, hp]

/-- Under AUTO the third bad report in a row loses the lock. -/
theorem State.judgeReport_auto (hr : (s.link q).reg = r) (hst : r.state = .locked)
    (hg : goodFor r.holdWindow found stray offset = false) (hp : r.policy = .auto) :
    s.judgeReport q found stray offset =
      if r.bad < 2 then (s.raise (pressUnit q) 5).setReg q { r with bad := r.bad + 1 }
      else (s.raise (pressUnit q) 5).loseLock q := by
  subst hr
  have hbad : (s.link q).reg.bad + 1 < 3 ↔ (s.link q).reg.bad < 2 := by omega
  simp [State.judgeReport, hst, State.judgeHold, hg, hp, hbad]

end

/-! ### The report as it arrives (R144, R196) -/

section
variable {s : State} {q : Press} {found stray : Bool} {offset : BitVec 12}

/-- A report that is taken is judged; then an attempt still in transmission is spoiled, and a new period opens. -/
theorem exec_markReport (ho : (s.link q).online = true) (hl : s.settings.state ≠ .loading) {u : State}
    (hu : (s.judgeReport q found stray (markOffset offset)).spoilTransmission q = u) :
    exec (.markReport q found stray offset) s = .next (u.setLink q { u.link q with period := .opened false }).recheckWait := by
  have hexec : exec (.markReport q found stray offset) s = .next (s.takeMarkReport q found stray offset) := rfl
  rw [hexec, State.takeMarkReport, if_pos (by simp [State.takesReports, ho, hl])]
  subst hu
  rfl

theorem exec_markReport_discarded (h : (s.link q).online = false ∨ s.settings.state = .loading) :
    exec (.markReport q found stray offset) s = .next s := by
  have hexec : exec (.markReport q found stray offset) s = .next (s.takeMarkReport q found stray offset) := rfl
  rw [hexec, State.takeMarkReport, if_neg (by rcases h with h | h <;> simp [State.takesReports, h])]

end

/-- Settles O39: the capture judgement by the count of good reports, the hold judgement by the policy and the count of bad
ones, and the report as it arrives. -/
theorem markReportsJudgeTheLock : Obligations.MarkReportsJudgeTheLock := by
  unfold Obligations.MarkReportsJudgeTheLock
  refine ⟨fun s q found stray offset r good hr hst hgood => ?_, fun s u q found stray offset r hr hst => ?_,
    fun s u q found stray offset => ?_⟩
  · have hg := hgood.symm
    obtain ⟨hframe, hother⟩ := State.judgeReport_frame (found := found) (stray := stray) (offset := offset) hr hst
    have hcounted (hc : good = false ∨ r.confirm < 2) := State.judgeReport_counted hr hst hg hc
    have hlink (hc : good = false ∨ r.confirm < 2) :
        (s.judgeReport q found stray offset).link q = { s.link q with reg := (r.counted good).timed } := by
      rw [hcounted hc]
      exact State.link_setLink_self ..
    refine ⟨hgood ▸ goodFor_iff .., fun h hc => State.judgeReport_locks hr hst (hg.trans h) hc, fun h hc => ?_,
      fun h => ?_, fun hc => ⟨?_, ?_⟩, hframe, hother⟩
    · rw [hlink (.inr hc), Registration.timed_counted, h]
      rfl
    · rw [hlink (.inl h), Registration.timed_counted, h]
      rfl
    · rw [hcounted hc]
    · rw [hlink hc]
  · refine ⟨State.judgeReport_holds hr hst, State.judgeReport_manual hr hst,
      fun hg hp hb => (State.judgeReport_auto hr hst hg hp).trans (if_pos hb), fun hg hp hb hu => ?_⟩
    have hlink := s.link_raise (pressUnit q) 5 q
    have hlost : u = (s.raise (pressUnit q) 5).lockLost q := by
      rw [hu, State.lockLost, hlink, hr]
      rfl
    have hjudge : s.judgeReport q found stray offset = (s.raise (pressUnit q) 5).loseLock q :=
      (State.judgeReport_auto hr hst hg hp).trans (if_neg (not_lt.2 hb))
    have hspoil : s.judgeReport q found stray offset = u.spoilTransmission q := by
      rw [hjudge, State.loseLock_eq, ← hlost]
    have htransmission : (u.link q).transmission = (s.link q).transmission := by
      rw [hlost, State.link_lockLost, hlink]
    refine ⟨fun hx => ?_, fun x hx => ?_, ?_, ?_, fun p => ?_⟩
    · rw [hspoil, State.spoilTransmission_of_none (htransmission.trans hx)]
    · rw [hspoil, State.spoilTransmission_of_some (htransmission.trans hx)]
    · rw [hjudge, State.reg_loseLock, hlink, hr]
      rfl
    · rw [hspoil, State.transmission_spoilTransmission]
    · rw [hjudge, State.notices_loseLock]
  · refine ⟨fun ho hl hu => ⟨fun hx => ?_, fun x v hx hv => ?_⟩, exec_markReport_discarded, s.recheckWait_mayYield⟩
    · exact exec_markReport ho hl (by rw [← hu, State.spoilTransmission_of_none hx])
    · have hspoil : u.spoilTransmission q = v := (State.spoilTransmission_of_some hx).trans hv.symm
      refine ⟨?_, ?_, ?_, exec_markReport ho hl (by rw [← hu, hspoil])⟩
      · rw [hv, State.linkSpoil_counters]
      · rw [← hspoil, State.transmission_spoilTransmission]
      · rw [← hspoil, State.reg_spoilTransmission]

/-! ### FORCE RESYNC (R163) -/

section
variable {s : State} {n : Nat} {q : Press}

theorem forceResync_badForm (h : 2 ≤ n) : forceResync n s = (s, Answer.refuse .badForm) := by
  simp only [forceResync, pressOf_of_le h]

theorem forceResync_offline (hq : pressOf n = some q) (h : (s.link q).reg.state = .offline) :
    forceResync n s = (s, Answer.refuse .notEligible) := by
  simp only [forceResync, hq, h]

theorem forceResync_searching (hq : pressOf n = some q) (h : (s.link q).reg.state = .search ∨ (s.link q).reg.state = .confirm) :
    forceResync n s = (s.setReg q { (s.link q).reg with state := .search, confirm := 0, search := 0 }, Answer.ok) := by
  rcases h with h | h <;> simp only [forceResync, hq, h]

theorem forceResync_locked (hq : pressOf n = some q) (h : (s.link q).reg.state = .locked) :
    forceResync n s = ((s.loseLock q).recheckWait, Answer.ok) := by
  simp only [forceResync, hq, h]

end

/-- Settles O41, by the state of the lock. -/
theorem forceResyncRestartsTheSearch : Obligations.ForceResyncRestartsTheSearch := by
  unfold Obligations.ForceResyncRestartsTheSearch
  refine fun s g p tag n hv => ⟨fun h => answers_of_served hv rfl rfl (forceResync_badForm h), fun q hq =>
    ⟨fun h => answers_of_served hv rfl rfl (forceResync_offline hq h),
      fun h => answers_of_served hv rfl rfl (forceResync_searching hq h),
      fun h => ⟨g.lockLost q, g.loseLock q, rfl, fun hx => ?_, fun x hx => ?_,
        answers_of_served hv rfl rfl (forceResync_locked hq h), g.counters_loseLock q, g.reg_loseLock q,
        State.transmission_spoilTransmission _ q, g.notices_loseLock q⟩⟩⟩
  · exact State.spoilTransmission_of_none ((congrArg Link.transmission (g.link_lockLost q)).trans hx)
  · exact State.spoilTransmission_of_some ((congrArg Link.transmission (g.link_lockLost q)).trans hx)

end Sys2Proof.Machine
end

section
/-! Frame requests: the theorem that settles O43. -/

namespace Sys2Proof.Machine

open Sys2Proof

theorem State.setLink_setLink (s : State) (q : Press) (l m : Link) : (s.setLink q l).setLink q m = s.setLink q m := by
  simp only [State.setLink, PerPress.set_set]

/-! ### The frames a link may send (R145, R146) -/

section
variable {l : Link} {f : BandFrame} {fs : List BandFrame}

/-- A first request may send a band 0 at the head, under a lock, with fewer than 4 records. -/
theorem Link.startFrame_iff : l.startFrame = some f ↔
    l.fifo.head? = some f ∧ f.band = 0 ∧ l.reg.state = .locked ∧ l.attempts.length < Config.attemptRecords := by
  simp [Link.startFrame, Option.filter_eq_some_iff, and_assoc]

theorem Link.startFrame_none
    (h : (∀ f, l.fifo.head? = some f → f.band ≠ 0) ∨ l.reg.state ≠ .locked ∨ 4 ≤ l.attempts.length) :
    l.startFrame = none := by
  refine Option.eq_none_iff_forall_ne_some.2 fun f hf => ?_
  obtain ⟨hhead, hband, hlocked, hroom⟩ := Link.startFrame_iff.1 hf
  rcases h with h | h | h
  · exact h f hhead hband
  · exact h hlocked
  · exact absurd hroom (not_lt.2 h)

/-- A later request may send the next band of the attempt in transmission, when it stands at the head. -/
theorem Link.nextFrame_iff {x : Transmission} : l.nextFrame x = some f ↔
    l.fifo.head? = some f ∧ f.tag = x.tag ∧ f.copy = x.copy ∧ f.serial = x.serial ∧ f.band = x.next := by
  simp [Link.nextFrame, Option.filter_eq_some_iff, and_assoc]

theorem Link.nextFrame_none {x : Transmission}
    (h : ∀ f, l.fifo.head? = some f → ¬(f.tag = x.tag ∧ f.copy = x.copy ∧ f.serial = x.serial ∧ f.band = x.next)) :
    l.nextFrame x = none := by
  refine Option.eq_none_iff_forall_ne_some.2 fun f hf => ?_
  obtain ⟨hhead, hnext⟩ := Link.nextFrame_iff.1 hf
  exact h f hhead hnext

/-- The sent frame leaves the FIFO, and the dead frames that then stand at the head go with it (R142, R148). -/
theorem Link.send_eq {g : BandFrame} (hl : l.fifo = f :: fs) (correction : Int)
    (hg : g = { f with startCorrection := correction }) : l.send f correction =
      { l with fifo := fs.dropWhile l.isDead, lane := some (.band g g.check) } := by
  subst hg
  simp only [Link.send, Link.put, Link.purge, hl, List.tail_cons]
  rfl

/-- The own record of the attempt in transmission, the last with its tag, copy and serial, counts the frame sent. -/
theorem Link.advance_eq {x : Transmission} {before after : List Attempt} {a : Attempt}
    (ha : l.attempts = before ++ a :: after) (ht : a.tag = x.tag) (hc : a.copy = x.copy) (hs : a.serial = x.serial)
    (hlast : ∀ b ∈ after, ¬(b.tag = x.tag ∧ b.copy = x.copy ∧ b.serial = x.serial)) : l.advance x =
      { l with
        attempts := before ++ { a with sent := a.sent + 1 } :: after
        transmission := if x.next + 1 < x.bandCount then some { x with next := x.next + 1 } else none } := by
  have hown : (decide (a.tag = x.tag) && decide (a.copy = x.copy) && decide (a.serial = x.serial)) = true := by
    simp [ht, hc, hs]
  have hafter : ∀ b ∈ after,
      (decide (b.tag = x.tag) && decide (b.copy = x.copy) && decide (b.serial = x.serial)) = false := fun b hb => by
    simpa only [Bool.and_eq_false_iff, decide_eq_false_iff_not, not_and_or, or_assoc] using hlast b hb
  rw [Link.advance, ha, updateLast_split
    (hit := fun b : Attempt => decide (b.tag = x.tag) && decide (b.copy = x.copy) && decide (b.serial = x.serial)) hown hafter]

end

/-! ### The answers (R145 to R147) -/

section
variable {s : State} {q : Press} {l : Link} {f : BandFrame} {fs : List BandFrame} {g : BandFrame}

/-- A first request that begins an attempt. -/
theorem State.answerFirst_begins (hl : l.fifo = f :: fs) (hb : f.band = 0) (hr : l.reg.state = .locked)
    (ha : l.attempts.length < 4) (hg : g = { f with startCorrection := l.reg.correction }) :
    (s.setLink q l).answerFirst q = (s.setLink q { l with
      period := .opened true, fifo := fs.dropWhile l.isDead, lane := some (.band g g.check)
      attempts := l.attempts ++
        [{ tag := f.tag, copy := f.copy, serial := f.serial, bandCount := f.bandCount, sent := 1, received := 0
           error := false, voided := false }]
      transmission :=
        some { tag := f.tag, copy := f.copy, serial := f.serial, bandCount := f.bandCount, next := 1 } }).raise
      (pressUnit q) 1 := by
  have hstart : l.answerFirst.startFrame = some f := Link.startFrame_iff.2 ⟨congrArg List.head? hl, hb, hr, ha⟩
  have hsend := Link.send_eq (l := l.answerFirst.begin f) hl l.reg.correction hg
  simp only [State.answerFirst, State.link_setLink_self, hstart, State.setLink_setLink]
  exact congrArg (fun m => (s.setLink q m).raise (pressUnit q) 1) hsend

/-- A first request that draws fill. -/
theorem State.answerFirst_fills
    (h : (∀ f, l.fifo.head? = some f → f.band ≠ 0) ∨ l.reg.state ≠ .locked ∨ 4 ≤ l.attempts.length) :
    (s.setLink q l).answerFirst q = s.setLink q { l with period := .opened true, lane := some .fill } := by
  have hstart : l.answerFirst.startFrame = none := Link.startFrame_none h
  simp only [State.answerFirst, State.link_setLink_self, hstart, State.setLink_setLink]
  rfl

/-- A later request with no attempt in transmission. -/
theorem State.answerLater_idle (hx : l.transmission = none) :
    (s.setLink q l).answerLater q = s.setLink q { l with lane := some .fill } := by
  simp only [State.answerLater, State.link_setLink_self, hx, State.setLink_setLink, Link.put]

/-- A later request that continues the attempt. -/
theorem State.answerLater_continues {x : Transmission} (hx : l.transmission = some x) (hl : l.fifo = f :: fs)
    (hf : f.tag = x.tag ∧ f.copy = x.copy ∧ f.serial = x.serial ∧ f.band = x.next) (hg : g = { f with startCorrection := 0 })
    {m : Link} (hm : l.advance x = m) : (s.setLink q l).answerLater q =
      (s.setLink q { m with fifo := fs.dropWhile m.isDead, lane := some (.band g g.check) }).raise (pressUnit q) 1 := by
  subst hm
  have hnext : l.nextFrame x = some f := Link.nextFrame_iff.2 ⟨congrArg List.head? hl, hf⟩
  have hsend := Link.send_eq (l := l.advance x) hl 0 hg
  simp only [State.answerLater, State.link_setLink_self, hx, hnext, State.setLink_setLink, hsend]

/-- A later request that finds another frame at the head, or none, spoils the attempt. -/
theorem State.answerLater_spoils {x : Transmission} (hx : l.transmission = some x)
    (h : ∀ f, l.fifo.head? = some f → ¬(f.tag = x.tag ∧ f.copy = x.copy ∧ f.serial = x.serial ∧ f.band = x.next)) :
    (s.setLink q l).answerLater q = (s.setLink q { l with lane := some .fill }).linkSpoil q x.tag x.copy := by
  simp only [State.answerLater, State.link_setLink_self, hx, Link.nextFrame_none h, State.setLink_setLink, Link.put]

end

/-! ### The request as it arrives (R144, R154, R196) -/

section
variable {s : State} {q : Press}

/-- A request that is answered, by whether the period's first one is answered yet. -/
theorem exec_frameRequest (ho : (s.link q).online = true) (hl : s.settings.state ≠ .loading) : exec (.frameRequest q) s =
    .next (if (s.link q).period = .opened false then (s.setLink q (s.link q).purgeAtRequest).answerFirst q
      else (s.setLink q (s.link q).purgeAtRequest).answerLater q).recheckWait := by
  have hexec : exec (.frameRequest q) s = .next (s.takeFrameRequest q) := rfl
  rw [hexec, State.takeFrameRequest, if_pos ho, if_neg hl, State.answerRequest]
  split <;> simp_all

theorem exec_frameRequest_offline (h : (s.link q).online = false) : exec (.frameRequest q) s = .next s := by
  have hexec : exec (.frameRequest q) s = .next (s.takeFrameRequest q) := rfl
  rw [hexec, State.takeFrameRequest, if_neg (by simp [h])]

theorem exec_frameRequest_loading (ho : (s.link q).online = true) (hl : s.settings.state = .loading) :
    exec (.frameRequest q) s = .next (s.setLink q { s.link q with lane := some .fill }) := by
  have hexec : exec (.frameRequest q) s = .next (s.takeFrameRequest q) := rfl
  rw [hexec, State.takeFrameRequest, if_pos ho, if_pos hl]
  rfl

end

/-- Settles O43: what stands at the head after the removals of R154 says what a first and what a later request draws. -/
theorem frameRequestsBeginAndContinueAttempts : Obligations.FrameRequestsBeginAndContinueAttempts := by
  unfold Obligations.FrameRequestsBeginAndContinueAttempts
  refine ⟨fun s q fifo ho hl hfifo => ?_, fun u q => ⟨exec_frameRequest_offline, exec_frameRequest_loading⟩⟩
  have hpurge : (s.link q).purgeAtRequest = { s.link q with fifo := fifo } := by rw [hfifo, Link.purgeAtRequest]
  rw [exec_frameRequest ho hl, hpurge]
  refine ⟨fun hp => ?_, fun hp => ?_⟩
  · rw [if_pos hp]
    refine ⟨fun f fs sent hcons hb hr ha hsent => ?_, fun h => ?_⟩
    · rw [State.answerFirst_begins (l := { s.link q with fifo := fifo }) hcons hb hr ha hsent]
      rfl
    · rw [State.answerFirst_fills (l := { s.link q with fifo := fifo }) h]
  · rw [if_neg hp]
    refine ⟨fun hx => ?_, fun x f fs sent before a after hx hcons ht hc hs hb hsent ha hat hac has hlast => ?_,
      fun x hx h => ?_⟩
    · rw [State.answerLater_idle (l := { s.link q with fifo := fifo }) hx]
    · rw [State.answerLater_continues (l := { s.link q with fifo := fifo }) hx hcons ⟨ht, hc, hs, hb⟩ hsent
        (Link.advance_eq ha hat hac has hlast)]
      rfl
    · rw [State.answerLater_spoils (l := { s.link q with fifo := fifo }) hx h]

end Sys2Proof.Machine
end

section
/-! What the presses, FORCE RESYNC, SET PRESS and the settings load keep of the soundness of the press links (R143, R156, R158,
R162, R164). -/

namespace Sys2Proof.Machine

open Sys2Proof

/-! ### The lock in its ranges -/

namespace Registration.inRange

variable {r : Registration}

theorem restart (h : r.inRange) : r.restart.inRange := by
  unfold Registration.inRange Registration.restart at *
  simp only
  omega

theorem toOffline (h : r.inRange) : r.toOffline.inRange := by
  unfold Registration.inRange Registration.toOffline at *
  simp only
  omega

theorem research (h : r.inRange) : Registration.inRange { r with state := .search, confirm := 0, search := 0 } := by
  unfold Registration.inRange at *
  simp only
  omega

theorem lockAt (h : r.inRange) {offset : Int} (h1 : -2047 ≤ offset) (h2 : offset ≤ 2047) : (r.lockAt offset).inRange := by
  unfold Registration.inRange Registration.lockAt at *
  simp only
  omega

theorem counted (h : r.inRange) {good : Bool} (hc : good = false ∨ r.confirm < 2) : (r.counted good).timed.inRange := by
  rw [Registration.timed_counted]
  unfold Registration.inRange at *
  cases good
  · simp only [Bool.false_eq_true, if_false]
    omega
  · have hc := hc.resolve_left (by decide)
    simp only [if_true]
    omega

theorem held (h : r.inRange) {offset : Int} (h1 : -2047 ≤ offset) (h2 : offset ≤ 2047) :
    Registration.inRange { r with correction := offset, bad := 0 } := by
  unfold Registration.inRange at *
  simp only
  omega

theorem missed (h : r.inRange) {n : Nat} (hn : n ≤ 2) : Registration.inRange { r with bad := n } := by
  unfold Registration.inRange at *
  simp only
  omega

theorem store (h : r.inRange) {v : PressSettings} (hv : v.valid = true) : (r.store v).inRange := by
  simp only [PressSettings.valid, decide_eq_true_eq] at hv
  unfold Registration.inRange Registration.store at *
  simp only
  omega

end Registration.inRange

/-- The offset of a report is at most 2047 either way (R155, R194). -/
theorem markOffset_range (field : BitVec 12) : -2047 ≤ markOffset field ∧ markOffset field ≤ 2047 := by
  have hle := BitVec.le_toInt field
  have hlt := BitVec.toInt_lt (x := field)
  unfold markOffset
  split <;> omega

/-! ### A link with another lock -/

/-- A sound link stays sound where its lock moves within its ranges, OFFLINE neither entered nor left, and an attempt stays in
transmission only under LOCKED. -/
theorem Link.sound.relock {l m : Link} (hl : l.sound) (hr : m.reg.inRange) (ho : m.online = l.online)
    (hst : m.reg.state = .offline ↔ l.reg.state = .offline) (hc : m.reg.state = .offline → m.reg.correction = l.reg.correction)
    (ht : m.transmission.isSome → m.reg.state = .locked) (ha : m.attempts.length ≤ l.attempts.length) : m.sound := by
  obtain ⟨-, honline, hcorrection, -, hattempts⟩ := hl
  exact ⟨hr, by rw [ho, honline, hst], fun h => (hc h).trans (hcorrection (hst.1 h)), ht, ha.trans hattempts⟩

/-- In SEARCH, CONFIRM and OFFLINE no attempt is in transmission. -/
theorem Link.sound.idle {l : Link} (hl : l.sound) (h : l.reg.state ≠ .locked) : l.transmission = none := by
  obtain ⟨-, -, -, hlocked, -⟩ := hl
  by_contra hn
  exact h (hlocked (Option.isSome_iff_ne_none.2 hn))

/-- A sound link that searches takes another lock. -/
theorem Link.sound.searching {l : Link} (hl : l.sound) (hst : l.reg.state = .search ∨ l.reg.state = .confirm)
    {r : Registration} (hr : r.inRange) (ho : r.state ≠ .offline) : ({ l with reg := r } : Link).sound := by
  have hidle : l.transmission = none := hl.idle (by rcases hst with h | h <;> simp [h])
  refine hl.relock hr rfl ?_ (fun h => absurd h ho) (fun h => ?_) le_rfl
  · rcases hst with h | h <;> simp [h, ho]
  · simp [hidle] at h

/-- A sound link takes a lock in the state and with the correction of its own. -/
theorem Link.sound.sameState {l : Link} (hl : l.sound) {r : Registration} (hr : r.inRange) (hst : r.state = l.reg.state)
    (hc : r.state = .offline → r.correction = l.reg.correction) : ({ l with reg := r } : Link).sound := by
  refine hl.relock hr rfl (by rw [hst]) hc (fun h => ?_) le_rfl
  obtain ⟨-, -, -, hlocked, -⟩ := hl
  exact hst.trans (hlocked h)

/-! ### Reports and settings as they are taken -/

/-- A report that a record takes leaves the number of records (R149). -/
theorem reportDue_length {e : Bool} {a : Attempt} : ∀ {l m : List Attempt}, reportDue e l = some (m, a) → m.length = l.length
  | b :: l, m, h => by
    unfold reportDue at h
    split at h
    · cases h
      rfl
    · obtain ⟨⟨n, c⟩, hn, hm⟩ := Option.map_eq_some_iff.1 h
      cases hm
      simp [reportDue_length hn]

/-- The values of a good image are in the ranges of R164. -/
theorem presses_valid_of_settingsOf {bytes : List Byte} {v : Settings} (h : settingsOf bytes = some v) :
    v.presses.a.valid = true ∧ v.presses.b.valid = true := by
  have hv : v.valid = true := by
    unfold settingsOf at h
    split at h
    · simp only [Option.bind_eq_bind, Option.bind_eq_some_iff, Option.ite_none_right_eq_some, Option.some.injEq] at h
      obtain ⟨pa, -, pb, -, ⟨-, -, hv⟩, rfl⟩ := h
      exact hv
    · cases h
  simp only [Settings.valid, Bool.and_eq_true] at hv
  tauto

theorem State.withdrawDisabled_links (s : State) (p : Port) : (s.withdrawDisabled p).links = s.links := by
  unfold State.withdrawDisabled
  split
  · split <;> simp
  · rfl

theorem State.storeWeights_links (s : State) (w : PerPort Nat) (wi : Nat) : (s.storeWeights w wi).links = s.links :=
  List.foldlRecOn (motive := fun t : State => t.links = s.links) _ _ rfl fun t ht p _ => (t.withdrawDisabled_links p).trans ht

theorem State.loadMasks_links (s : State) (m : PerPort (BitVec 16)) : (s.loadMasks m).links = s.links :=
  List.foldlRecOn (motive := fun t : State => t.links = s.links) _ _ rfl fun _ ht _ _ => ht

/-! ### Both press links -/

namespace State.linksSound

variable {s t : State} {q : Press}

theorem congr (hs : s.linksSound) (h : t.links = s.links) : t.linksSound := (LinksEase.of_links h).sound hs

theorem setLink (hs : s.linksSound) {l : Link} (hl : l.sound) : (s.setLink q l).linksSound := by
  intro r
  by_cases hr : r = q
  · rw [hr, State.link_setLink_self]
    exact hl
  · rw [State.link_setLink_other _ _ hr]
    exact hs r

/-- A link that loses at most what `Link.Eases` lets it lose. -/
theorem ease (hs : s.linksSound) {l : Link} (h : (s.link q).Eases l) : (s.setLink q l).linksSound := hs.setLink (h.sound (hs q))

/-! ### Mark reports and FORCE RESYNC (R155 to R163) -/

/-- A lost lock searches with its correction kept, and its attempt in transmission is stopped. -/
theorem loseLock (hs : s.linksSound) (h : (s.link q).reg.state = .locked) : (s.loseLock q).linksSound := by
  have hease := LinksEase.spoilTransmission (s.lockLost q) q
  intro r
  by_cases hr : r = q
  · subst hr
    obtain ⟨hrange, -⟩ := hs r
    obtain ⟨-, honline, -, hattempts⟩ := hease r
    rw [State.link_lockLost] at honline hattempts
    have hreg := s.reg_loseLock r
    refine (hs r).relock (hreg ▸ hrange.restart) honline ?_ (fun ho => ?_) (fun ht => ?_) hattempts
    · rw [hreg, h]
      simp [Registration.restart]
    · rw [hreg] at ho
      cases ho
    · rw [State.loseLock_eq, State.transmission_spoilTransmission] at ht
      cases ht
  · refine (hease r).sound ?_
    rw [State.link_lockLost_other _ _ hr]
    exact hs r

theorem judgeReport (hs : s.linksSound) (q : Press) (found stray : Bool) {offset : Int} (h1 : -2047 ≤ offset)
    (h2 : offset ≤ 2047) : (s.judgeReport q found stray offset).linksSound := by
  obtain ⟨r, hr⟩ : ∃ r, (s.link q).reg = r := ⟨_, rfl⟩
  obtain ⟨hrange, -⟩ := hs q
  rw [hr] at hrange
  have hcapture (hst : r.state = .search ∨ r.state = .confirm) : (s.judgeReport q found stray offset).linksSound := by
    have hsearch : (s.link q).reg.state = .search ∨ (s.link q).reg.state = .confirm := by rwa [hr]
    by_cases hl : goodFor r.captureWindow found stray offset = true ∧ 2 ≤ r.confirm
    · rw [State.judgeReport_locks hr hst hl.1 hl.2]
      have hlock := (hs q).searching hsearch (hrange.lockAt h1 h2) (by simp [Registration.lockAt])
      exact (hs.setLink hlock).congr rfl
    · have hcount : goodFor r.captureWindow found stray offset = false ∨ r.confirm < 2 := by
        simpa [or_iff_not_imp_left] using hl
      have hnot : (r.counted (goodFor r.captureWindow found stray offset)).timed.state ≠ .offline := by
        rw [Registration.timed_counted]
        cases goodFor r.captureWindow found stray offset <;> exact nofun
      rw [State.judgeReport_counted hr hst rfl hcount]
      exact (hs.setLink ((hs q).searching hsearch (hrange.counted hcount) hnot)).congr rfl
  cases hst : r.state with
  | offline =>
    have hnone : s.judgeReport q found stray offset = s := by simp only [State.judgeReport, hr, hst]
    rwa [hnone]
  | search => exact hcapture (.inl hst)
  | confirm => exact hcapture (.inr hst)
  | locked =>
    have hraise : (s.raise (pressUnit q) 5).linksSound := hs.congr (State.raise_links ..)
    have hlink := s.link_raise (pressUnit q) 5 q
    have hmiss {n : Nat} (hn : n ≤ 2) : ((s.raise (pressUnit q) 5).setReg q { r with bad := n }).linksSound :=
      hraise.setLink ((hraise q).sameState (hrange.missed hn) (by rw [hlink, hr]) fun _ => by rw [hlink, hr])
    cases hg : goodFor r.holdWindow found stray offset with
    | true =>
      rw [State.judgeReport_holds hr hst hg]
      refine hs.setLink ((hs q).sameState (hrange.held h1 h2) (by rw [hr]) fun ho => ?_)
      rw [hst] at ho
      cases ho
    | false =>
      cases hp : r.policy with
      | manual =>
        rw [State.judgeReport_manual hr hst hg hp]
        exact hmiss (Nat.min_le_left ..)
      | auto =>
        rw [State.judgeReport_auto hr hst hg hp]
        split
        · exact hmiss (by omega)
        · exact hraise.loseLock (by rw [hlink, hr, hst])

theorem takeMarkReport (hs : s.linksSound) (q : Press) (found stray : Bool) (x : BitVec 12) :
    (s.takeMarkReport q found stray x).linksSound := by
  unfold State.takeMarkReport
  split
  · have hjudged := hs.judgeReport q found stray (markOffset_range x).1 (markOffset_range x).2
    have hspoiled := (LinksEase.spoilTransmission _ q).sound hjudged
    exact (LinksEase.recheckWait _).sound (hspoiled.ease (.of_eq rfl rfl rfl rfl))
  · exact hs

theorem forceResync (hs : s.linksSound) (press : Nat) : (forceResync press s).1.linksSound := by
  cases hq : pressOf press with
  | none => simpa only [Machine.forceResync, hq]
  | some q =>
    have hsearch (hst : (s.link q).reg.state = .search ∨ (s.link q).reg.state = .confirm) :
        (Machine.forceResync press s).1.linksSound := by
      obtain ⟨hrange, -⟩ := hs q
      rw [forceResync_searching hq hst]
      exact hs.setLink ((hs q).searching hst hrange.research nofun)
    cases hst : (s.link q).reg.state with
    | offline => rwa [forceResync_offline hq hst]
    | search => exact hsearch (.inl hst)
    | confirm => exact hsearch (.inr hst)
    | locked =>
      rw [forceResync_locked hq hst]
      exact (LinksEase.recheckWait _).sound (hs.loseLock hst)

/-! ### Frame requests (R145 to R147) -/

/-- An attempt begins under LOCKED, and with a place for its record. -/
theorem answerFirst (hs : s.linksSound) (q : Press) : (s.answerFirst q).linksSound := by
  unfold State.answerFirst
  dsimp only
  split
  · rename_i f hf
    obtain ⟨-, -, hlocked, hroom⟩ := Link.startFrame_iff.1 hf
    obtain ⟨hrange, honline, hcorrection, -, -⟩ := hs q
    have hbegin : ((s.link q).answerFirst.begin f).sound :=
      ⟨hrange, honline, hcorrection, fun _ => hlocked, by simpa [Link.begin] using hroom⟩
    have hsend : ((s.link q).answerFirst.begin f).Eases
        (((s.link q).answerFirst.begin f).send f (s.link q).answerFirst.reg.correction) := .of_eq rfl rfl rfl rfl
    exact (hs.setLink (hsend.sound hbegin)).congr (State.raise_links ..)
  · exact hs.ease (.of_eq rfl rfl rfl rfl)

theorem answerLater (hs : s.linksSound) (q : Press) : (s.answerLater q).linksSound := by
  unfold State.answerLater
  dsimp only
  split
  · exact hs.ease (.of_eq rfl rfl rfl rfl)
  rename_i x hx
  split
  · rename_i f _
    have hadvance : (s.link q).Eases ((s.link q).advance x) :=
      ⟨rfl, rfl, fun h => absurd (hx.symm.trans h) nofun, (updateLast_length ..).le⟩
    have hsend : ((s.link q).advance x).Eases (((s.link q).advance x).send f 0) := .of_eq rfl rfl rfl rfl
    exact (hs.ease (hadvance.trans hsend)).congr (State.raise_links ..)
  · exact (LinksEase.linkSpoil _ q _ _).sound (hs.ease (.of_eq rfl rfl rfl rfl))

theorem takeFrameRequest (hs : s.linksSound) (q : Press) : (s.takeFrameRequest q).linksSound := by
  have hpurged : (s.setLink q (s.link q).purgeAtRequest).linksSound := hs.ease (.of_eq rfl rfl rfl rfl)
  unfold State.takeFrameRequest
  split
  · split
    · exact hs.ease (.of_eq rfl rfl rfl rfl)
    · refine (LinksEase.recheckWait _).sound ?_
      unfold State.answerRequest
      dsimp only
      split
      · exact hpurged.answerFirst q
      · exact hpurged.answerLater q
  · exact hs

/-! ### Status reports (R149) -/

theorem judgeStatus (hs : s.linksSound) (q : Press) (a : Attempt) (e : Bool) : (s.judgeStatus q a e).linksSound := by
  have hraise (i : Nat) : (s.raise (pressUnit q) i).linksSound := hs.congr (State.raise_links ..)
  cases e with
  | true =>
    rw [State.judgeStatus_checkError]
    split
    · exact hraise 2
    · exact (LinksEase.linkSpoil _ q _ _).sound (hraise 2)
  | false =>
    rw [State.judgeStatus_ok]
    split
    · exact (LinksEase.takeConfirmation _ _).sound (hraise 0)
    · exact hs

theorem takeStatusReport (hs : s.linksSound) (q : Press) (e : Bool) : (s.takeStatusReport q e).linksSound := by
  unfold State.takeStatusReport
  split
  · split
    · exact hs
    · rename_i l a hdue
      have htaken : (s.link q).Eases { s.link q with attempts := l } := ⟨rfl, rfl, id, (reportDue_length hdue).le⟩
      have hjudged := (hs.ease htaken).judgeStatus q a e
      exact (LinksEase.recheckWait _).sound (hjudged.ease (.dropReported _))
  · exact hs

/-! ### The online line and the return lane (R153, R162, R194) -/

theorem onlineFall (hs : s.linksSound) (q : Press) (h : execOnlineFall q s = .next t) : t.linksSound := by
  obtain ⟨hrange, -⟩ := hs q
  unfold execOnlineFall at h
  split at h <;> cases h
  · have hflushed : (s.flushed q).linksSound := by
      intro r
      by_cases hr : r = q
      · rw [hr, State.flushed_link]
        exact ⟨hrange.toOffline, ⟨fun _ => rfl, fun _ => rfl⟩, fun _ => rfl, nofun, Nat.zero_le _⟩
      · rw [State.flushed_link_other _ _ hr]
        exact hs r
    rw [State.goOffline_eq]
    exact (LinksEase.recheckWait _).sound hflushed
  · exact hs.ease (.of_eq rfl rfl rfl rfl)

theorem onlineRise (hs : s.linksSound) (q : Press) (h : execOnlineRise q s = .next t) : t.linksSound := by
  obtain ⟨hrange, -⟩ := hs q
  unfold execOnlineRise at h
  split at h <;> cases h
  · exact hs.ease (.of_eq rfl rfl rfl rfl)
  · exact hs.setLink ⟨hrange.restart, ⟨nofun, nofun⟩, nofun, nofun, Nat.zero_le _⟩

theorem takeReturnWord (hs : s.linksSound) (q : Press) (w : Word32) : (s.takeReturnWord q w).linksSound := by
  unfold State.takeReturnWord
  split
  · exact hs
  · exact hs.takeFrameRequest q
  · exact hs.takeMarkReport q _ _ _
  · exact hs.takeStatusReport q _

/-! ### SET PRESS and the settings load (R164, R165, R196) -/

/-- Settings in the ranges of R164 are stored. -/
theorem storePress (hs : s.linksSound) (q : Press) {v : PressSettings} (hv : v.valid = true) :
    (s.storePress q v).linksSound := by
  obtain ⟨hrange, -⟩ := hs q
  intro r
  by_cases hr : r = q
  · rw [hr, State.link_storePress]
    exact (hs q).sameState (hrange.store hv) rfl fun _ => rfl
  · rw [(s.storePress_frame q v).1 r hr]
    exact hs r

theorem setPress (hs : s.linksSound) (press capture hold timeout policy stall : Nat) :
    (setPress press capture hold timeout policy stall s).1.linksSound := by
  unfold Machine.setPress
  split
  · rename_i pol _ _
    have hv : PressSettings.valid { captureWindow := clampTo 8 64 capture, holdWindow := takenHold capture hold
                                    searchTimeout := clampTo 4 60 timeout, policy := pol } = true := by
      refine decide_eq_true ?_
      simp only [clampTo, takenHold]
      omega
    exact (hs.storePress _ hv).congr rfl
  · exact hs

theorem loadPress (hs : s.linksSound) (q : Press) {v : PressSettings} (hv : v.valid = true) :
    (s.loadPress q v).linksSound := by
  obtain ⟨hrange, -⟩ := hs q
  exact hs.setLink ((hs q).sameState (hrange.store hv) rfl fun _ => rfl)

theorem applySettings (hs : s.linksSound) {v : Settings} (ha : v.presses.a.valid = true) (hb : v.presses.b.valid = true) :
    (s.applySettings v).linksSound := by
  have hpresses := ((hs.congr (s.storeWeights_links v.weights v.imageWeight)).loadPress .a ha).loadPress .b hb
  refine hpresses.congr ?_
  simp only [State.applySettings, State.loadMasks_links, State.storeStall_links]

theorem completeLoad (hs : s.linksSound) (image : Option (List Byte)) : (s.completeLoad image).linksSound := by
  unfold State.completeLoad
  split
  · rename_i v hv
    obtain ⟨bytes, -, hv⟩ := Option.bind_eq_some_iff.1 hv
    obtain ⟨ha, hb⟩ := presses_valid_of_settingsOf hv
    exact hs.applySettings ha hb
  · exact (hs.congr (State.latchAll_links ..)).applySettings (by decide) (by decide)

end State.linksSound

end Sys2Proof.Machine
end

section
/-! Every command keeps the press links sound: the theorem that settles O55. -/

namespace Sys2Proof.Machine

open Sys2Proof

/-! ### What leaves the press links -/

section
variable (s : State)

theorem State.grantDesk_links {s g : State} {p : Port} {h : HeldRequest} (hg : s.grantDesk p = some (g, h)) :
    g.links = s.links := (State.apart_eq_iff.1 (State.grantDesk_apart hg)).1

theorem State.grantImage_links {s g : State} (hg : s.grantImage = some g) : g.links = s.links := by
  obtain ⟨run, rfl⟩ := State.grantImage_holds hg
  rfl

theorem State.staleAll_links (set : List Nat) : (s.staleAll set).links = s.links :=
  (State.apart_eq_iff.1 (s.staleAll_apart set)).1

theorem State.examine_links (ps : List Nat) : (s.examine ps).links = s.links := by
  have h := congrArg State.links (s.examine_frame ps)
  exact h

theorem State.takeFrame_links (p : Port) (h : HeldRequest) : (s.takeFrame p h).links = s.links := by
  unfold State.takeFrame
  split
  · split
    · split <;> simp
    · exact State.raise_links ..
  · split
    · exact State.formReply_links ..
    · exact State.raise_links ..

/-! ### The image port (R68 to R76) -/

theorem State.imageRefuse_links (r : Reason) : (s.imageRefuse r).links = s.links := State.raise_links ..

theorem State.imageRefuseLatch_links (r : Reason) (i : Option Nat) : (s.imageRefuseLatch r i).links = s.links :=
  s.imageRefuse_links r

theorem State.refuseLoad_links (r : Reason) : (s.refuseLoad r).links = s.links := State.imageRefuseLatch_links ..

theorem State.abortReply_links : s.abortReply.links = s.links := State.raise_links ..

theorem State.loadTimeout_links : s.loadTimeout.links = s.links := State.raise_links ..

theorem State.takeHeader_links (words : List Word32) : (s.takeHeader words).links = s.links := by
  unfold State.takeHeader
  split
  · split
    · exact s.imageRefuseLatch_links _ _
    · rfl
  · rfl

theorem State.headerGrant_links : s.headerGrant.links = s.links := by
  unfold State.headerGrant
  split
  · rfl
  split
  · exact State.imageRefuseLatch_links ..
  · rfl

theorem State.takePayloadTransfer_links (n : Nat) (words : List Word32) : (s.takePayloadTransfer n words).links = s.links := by
  unfold State.takePayloadTransfer
  split <;> rfl

theorem State.takeEndMark_links (check : Word32) : (s.takeEndMark check).links = s.links := by
  unfold State.takeEndMark
  split
  · exact s.imageRefuse_links _
  · exact s.imageRefuse_links _
  · rfl
  split
  · rfl
  split
  · exact s.refuseLoad_links _
  · rfl

/-- A commit stales sheets, and staling leaves the links (R18, R73). -/
theorem State.commitLoad_links (r : LoadRecord) : (s.commitLoad r).links = s.links := by
  rw [State.commitLoad_eq]
  exact (State.raise_links ..).trans (State.staleAll_links ..)

theorem State.endMarkGrant_links : s.endMarkGrant.links = s.links := by
  unfold State.endMarkGrant
  split
  · rfl
  split
  · exact s.refuseLoad_links _
  split
  · split
    · exact s.refuseLoad_links _
    · exact s.commitLoad_links _
  · exact State.raise_links ..

theorem State.takeAbort_links : s.takeAbort.links = s.links := by
  unfold State.takeAbort
  split
  · rfl
  all_goals exact State.abortReply_links _

theorem State.takeTransfer_links (words : List Word32) : (s.takeTransfer words).links = s.links := by
  unfold State.takeTransfer
  split
  · exact s.takePayloadTransfer_links _ _
  · split
    · exact s.takeEndMark_links _
    · rfl
  · exact s.takeAbort_links
  · exact s.takeHeader_links words

/-! ### The placement unit and the renderer -/

theorem State.acceptCompletion_links (u : InProgress) : (s.acceptCompletion u).links = s.links := by
  have hdrop (t : State) (i : Nat) : (t.dropRunJob i).links = t.links := by
    unfold State.dropRunJob
    split
    · rfl
    split <;> rfl
  unfold State.acceptCompletion
  split
  · rfl
  split
  · split
    · rfl
    · exact hdrop _ _
  · rfl

theorem State.grantJob_links (j : Job) : (s.grantJob j).links = s.links := by rw [State.grantJob_eq]

theorem State.stallExpiry_links : s.stallExpiry.links = s.links := by
  unfold State.stallExpiry
  split
  · rfl
  split
  · rfl
  split <;> rfl

/-! ### The rows of approval and of portraits -/

theorem approveSheet_links (i epoch : Nat) : (approveSheet i epoch s).1.links = s.links := by
  unfold approveSheet
  split
  · rfl
  split
  · rfl
  split
  · rfl
  split
  · rfl
  · rw [State.mapPortraits_eq, State.setSheet_links]

theorem unlockSheet_links (i : Nat) : (unlockSheet i s).1.links = s.links := by
  unfold unlockSheet
  split
  · rfl
  split
  · rfl
  · rw [State.examine_links, State.mapPortraits_eq, State.setSheet_links]

theorem reservePortrait_links (i : Nat) : (reservePortrait i s).1.links = s.links := by
  unfold reservePortrait
  split
  · rfl
  split <;> rfl

theorem releasePortrait_links (i : Nat) : (releasePortrait i s).1.links = s.links := by
  unfold releasePortrait
  split
  · rfl
  split
  · rfl
  split <;> rfl

theorem setFaceBox_links (i : Nat) (face : FaceBox) : (setFaceBox i face s).1.links = s.links := by
  unfold setFaceBox
  split
  · rfl
  split
  · rfl
  split
  · rfl
  split
  · rfl
  split
  · rfl
  split
  · rfl
  · exact State.staleAll_links ..

/-! ### The rows of the arbiter, the counters and the settings image -/

theorem setArbiter_links (w0 w1 w2 w3 wi : Nat) : (setArbiter w0 w1 w2 w3 wi s).1.links = s.links := by
  unfold setArbiter
  dsimp only
  split
  · rfl
  · exact s.storeWeights_links _ _

theorem clearCounters_links (u : Nat) (index : Option Nat) : (clearCounters u index s).1.links = s.links := by
  unfold clearCounters
  split
  · exact List.foldlRecOn (motive := fun t : State => t.links = s.links) _ _ rfl fun _ ht _ _ => ht
  · rfl

theorem saveSettings_links : (saveSettings s).1.links = s.links := by
  unfold saveSettings
  split <;> rfl

/-! ### The rows of jobs -/

theorem submitRun_links (p : Port) (i press copies : Nat) : (submitRun p i press copies s).1.links = s.links := by
  unfold submitRun
  split
  · rfl
  split
  · rfl
  split
  · rfl
  split
  · rfl
  split
  · rfl
  split <;> rfl

theorem submitProof_links (p : Port) (i press : Nat) : (submitProof p i press s).1.links = s.links := by
  unfold submitProof
  split
  · rfl
  split
  · rfl
  split
  · rfl
  split
  · rfl
  split
  · rfl
  · exact State.links_examineProof _

/-- A cancelled job that ends takes its frames and its attempts along (R124, R151). -/
theorem cancelJob_eases (tag : Nat) : s.LinksEase (cancelJob tag s).1 := by
  unfold cancelJob
  split
  · exact .refl s
  split
  · exact .refl s
  split
  · exact .refl s
  split
  · exact .of_links rfl
  · exact (State.LinksEase.endJob s _ _).trans (.recheckWait _)

end

/-! ### The commands -/

/-- Where an outcome goes on, the press links are sound if they were. -/
def State.KeepsLinks (s : State) (o : Host.Outcome State Fault Refusal) : Prop :=
  ∀ t, o = .next t → s.linksSound → t.linksSound

namespace State.KeepsLinks

variable {s t : State}

theorem next (h : s.linksSound → t.linksSound) : s.KeepsLinks (.next t) := by
  intro u hu
  cases hu
  exact h

theorem links (h : t.links = s.links) : s.KeepsLinks (.next t) := next fun hs => hs.congr h

theorem eases (h : s.LinksEase t) : s.KeepsLinks (.next t) := next h.sound

theorem serve {p : Port} {row : Option Request → Option Effect}
    (h : ∀ g r op, row r = some op → g.linksSound → (op g).1.linksSound) : s.KeepsLinks (.next (s.serve p row)) := by
  refine next fun hs => ?_
  unfold State.serve
  split
  · exact hs
  rename_i g r hg
  split
  · exact hs
  · rename_i op hop
    exact (h g _ op hop (hs.congr (State.grantDesk_links hg))).congr (State.finish_links ..)

end State.KeepsLinks

/-- The book and roster rows. -/
theorem execBookRow_keepsLinks {s : State} {c : Instr} {p : Port}
    (hc : c ∈ [.openBook p, .setBook p, .closeBook p, .addSection p, .setSection p, .dropSection p, .addSheet p, .dropSheet p,
      .setLayout p, .addEntry p, .dropEntry p, .editEntryName p, .editEntryRole p, .editEntryStatus p, .editEntryPortrait p,
      .moveEntry p, .swapPortraits p]) : s.KeepsLinks (exec c s) :=
  fun _ ht hs => hs.congr (State.apart_eq_iff.1 (exec_bookRow_apart hc ht)).1

/-- The READ rows, and the rows that touch a port's notices and mask alone. -/
theorem execReadRow_keepsLinks {s : State} {c : Instr} {p : Port}
    (hc : c ∈ [.readBook p, .readSection p, .readSheet p, .readEntry p, .readRosterIndex p, .readPortrait p, .readImagePort p,
      .readPlacementUnit p, .readPlacementResult p, .readTile p, .readJob p, .readPressJobCollections p, .readRenderer p,
      .readPressLink p, .readDeskPort p, .readArbiter p, .readCounters p, .readSettingsPort p, .readNotices p,
      .setNoticeMask p, .unknownRequestCode p]) : s.KeepsLinks (exec c s) := by
  intro t ht hs
  obtain ⟨hrest, -⟩ := State.offDesk_eq_iff.1 (exec_readRow_offDesk hc ht)
  have hlinks := congrArg State.links hrest
  exact hs.congr hlinks

/-- The rows of approval and of portraits, and those of the arbiter, the counters and the settings image. -/
theorem execTableRow_keepsLinks {s : State} {c : Instr} {p : Port}
    (hc : c ∈ [.approveSheet p, .unlockSheet p, .reservePortrait p, .releasePortrait p, .setFaceBox p, .setArbiter p,
      .clearCounters p, .saveSettings p]) : s.KeepsLinks (exec c s) := by
  simp only [List.mem_cons, List.not_mem_nil, or_false] at hc
  rcases hc with rfl | rfl | rfl | rfl | rfl | rfl | rfl | rfl <;>
    refine State.KeepsLinks.serve fun g r op hr hg => hg.congr ?_ <;> split at hr <;> cases hr
  · exact approveSheet_links ..
  · exact unlockSheet_links ..
  · exact reservePortrait_links ..
  · exact releasePortrait_links ..
  · exact setFaceBox_links ..
  · exact setArbiter_links ..
  · exact clearCounters_links ..
  · exact saveSettings_links g

/-- The desk lines, and the end of a save. -/
theorem execLine_keepsLinks {s : State} {c : Instr} {p : Port}
    (hc : (∃ bytes, c = .requestFrame p bytes) ∨ (∃ readBack, c = .settingsSaveComplete readBack) ∨
      c ∈ [.requestFrameStart p, .replyFrameSent p, .lineBreak p, .breakEnd p]) : s.KeepsLinks (exec c s) := by
  simp only [List.mem_cons, List.not_mem_nil, or_false] at hc
  rcases hc with ⟨bytes, rfl⟩ | ⟨readBack, rfl⟩ | rfl | rfl | rfl | rfl <;> simp only [exec]
  · unfold execRequestFrame
    split
    · exact .links rfl
    split
    · exact .links (State.raise_links ..)
    · exact .links (State.takeFrame_links ..)
  · unfold execSettingsSaveComplete
    split <;> exact .links rfl
  · unfold execRequestFrameStart
    split <;> exact .links rfl
  · exact .links rfl
  · unfold execLineBreak
    split <;> exact .links rfl
  · unfold execBreakEnd
    split <;> exact .links rfl

/-- The image port and the placement unit. -/
theorem execImage_keepsLinks {s : State} {c : Instr}
    (hc : (∃ words, c = .imageHeader words) ∨ (∃ n words, c = .imagePayload n words) ∨ (∃ check, c = .imageEndMark check) ∨
      c ∈ [.imageHeaderGrant, .imageEndMarkGrant, .imageAbort, .loadTimerExpiry, .placementTake, .placementCompletion]) :
    s.KeepsLinks (exec c s) := by
  simp only [List.mem_cons, List.not_mem_nil, or_false] at hc
  rcases hc with ⟨words, rfl⟩ | ⟨n, words, rfl⟩ | ⟨check, rfl⟩ | rfl | rfl | rfl | rfl | rfl | rfl <;> simp only [exec]
  · exact .links (s.takeTransfer_links words)
  · exact .links (s.takePayloadTransfer_links n words)
  · exact .links (s.takeEndMark_links check)
  · unfold execImageHeaderGrant
    split
    · split
      · rename_i g hg
        exact .links (g.headerGrant_links.trans (State.grantImage_links hg))
      · exact .links rfl
    · exact .links rfl
  · unfold execImageEndMarkGrant
    split
    · split
      · rename_i g hg
        exact .links (g.endMarkGrant_links.trans (State.grantImage_links hg))
      · exact .links rfl
    · exact .links rfl
  · exact .links s.takeAbort_links
  · unfold execLoadTimerExpiry
    split
    · exact .links s.loadTimeout_links
    · exact .links rfl
  · unfold execPlacementTake
    split
    · split <;> exact .links rfl
    · exact .links rfl
  · unfold execPlacementCompletion
    split
    · exact .links rfl
    · exact .links ((State.links_examineProof _).trans (State.acceptCompletion_links ..))

/-- The rows of jobs, FORCE RESYNC and SET PRESS (R118 to R124, R163, R164). -/
theorem execPrintRow_keepsLinks {s : State} {c : Instr} {p : Port}
    (hc : c ∈ [.submitRun p, .submitProof p, .cancelJob p, .forceResync p, .setPress p]) : s.KeepsLinks (exec c s) := by
  simp only [List.mem_cons, List.not_mem_nil, or_false] at hc
  rcases hc with rfl | rfl | rfl | rfl | rfl <;> refine State.KeepsLinks.serve fun g r op hr hg => ?_ <;>
    split at hr <;> cases hr
  · exact hg.congr (submitRun_links ..)
  · exact hg.congr (submitProof_links ..)
  · exact State.LinksEase.sound (cancelJob_eases g _) hg
  · exact hg.forceResync _
  · exact hg.setPress _ _ _ _ _ _

/-- The renderer (R126 to R129, R133). -/
theorem execRenderer_keepsLinks {s : State} {c : Instr} (hc : Instr.ofRenderer c) : s.KeepsLinks (exec c s) := by
  rcases hc with rfl | rfl | rfl | rfl <;> simp only [exec]
  · unfold execRendererGrant
    split
    · exact .links (((State.links_startStall _).trans (State.links_examineProof _)).trans (s.grantJob_links _))
    · exact .links rfl
  · unfold execBandBegin
    split
    · split <;> exact .links rfl
    · exact .links rfl
  · have hclear : s.LinksEase s.clearBand := .of_links rfl
    unfold execBandCompletion
    split
    · split
      · exact .eases (hclear.trans (.endJob _ _ _))
      split
      · exact .eases (hclear.trans (.takeRewind _ _ _ _))
      · exact .eases ((hclear.trans (.frameJoins _ _ _)).trans (.of_links (State.links_advance ..)))
    · exact .links rfl
  · unfold execStallTimerExpiry
    split
    · exact .links s.stallExpiry_links
    · exact .links rfl

/-- The presses (R144 to R154). -/
theorem execPress_keepsLinks {s : State} {c : Instr} {q : Press} (hc : Instr.ofPress c q) : s.KeepsLinks (exec c s) := by
  rcases hc with ⟨f, x, o, rfl⟩ | rfl | ⟨e, rfl⟩ | rfl | rfl | ⟨w, rfl⟩
  · exact .next fun hs => hs.takeMarkReport q f x o
  · exact .next fun hs => hs.takeFrameRequest q
  · exact .next fun hs => hs.takeStatusReport q e
  · exact fun t ht hs => hs.onlineFall q ht
  · exact fun t ht hs => hs.onlineRise q ht
  · exact .next fun hs => hs.takeReturnWord q w

/-- Every command keeps the press links sound. -/
theorem exec_keepsLinks (c : Instr) (s : State) : s.KeepsLinks (exec c s) := by
  cases c with
  | markReport q _ _ _ | frameRequest q | statusReport q _ | onlineFall q | onlineRise q | badReturnWord q _ =>
    exact execPress_keepsLinks (q := q) (by simp [Instr.ofPress])
  | rendererGrant | bandBegin | bandCompletion | stallTimerExpiry => exact execRenderer_keepsLinks (by simp [Instr.ofRenderer])
  | submitRun p | submitProof p | cancelJob p | forceResync p | setPress p => exact execPrintRow_keepsLinks (p := p) (by simp)
  | settingsLoadComplete image =>
    simp only [exec, execSettingsLoadComplete]
    split
    · exact .next fun hs => hs.completeLoad image
    · exact .links rfl
  | reset =>
    exact .next fun _ => State.linksSound_resetWith (s.ports.map (·.breakLevel)) ⟨(s.link .a).onlineLine, (s.link .b).onlineLine⟩
  | imageHeader _ | imagePayload _ _ | imageEndMark _ | imageHeaderGrant | imageEndMarkGrant | imageAbort | loadTimerExpiry
  | placementTake | placementCompletion => exact execImage_keepsLinks (by simp)
  | requestFrame p _ | requestFrameStart p | replyFrameSent p | lineBreak p | breakEnd p =>
    exact execLine_keepsLinks (p := p) (by simp)
  | settingsSaveComplete _ => exact execLine_keepsLinks (p := .dp0) (by simp)
  | approveSheet p | unlockSheet p | reservePortrait p | releasePortrait p | setFaceBox p | setArbiter p | clearCounters p
  | saveSettings p => exact execTableRow_keepsLinks (p := p) (by simp)
  | openBook p | setBook p | closeBook p | addSection p | setSection p | dropSection p | addSheet p | dropSheet p
  | setLayout p | addEntry p | dropEntry p | editEntryName p | editEntryRole p | editEntryStatus p | editEntryPortrait p
  | moveEntry p | swapPortraits p => exact execBookRow_keepsLinks (p := p) (by simp)
  | readBook p | readSection p | readSheet p | readEntry p | readRosterIndex p | readPortrait p | readImagePort p
  | readPlacementUnit p | readPlacementResult p | readTile p | readJob p | readPressJobCollections p | readRenderer p
  | readPressLink p | readDeskPort p | readArbiter p | readCounters p | readSettingsPort p | readNotices p
  | setNoticeMask p | unknownRequestCode p => exact execReadRow_keepsLinks (p := p) (by simp)

/-- An idle millisecond leaves the press links. -/
theorem State.tick_links (s : State) : s.tick.links = s.links := by
  have hload : s.tickLoad.links = s.links := by
    unfold State.tickLoad
    split
    · rfl
    split
    · exact s.loadTimeout_links
    · rfl
  have hstall (t : State) : t.tickStall.links = t.links := by
    unfold State.tickStall
    split
    · rfl
    split
    · exact t.stallExpiry_links
    · rfl
  have harbiter (t : State) : t.tickArbiter.links = t.links := by
    unfold State.tickArbiter
    split
    · split
      · split
        · exact State.grantDesk_links ‹_›
        · rfl
      · rfl
    · rfl
  exact (harbiter _).trans ((hstall _).trans hload)

/-- Settles O55, command by command: a command leaves the press links, takes frames, records and attempts from them, or moves
one lock or one transmission as the rules of chapters 8 and 9 say. -/
theorem everyStepKeepsTheLinksSound : Obligations.EveryStepKeepsTheLinksSound := by
  unfold Obligations.EveryStepKeepsTheLinksSound
  intro s t hs h
  unfold step at h
  split at h
  · cases h
    exact hs.congr s.tick_links
  · exact exec_keepsLinks _ _ t h hs

end Sys2Proof.Machine
end

section
/-! The desk lines and the arbiter's ring: frames, breaks and the decision. The theorems that settle O3, O4 and O5. -/

namespace Sys2Proof.Machine

open Sys2Proof

/-! ### A frame as it arrives (R168, R169) -/

section
variable {s : State} {p : Port} {bytes : List Byte} {h : HeldRequest}

theorem exec_requestFrame_valid (hr : (s.port p).receiver ≠ .atBreak) (hf : frameRequestOf bytes = some h) :
    exec (.requestFrame p bytes) s = .next ((s.setPort p { s.port p with receiver := .idle }).takeFrame p h) := by
  simp only [exec, execRequestFrame, hf]

theorem exec_requestFrame_invalid (hr : (s.port p).receiver ≠ .atBreak) (hf : frameRequestOf bytes = none) :
    exec (.requestFrame p bytes) s = .next ((s.setPort p { s.port p with receiver := .idle }).raise (portUnit p) 2) := by
  simp only [exec, execRequestFrame, hf, State.discardFrame]

end

section
variable {s : State} {p : Port} (h : HeldRequest)

/-- A frame that finds a place waits, in the port as its receiver has left it. -/
theorem State.takeFrame_waits {d : DeskPort} (hs : d.slot = .empty) (hw : 0 < s.arbiter.weights.get p)
    (hq : d.replies.length < 4) : (s.setPort p d).takeFrame p h = s.setPort p { d with slot := .waiting h } := by
  simp [State.takeFrame, hs, hw, hq, Config.replyPlaces, State.setPort_setPort]

theorem State.takeFrame_disabled (hs : (s.port p).slot = .empty) (hw : s.arbiter.weights.get p = 0)
    (hq : (s.port p).replies.length < 4) : s.takeFrame p h = s.formReply p h.tag (Answer.refuse .disabled) := by
  simp [State.takeFrame, hs, hw, hq, Config.replyPlaces]

theorem State.takeFrame_busy (hs : (s.port p).slot ≠ .empty) (hq : (s.port p).replies.length + 1 < 4) :
    s.takeFrame p h = s.formReply p h.tag Answer.busy := by
  unfold State.takeFrame
  split
  · exact absurd ‹_› hs
  · exact if_pos hq

/-- With no place left for its reply, a frame is discarded; a held request keeps a place for its own. -/
theorem State.takeFrame_full (hq : 4 ≤ (s.port p).replies.length + (if (s.port p).slot = .empty then 0 else 1)) :
    s.takeFrame p h = s.raise (portUnit p) 2 := by
  unfold State.takeFrame
  split
  · rename_i hs
    rw [if_pos hs] at hq
    exact if_neg (not_lt.2 hq)
  · rename_i hs
    rw [if_neg hs] at hq
    exact if_neg (not_lt.2 hq)

end

/-- Settles O3: the cases of R169 are those of `State.takeFrame`, met with the receiver IDLE again. -/
theorem deskLineRowsFollowTheReceiver : Obligations.DeskLineRowsFollowTheReceiver := by
  unfold Obligations.DeskLineRowsFollowTheReceiver
  refine ⟨fun s p bytes h hr hf => ?_, fun s p => ⟨fun bytes => exec_requestFrame_invalid, fun hi => ?_, fun r rs hq => ?_,
    fun hb => ?_⟩⟩
  · rw [exec_requestFrame_valid hr hf]
    refine ⟨fun hs hw hq => ?_, fun hs hw hq => ?_, fun hs hq => ?_, fun hq => ?_⟩ <;> refine congrArg Host.Outcome.next ?_
    · exact State.takeFrame_waits h hs hw hq
    · exact State.takeFrame_disabled h (by simpa using hs) hw (by simpa using hq)
    · exact State.takeFrame_busy h (by simpa using hs) (by simpa using hq)
    · exact State.takeFrame_full h (by simpa using hq)
  · simp only [exec, execRequestFrameStart, hi]
  · simp only [exec, execReplyFrameSent, hq, List.tail_cons]
  · simp only [exec, execBreakEnd, hb]

/-! ### A break (R178, R182) -/

/-- The notice set that stands after a clear: REG_TIMEOUT of each press whose condition holds (R182). -/
def regTimeouts (condA condB : Bool) : List (Nat × Latch) :=
  (if condA then [(13, { count := 1, subject := .none })] else []) ++
    (if condB then [(14, { count := 1, subject := .none })] else [])

theorem tabFind_regTimeouts (a b : Bool) (n : Nat) :
    tabFind (regTimeouts a b) n =
      if n = 13 ∧ a = true then some { count := 1, subject := .none }
      else if n = 14 ∧ b = true then some { count := 1, subject := .none } else none := by
  cases a <;> cases b <;> simp [regTimeouts, tabFind]

theorem attentionOf_regTimeouts (a b : Bool) (mask : BitVec 16) :
    attentionOf (regTimeouts a b) mask = (a && !mask.getLsbD 13 || b && !mask.getLsbD 14) := by
  cases a <;> cases b <;> simp [regTimeouts, attentionOf]

/-- A clear leaves a port the timeouts that hold, and its attention line shows them (R182, R183). -/
theorem DeskPort.relatch_cleared (d : DeskPort) (a b : Bool) :
    ({ d with notices := [] } : DeskPort).updateAttention.relatch a b =
      { d with notices := regTimeouts a b, attention := attentionOf (regTimeouts a b) d.mask } := by
  cases a <;> cases b <;> rfl

theorem State.clearNotices_setPort (s : State) (p : Port) (d : DeskPort) :
    (s.setPort p d).clearNotices p = s.setPort p { d with
      notices := regTimeouts (s.link .a).reg.timedOut (s.link .b).reg.timedOut
      attention := attentionOf (regTimeouts (s.link .a).reg.timedOut (s.link .b).reg.timedOut) d.mask } := by
  rw [State.clearNotices, State.setPort_setPort, State.port_setPort_self, DeskPort.relatch_cleared]
  rfl

/-- A break empties a slot that is not GRANTED (R178, step 2). -/
theorem DeskPort.breakSlot_of_not_granted {d : DeskPort} (h : ∀ r, d.slot ≠ .granted r) :
    d.breakSlot = { d with slot := .empty } := by
  unfold DeskPort.breakSlot
  split
  · rename_i hs
    rw [← hs]
  · rfl
  · exact absurd ‹_› (h _)

/-- A GRANTED slot stays, under the silent mark (R178, step 3). -/
theorem DeskPort.breakSlot_of_granted {d : DeskPort} {r : HeldRequest} (h : d.slot = .granted r) :
    d.breakSlot = { d with silent := true } := by
  simp only [DeskPort.breakSlot, h]

/-- A break moves the slot and the silent mark, and of the rest of the port nothing (R178, steps 2 and 3). -/
theorem DeskPort.breakSlot_eq (d : DeskPort) : d.breakSlot = { d with slot := d.breakSlot.slot, silent := d.breakSlot.silent } := by
  unfold DeskPort.breakSlot
  split <;> rfl

/-- The port after a break, with the presses' timeout conditions (R178, R182). -/
def DeskPort.afterBreak (d : DeskPort) (condA condB : Bool) : DeskPort :=
  { d with
    receiver := .atBreak, breakLevel := true, slot := d.breakSlot.slot, silent := d.breakSlot.silent, replies := []
    mask := d.defaultMask, notices := regTimeouts condA condB
    attention := attentionOf (regTimeouts condA condB) d.defaultMask }

theorem exec_lineBreak {s : State} {p : Port} (h : (s.port p).receiver ≠ .atBreak) :
    exec (.lineBreak p) s =
      .next (s.setPort p ((s.port p).afterBreak (s.link .a).reg.timedOut (s.link .b).reg.timedOut)) := by
  simp only [exec, execLineBreak]
  rw [State.clearNotices_setPort, DeskPort.breakSlot_eq]
  rfl

/-- Settles O4: the port is `DeskPort.afterBreak` of what it was, and the state moves nowhere else. -/
theorem aBreakClearsTheSession : Obligations.ABreakClearsTheSession := by
  unfold Obligations.ABreakClearsTheSession
  intro s p hr
  refine ⟨_, exec_lineBreak hr, ?_⟩
  rw [State.port_setPort_self]
  refine ⟨rfl, rfl, rfl, rfl, fun hs => ?_, fun r hs => ?_, fun n hn => ?_, ?_, ?_, attentionOf_regTimeouts .., fun q hq => ?_,
    rfl⟩
  · simp [DeskPort.afterBreak, DeskPort.breakSlot_of_not_granted hs]
  · simp [DeskPort.afterBreak, DeskPort.breakSlot_of_granted hs, hs]
  · rw [DeskPort.afterBreak, tabFind_regTimeouts, if_neg (by omega), if_neg (by omega)]
  · simp [DeskPort.afterBreak, tabFind_regTimeouts]
  · simp [DeskPort.afterBreak, tabFind_regTimeouts]
  · exact State.port_setPort_other _ _ hq

/-! ### The arbiter's decision (R173, R174) -/

/-- The ring after a requester holds every other one (R173). -/
theorem mem_ringAfter {x r : Requester} : x ∈ ringAfter r ↔ x ≠ r := by
  rcases x with (_ | _ | _ | _) | _ <;> rcases r with (_ | _ | _ | _) | _ <;> decide

section
variable {s : State}

theorem State.decision_stays (ha : s.asking s.arbiter.turn = true) (hr : s.arbiter.run < s.arbiter.weight s.arbiter.turn) :
    s.decision = some (s.arbiter.turn, s.arbiter.run + 1) :=
  if_pos ⟨ha, hr⟩

/-- The requester at the pointer does not ask, or has used its weight (R174). -/
def State.spent (s : State) : Prop := s.asking s.arbiter.turn = false ∨ s.arbiter.weight s.arbiter.turn ≤ s.arbiter.run

theorem State.spent.not_stays (h : s.spent) :
    ¬(s.asking s.arbiter.turn = true ∧ s.arbiter.run < s.arbiter.weight s.arbiter.turn) := by
  rintro ⟨ha, hr⟩
  rcases h with h | h
  · simp [h] at ha
  · exact absurd hr (not_lt.2 h)

theorem State.decision_passes {r : Requester} (h : s.spent) (hr : (ringAfter s.arbiter.turn).find? s.asking = some r) :
    s.decision = some (r, 1) := by
  simp only [State.decision, if_neg h.not_stays, hr]

theorem State.decision_alone (h : s.spent) (hring : ∀ x ∈ ringAfter s.arbiter.turn, s.asking x = false) :
    s.decision = if s.asking s.arbiter.turn then some (s.arbiter.turn, s.arbiter.run) else none := by
  have hfind : (ringAfter s.arbiter.turn).find? s.asking = none := List.find?_eq_none.2 fun x hx => by simp [hring x hx]
  simp only [State.decision, if_neg h.not_stays, hfind]

theorem State.decision_eq_none_iff : s.decision = none ↔ ∀ x, s.asking x = false := by
  constructor
  · intro hnone
    have hturn : s.asking s.arbiter.turn = false := by
      by_contra ha
      rw [Bool.not_eq_false] at ha
      unfold State.decision at hnone
      split at hnone
      · cases hnone
      split at hnone
      · cases hnone
      · cases hnone
    intro x
    by_cases hx : x = s.arbiter.turn
    · rw [hx, hturn]
    · cases hfind : (ringAfter s.arbiter.turn).find? s.asking with
      | some r => simp [State.decision_passes (.inl hturn) hfind] at hnone
      | none => simpa using List.find?_eq_none.1 hfind x (mem_ringAfter.2 hx)
  · intro h
    rw [State.decision_alone (.inl (h _)) fun x _ => h x, h]
    rfl

end

/-- Settles O5, by whether the requester at the pointer asks and has decisions left. -/
theorem theArbiterFollowsTheRing : Obligations.TheArbiterFollowsTheRing := by
  unfold Obligations.TheArbiterFollowsTheRing
  intro s
  refine ⟨State.decision_stays, fun before r after hring hbefore hask hspent => ?_, fun hring hask hspent => ?_,
    State.decision_eq_none_iff⟩
  · have hfind : (ringAfter s.arbiter.turn).find? s.asking = some r :=
      List.find?_eq_some_iff_append.2 ⟨hask, before, after, hring, fun x hx => by simp [hbefore x hx]⟩
    exact State.decision_passes hspent hfind
  · rw [State.decision_alone (.inr hspent) hring, if_pos hask]

end Sys2Proof.Machine
end

section
/-! The serving of a request: its grant, its row, and its end with a reply. The theorems that settle O6, O7 and O47. -/

namespace Sys2Proof.Machine

open Sys2Proof

/-! ### When a request is served (R170, R174) -/

section
variable {s : State} {p : Port} {h : HeldRequest}

theorem State.grantDesk_waiting {run : Nat} (hs : (s.port p).slot = .waiting h) (hl : s.settings.state ≠ .loading)
    (he : s.arbiter.engine = none) (hd : s.decision = some (.desk p, run)) :
    s.grantDesk p = some ((s.setPort p { s.port p with slot := .granted h }).hold (.desk p) run, h) := by
  simp [State.grantDesk, hs, State.decides, hl, he, hd]

theorem State.grantDesk_held (hs : (s.port p).slot = .granted h) (he : s.arbiter.engine = some (.desk p)) :
    s.grantDesk p = some (s, h) := by
  simp [State.grantDesk, hs, he]

/-- A grant is of the request that the port's slot holds. -/
theorem State.grantDesk_holds {g : State} {k : HeldRequest} (hg : s.grantDesk p = some (g, k))
    (hs : (s.port p).slot = .waiting h ∨ (s.port p).slot = .granted h) : k = h := by
  obtain ⟨-, hk, -⟩ | ⟨run, -, hk, -⟩ := State.grantDesk_cases hg <;> rcases hs with hs | hs <;> rw [hs] at hk <;> cases hk <;>
    rfl

/-- An EMPTY slot, an engine that does not decide for the port, and a GRANTED slot without the engine serve nothing. -/
theorem State.grantDesk_eq_none
    (hno : (s.port p).slot = .empty ∨
      (∃ k, (s.port p).slot = .waiting k ∧
        (s.settings.state = .loading ∨ s.arbiter.engine.isSome ∨ ∀ run, s.decision ≠ some (.desk p, run))) ∨
      ∃ k, (s.port p).slot = .granted k ∧ s.arbiter.engine ≠ some (.desk p)) :
    s.grantDesk p = none := by
  rw [Option.eq_none_iff_forall_ne_some]
  rintro ⟨g, k⟩ hg
  obtain ⟨-, hslot, hengine⟩ | ⟨run, -, hslot, hload, hengine, hdec⟩ := State.grantDesk_cases hg <;> rw [hslot] at hno
  · obtain he | ⟨_, hw, -⟩ | ⟨_, -, hne⟩ := hno
    · cases he
    · cases hw
    · exact hne hengine
  · obtain he | ⟨_, -, hstop⟩ | ⟨_, hgr, -⟩ := hno
    · cases he
    · obtain hl | he | hd := hstop
      · exact hload hl
      · simp [hengine] at he
      · exact hd run hdec
    · cases hgr

theorem State.served_of_grant {g : State} {r : Request} (hg : s.grantDesk p = some (g, h)) (hr : requestOf h = some r) :
    s.served p r h.tag = some g := by
  simp [State.served, hg, hr]

theorem State.served_of_no_grant (hg : s.grantDesk p = none) (r : Request) (tag : Nat) : s.served p r tag = none := by
  simp [State.served, hg]

theorem State.serve_of_no_grant (hg : s.grantDesk p = none) (row : Option Request → Option Effect) : s.serve p row = s := by
  simp [State.serve, hg]

/-- What a grant moves: the port's slot, and the turn, the run count and the engine of the arbiter (R174). -/
theorem State.grantDesk_frame {g : State} (hg : s.grantDesk p = some (g, h)) :
    (∀ q, q ≠ p → g.port q = s.port q) ∧ g.port p = { s.port p with slot := (g.port p).slot } ∧
      g.arbiter.weights = s.arbiter.weights ∧ g.arbiter.imageWeight = s.arbiter.imageWeight ∧
      { g with ports := s.ports, arbiter := s.arbiter } = s := by
  obtain ⟨rfl, -⟩ | ⟨run, rfl, -⟩ := State.grantDesk_cases hg
  · exact ⟨fun _ _ => rfl, rfl, rfl, rfl, rfl⟩
  · have hport : ((s.setPort p { s.port p with slot := .granted h }).hold (.desk p) run).port p =
        { s.port p with slot := .granted h } := State.port_setPort_self ..
    exact ⟨fun q hq => State.port_setPort_other _ _ hq, by rw [hport], rfl, rfl, rfl⟩

end

/-! ### The rows of requests (R172) -/

/-- Every desk row serves the port, and gives an effect only to the requests whose row it is. -/
theorem exec_rowOf (p : Port) (o : Option Request) (s : State) : ∃ row : Option Request → Option Effect,
    exec (rowOf p o) s = .next (s.serve p row) ∧ ∀ r op, row r = some op → rowOf p r = rowOf p o := by
  rcases o with _ | o
  · refine ⟨_, rfl, fun r op hr => ?_⟩
    split at hr <;> cases hr <;> rfl
  · cases o <;> refine ⟨_, rfl, fun r op hr => ?_⟩ <;> split at hr <;> cases hr <;> rfl

/-- A desk row leaves a state that serves nothing at its port. -/
theorem exec_rowOf_of_no_grant {s : State} {p : Port} (hg : s.grantDesk p = none) (o : Option Request) :
    exec (rowOf p o) s = .next s := by
  obtain ⟨row, hexec, -⟩ := exec_rowOf p o s
  rw [hexec, State.serve_of_no_grant hg]

/-- A desk row leaves a state whose port holds a request of another row. -/
theorem exec_rowOf_of_other_row {s : State} {p : Port} {h : HeldRequest} {o : Option Request}
    (hs : (s.port p).slot = .waiting h ∨ (s.port p).slot = .granted h) (hne : rowOf p o ≠ rowOf p (requestOf h)) :
    exec (rowOf p o) s = .next s := by
  cases hg : s.grantDesk p with
  | none => exact exec_rowOf_of_no_grant hg o
  | some gk =>
    obtain ⟨g, k⟩ := gk
    obtain rfl := State.grantDesk_holds hg hs
    obtain ⟨row, hexec, hrow⟩ := exec_rowOf p o s
    have hnone : row (requestOf k) = none := Option.eq_none_iff_forall_ne_some.2 fun op hop => hne (hrow _ op hop).symm
    rw [hexec, State.serve_of_grant hg, hnone]

/-- Settles O6: a served request is the one a grant finds, and each way of not being served is a grant that fails. -/
theorem aServedRequestHoldsTheEngine : Obligations.AServedRequestHoldsTheEngine := by
  unfold Obligations.AServedRequestHoldsTheEngine
  refine ⟨fun s g p r tag h => ?_, fun s p h r hr => ⟨fun run hs hl he hd => ?_, fun hs he => ?_⟩, fun s p h => ?_,
    fun s p h o => exec_rowOf_of_other_row⟩
  · obtain ⟨k, hg, htag, hk⟩ := State.served_cases h
    obtain ⟨hslot, hengine⟩ := State.grantDesk_granted hg
    exact ⟨⟨k, hslot, htag, hk⟩, hengine, State.grantDesk_frame hg⟩
  · exact State.served_of_grant (State.grantDesk_waiting hs hl he hd) hr
  · exact State.served_of_grant (State.grantDesk_held hs he) hr
  · have hg := State.grantDesk_eq_none h
    exact ⟨State.served_of_no_grant hg, exec_rowOf_of_no_grant hg⟩

/-! ### A reply, counted and queued (R170, R171, R187) -/

/-- A raise moves of a port its notice set and its attention line at most (R187). -/
theorem State.port_raise (s : State) (u i : Nat) (p : Port) : (s.raise u i).port p = { s.port p with
    notices := ((s.raise u i).port p).notices, attention := ((s.raise u i).port p).attention } := by
  unfold State.raise
  split
  · rw [State.latchAll, State.port_mapPorts]
    rfl
  · rfl

theorem State.countReply_eq (s : State) (p : Port) (st : Status) :
    s.countReply p st = s.raise (portUnit p) (if st = .done then 0 else 1) := by
  cases st <;> rfl

/-- A port whose request is finished, before the count of its reply (R170, R178). -/
def DeskPort.finished (d : DeskPort) (r : Reply) : DeskPort :=
  { d with slot := .empty, silent := false, replies := d.replies ++ (if d.silent then [] else [r]) }

theorem State.finish_eq (s : State) (p : Port) (tag : Nat) (a : Answer) :
    s.finish p tag a =
      ((s.setPort p ((s.port p).finished (a.reply tag))).raise (portUnit p) (if a.status = .done then 0 else 1)).freeEngine := by
  unfold State.finish State.formReply State.enqueueReply DeskPort.finished
  split
  · simp [State.countReply_eq]
  · rename_i hs
    rw [Bool.not_eq_true] at hs
    simp [hs, State.countReply_eq, State.setPort_setPort]

section
variable (s : State) (p : Port) (tag : Nat) (a : Answer)

theorem State.finish_arbiter : (s.finish p tag a).arbiter = { s.arbiter with engine := none } := by
  simp [State.finish_eq]

theorem State.finish_counters :
    (s.finish p tag a).counters = (s.raise (portUnit p) (if a.status = .done then 0 else 1)).counters := by
  rw [State.finish_eq]
  exact State.raise_counters_congr _ _ _ _ rfl

theorem State.port_finish_self : (s.finish p tag a).port p = { (s.port p).finished (a.reply tag) with
    notices := ((s.finish p tag a).port p).notices, attention := ((s.finish p tag a).port p).attention } := by
  have h := (s.setPort p ((s.port p).finished (a.reply tag))).port_raise (portUnit p) (if a.status = .done then 0 else 1) p
  rw [State.port_setPort_self] at h
  rw [State.finish_eq]
  exact h

theorem State.port_finish_other {q : Port} (hq : q ≠ p) : (s.finish p tag a).port q = { s.port q with
    notices := ((s.finish p tag a).port q).notices, attention := ((s.finish p tag a).port q).attention } := by
  have h := (s.setPort p ((s.port p).finished (a.reply tag))).port_raise (portUnit p) (if a.status = .done then 0 else 1) q
  rw [State.port_setPort_other _ _ hq] at h
  rw [State.finish_eq]
  exact h

/-- The only notice that the end of a request can latch is COUNTER_WRAP (R187). -/
theorem State.notices_finish (q : Port) {n : Nat} (hn : n ≠ 11) :
    tabFind ((s.finish p tag a).port q).notices n = tabFind (s.port q).notices n := by
  rw [State.finish_eq]
  refine (State.notices_raise _ _ _ _ hn).trans ?_
  by_cases hq : q = p
  · subst hq
    rw [State.port_setPort_self]
    rfl
  · rw [State.port_setPort_other _ _ hq]

theorem State.finish_frame : { s.finish p tag a with ports := s.ports, arbiter := s.arbiter, counters := s.counters } = s := by
  rw [State.finish_eq]
  exact congrArg (fun t : State => { t with ports := s.ports, arbiter := s.arbiter })
    ((s.setPort p ((s.port p).finished (a.reply tag))).raise_frame (portUnit p) (if a.status = .done then 0 else 1))

end

/-- Settles O7: the port is finished and its reply counted, and a count moves notice sets and attention lines at most. -/
theorem aServedRequestEndsWithItsReply : Obligations.AServedRequestEndsWithItsReply := by
  unfold Obligations.AServedRequestEndsWithItsReply
  intro s p tag a
  have hself := s.port_finish_self p tag a
  have hother (q : Port) (hq : q ≠ p) := s.port_finish_other p tag a hq
  have hreplies := congrArg DeskPort.replies hself
  refine ⟨congrArg DeskPort.slot hself, congrArg DeskPort.silent hself, s.finish_arbiter p tag a, hreplies, fun q hq => ?_, ?_,
    hother, fun q n => s.notices_finish p tag a q, s.finish_counters p tag a, s.finish_frame p tag a⟩
  · have hq := hother q hq
    exact ⟨(congrArg DeskPort.replies hq :), (congrArg DeskPort.slot hq :), (congrArg DeskPort.mask hq :)⟩
  · rw [hreplies]
    exact hself

/-! ### SET ARBITER (R175, R176) -/

/-- What a port exchanges with its desk: the request it holds and the replies it has queued. -/
def DeskPort.exchange (d : DeskPort) : Slot × List Reply := (d.slot, d.replies)

/-- The exchange of a port under a new weight: at 0 a WAITING request is withdrawn and answered DISABLED (R175). -/
def exchangeUnder (weight : Nat) : Slot × List Reply → Slot × List Reply
  | (.waiting h, replies) =>
    if weight = 0 then (.empty, replies ++ [(Answer.refuse .disabled).reply h.tag]) else (.waiting h, replies)
  | e => e

/-- A request withdrawn by a weight of 0 is answered in the place kept for its reply. -/
theorem exchangeUnder_zero {d : DeskPort} {h : HeldRequest} (hs : d.slot = .waiting h) :
    exchangeUnder 0 d.exchange = (.empty, d.replies ++ [(Answer.refuse .disabled).reply h.tag]) := by
  simp [DeskPort.exchange, exchangeUnder, hs]

/-- Nothing is withdrawn where no request waits or the weight is not 0. -/
theorem exchangeUnder_keeps {d : DeskPort} {weight : Nat} (h : (∀ r, d.slot ≠ .waiting r) ∨ 0 < weight) :
    exchangeUnder weight d.exchange = d.exchange := by
  unfold exchangeUnder DeskPort.exchange
  split
  · rename_i r replies he
    simp only [Prod.mk.injEq] at he
    obtain ⟨hs, rfl⟩ := he
    rw [if_neg (by have := h.resolve_left (not_forall_not.2 ⟨r, hs⟩); omega), hs]
  · rfl

section
variable (s : State) (p : Port)

theorem State.exchange_raise (u i : Nat) : ((s.raise u i).port p).exchange = (s.port p).exchange := by
  rw [State.port_raise]
  rfl

theorem State.exchange_withdrawDisabled_self :
    ((s.withdrawDisabled p).port p).exchange = exchangeUnder (s.arbiter.weights.get p) (s.port p).exchange := by
  unfold State.withdrawDisabled
  split
  · rename_i h hs
    split
    · rename_i hw
      rw [hw, exchangeUnder_zero hs, State.formReply, State.countReply_eq, State.exchange_raise]
      simp [State.enqueueReply, DeskPort.exchange]
    · rename_i hw
      rw [exchangeUnder_keeps (.inr (Nat.pos_of_ne_zero hw))]
  · rename_i hs
    rw [exchangeUnder_keeps (.inl hs)]

theorem State.exchange_withdrawDisabled_other {q : Port} (hq : q ≠ p) :
    ((s.withdrawDisabled p).port q).exchange = (s.port q).exchange := by
  unfold State.withdrawDisabled
  split
  · split
    · rw [State.formReply, State.countReply_eq, State.exchange_raise, State.enqueueReply, State.port_setPort_other _ _ hq,
        State.port_setPort_other _ _ hq]
    · rfl
  · rfl

theorem State.withdrawDisabled_arbiter : (s.withdrawDisabled p).arbiter = s.arbiter := by
  unfold State.withdrawDisabled
  split
  · split
    · exact State.formReply_arbiter ..
    · rfl
  · rfl

theorem State.withdrawDisabled_frame : { s.withdrawDisabled p with ports := s.ports, counters := s.counters } = s := by
  unfold State.withdrawDisabled
  split
  · split
    · rw [State.formReply, State.countReply_eq]
      exact congrArg (fun t : State => { t with ports := s.ports }) (State.raise_frame ..)
    · rfl
  · rfl

/-- Withdrawals, port by port: each takes its own port's request alone. -/
theorem State.exchange_foldl_withdrawDisabled {l : List Port} (hl : l.Nodup) (s : State) (q : Port) :
    ((l.foldl State.withdrawDisabled s).port q).exchange =
      if q ∈ l then exchangeUnder (s.arbiter.weights.get q) (s.port q).exchange else (s.port q).exchange := by
  induction l generalizing s with
  | nil => simp
  | cons p l ih =>
    obtain ⟨hp, hl⟩ := List.nodup_cons.1 hl
    rw [List.foldl_cons, ih hl, State.withdrawDisabled_arbiter]
    by_cases hq : q = p
    · subst hq
      rw [if_neg hp, if_pos List.mem_cons_self, State.exchange_withdrawDisabled_self]
    · rw [State.exchange_withdrawDisabled_other _ _ hq]
      simp only [List.mem_cons, hq, false_or]

end

section
variable (s : State) (w : PerPort Nat) (wi : Nat)

theorem State.exchange_storeWeights (q : Port) :
    ((s.storeWeights w wi).port q).exchange = exchangeUnder (w.get q) (s.port q).exchange := by
  have hmem : q ∈ allPorts := by cases q <;> decide
  rw [State.storeWeights, State.exchange_foldl_withdrawDisabled (by decide), if_pos hmem]
  rfl

theorem State.storeWeights_arbiter :
    (s.storeWeights w wi).arbiter = { s.arbiter with weights := w, imageWeight := wi } :=
  List.foldlRecOn (motive := fun t : State => t.arbiter = { s.arbiter with weights := w, imageWeight := wi }) _ _ rfl
    fun t ht p _ => (t.withdrawDisabled_arbiter p).trans ht

theorem State.storeWeights_frame :
    { s.storeWeights w wi with ports := s.ports, arbiter := s.arbiter, counters := s.counters } = s :=
  List.foldlRecOn
    (motive := fun t : State => { t with ports := s.ports, arbiter := s.arbiter, counters := s.counters } = s) _ _ rfl
    fun t ht p _ => (congrArg (fun u : State => { u with ports := s.ports, arbiter := s.arbiter, counters := s.counters })
      (t.withdrawDisabled_frame p)).trans ht

end

/-- SET ARBITER with a desk weight that is not 0, and whether a weight was moved (R176). -/
theorem setArbiter_stores {w0 w1 w2 w3 : Nat} (wi : Nat) (h : 0 < w0 + w1 + w2 + w3) (g : State) :
    setArbiter w0 w1 w2 w3 wi g =
      (g.storeWeights ⟨min 8 w0, min 8 w1, min 8 w2, min 8 w3⟩ (max 1 (min 8 wi)),
        Answer.done (decide (8 < w0 ∨ 8 < w1 ∨ 8 < w2 ∨ 8 < w3 ∨ wi = 0 ∨ 8 < wi))
          (byte1 (min 8 w0) ++ byte1 (min 8 w1) ++ byte1 (min 8 w2) ++ byte1 (min 8 w3) ++ byte1 (max 1 (min 8 wi)))) := by
  have hweight : ¬(min 8 w0 = 0 ∧ min 8 w1 = 0 ∧ min 8 w2 = 0 ∧ min 8 w3 = 0) := by omega
  have hmoved : ¬(min 8 w0 = w0 ∧ min 8 w1 = w1 ∧ min 8 w2 = w2 ∧ min 8 w3 = w3 ∧ max 1 (min 8 wi) = wi) ↔
      8 < w0 ∨ 8 < w1 ∨ 8 < w2 ∨ 8 < w3 ∨ wi = 0 ∨ 8 < wi := by omega
  simp only [setArbiter, if_neg hweight, hmoved]

/-- Settles O47: the weights are stored, and each port's exchange moves by its own new weight alone. -/
theorem setArbiterStoresTheWeights : Obligations.SetArbiterStoresTheWeights := by
  unfold Obligations.SetArbiterStoresTheWeights
  intro s g p tag w0 w1 w2 w3 wi h
  refine ⟨fun h0 h1 h2 h3 => ?_, fun hpos => ?_⟩
  · subst_vars
    exact answers_of_served h rfl rfl rfl
  · refine ⟨_, answers_of_served h rfl rfl (setArbiter_stores wi hpos g), State.storeWeights_arbiter .., fun d r hs hw => ?_,
      fun d hd => ?_, State.storeWeights_frame ..⟩
    · have hx := g.exchange_storeWeights ⟨min 8 w0, min 8 w1, min 8 w2, min 8 w3⟩ (max 1 (min 8 wi)) d
      rw [hw, exchangeUnder_zero hs] at hx
      exact Prod.mk.inj hx
    · have hx := g.exchange_storeWeights ⟨min 8 w0, min 8 w1, min 8 w2, min 8 w3⟩ (max 1 (min 8 wi)) d
      rw [exchangeUnder_keeps hd] at hx
      exact Prod.mk.inj hx

end Sys2Proof.Machine
end

section
/-! Request frames and settings images, read back as they were written: the theorem that settles O9. -/

namespace Sys2Proof.Machine

open Sys2Proof

/-! ### Fields (R189, R191) -/

theorem toNat_ofNat_byte {n : Nat} (h : n < 256) : (BitVec.ofNat 8 n).toNat = n := by
  rw [BitVec.toNat_ofNat, Nat.mod_eq_of_lt h]

/-- The number that the two bytes of a field make. -/
theorem number2_bytes {n : Nat} (h : n < 65536) : number2 (BitVec.ofNat 8 (n / 256)) (BitVec.ofNat 8 n) = n := by
  rw [number2, toNat_ofNat_byte (by omega), BitVec.toNat_ofNat]
  omega

theorem maskOf_bytes (m : BitVec 16) : maskOf (BitVec.ofNat 8 (m.toNat / 256)) (BitVec.ofNat 8 m.toNat) = m := by
  rw [maskOf, number2_bytes m.isLt, BitVec.ofNat_toNat, BitVec.setWidth_eq]

theorem policyOf_policyCode (v : PressPolicy) : policyOf (policyCode v) = some v := by
  cases v <;> rfl

/-! ### Request frames (R168, R191) -/

/-- A frame with the length and the check of its body carries the body's code, tag and fields. -/
theorem frameRequestOf_body {code tag l1 l0 c1 c0 : Byte} {fields : List Byte} (ht : tag.toNat < 16)
    (hl : fields.length ≤ 1022) (hn : number2 l1 l0 = (code :: tag :: fields).length)
    (hc : BitVec.ofNat 16 (number2 c1 c0) = crc16 (l1 :: l0 :: code :: tag :: fields)) :
    frameRequestOf (0xA5#8 :: l1 :: l0 :: ((code :: tag :: fields) ++ [c1, c0, 0x5A#8])) =
      some { code := code.toNat, tag := tag.toNat, fields := fields } := by
  have hmin : 2 ≤ (code :: tag :: fields).length := by simp
  have hmax : (code :: tag :: fields).length ≤ 1024 := by simp only [List.length_cons]; omega
  have hrest : ((code :: tag :: fields) ++ [c1, c0, 0x5A#8]).length = (code :: tag :: fields).length + 3 := List.length_append
  unfold frameRequestOf
  dsimp only
  rw [hn, if_pos ⟨rfl, hmin, hmax, hrest⟩, List.take_left, List.drop_left]
  exact if_pos ⟨rfl, ht, hc.symm⟩

/-- A request frame as a station sends it: a length and a check of two bytes each. -/
theorem frameRequestOf_deskFrame {code tag : Byte} {fields : List Byte} (ht : tag.toNat < 16) (hl : fields.length ≤ 1022) :
    frameRequestOf (deskFrame (code :: tag :: fields)) = some { code := code.toNat, tag := tag.toNat, fields := fields } := by
  unfold deskFrame byte2
  simp only [List.cons_append, List.nil_append, List.append_assoc]
  exact frameRequestOf_body ht hl (number2_bytes (by simp only [List.length_cons]; omega)) (maskOf_bytes _)

/-! ### The settings image (R195, R196) -/

/-- The four bytes of a press's settings in range (R164). -/
theorem pressSettingsOf_bytes {v : PressSettings} (h : v.valid = true) :
    pressSettingsOf (BitVec.ofNat 8 v.captureWindow) (BitVec.ofNat 8 v.holdWindow) (BitVec.ofNat 8 v.searchTimeout)
      (BitVec.ofNat 8 (policyCode v.policy)) = some v := by
  simp only [PressSettings.valid, decide_eq_true_eq] at h
  have hpolicy : policyCode v.policy < 256 := by cases v.policy <;> decide
  rw [pressSettingsOf, toNat_ofNat_byte hpolicy, policyOf_policyCode, toNat_ofNat_byte (by omega),
    toNat_ofNat_byte (by omega), toNat_ofNat_byte (by omega)]
  rfl

theorem length_settingsBytes (v : Settings) : (settingsBytes v).length = 32 := rfl

theorem settingsOf_settingsBytes {v : Settings} (h : v.valid = true) : settingsOf (settingsBytes v) = some v := by
  have hbody : (settingsBytes v).take 30 = settingsBody v := rfl
  have hbounds := h
  simp only [Settings.valid, Bool.and_eq_true, decide_eq_true_eq] at hbounds
  obtain ⟨⟨⟨⟨⟨⟨⟨⟨⟨⟨h0, h1, h2, h3⟩, himage⟩, -⟩, ha⟩, hb⟩, hstall⟩, -⟩, -⟩, -⟩, -⟩ := hbounds
  unfold settingsOf
  rw [hbody]
  unfold settingsBytes
  generalize crc16 (settingsBody v) = check
  simp only [settingsBody, pressSettingsBytes, byte1, byte2, List.replicate, List.cons_append, List.nil_append]
  rw [pressSettingsOf_bytes ha, pressSettingsOf_bytes hb]
  simp only [Option.bind_eq_bind, Option.bind_some]
  simp only [toNat_ofNat_byte (show v.weights.dp0 < 256 by omega), toNat_ofNat_byte (show v.weights.dp1 < 256 by omega),
    toNat_ofNat_byte (show v.weights.dp2 < 256 by omega), toNat_ofNat_byte (show v.weights.dp3 < 256 by omega),
    toNat_ofNat_byte (show v.imageWeight < 256 by omega), number2_bytes (show v.stallWindow < 65536 by omega), maskOf_bytes]
  exact if_pos ⟨rfl, trivial, h⟩

/-- Settles O9, field by field: each number fits the bytes that carry it. -/
theorem senderFormatsRoundTrip : Obligations.SenderFormatsRoundTrip := by
  unfold Obligations.SenderFormatsRoundTrip
  refine ⟨fun h hcode htag hl => ?_, fun v hv => ⟨settingsOf_settingsBytes hv, length_settingsBytes v⟩⟩
  have htag' : (BitVec.ofNat 8 h.tag).toNat = h.tag := toNat_ofNat_byte (by omega)
  refine (frameRequestOf_deskFrame (by omega) hl).trans ?_
  rw [toNat_ofNat_byte hcode, htag']

end Sys2Proof.Machine
end

section
/-! Notices and counters (chapter 11). The theorems that settle O48 to O52. -/

namespace Sys2Proof.Machine

open Sys2Proof

/-! ### A latch at a port (R181, R183) -/

/-- The attention line shows a latched flag with an open mask entry (R183). -/
theorem attentionOf_iff (t : List (Nat × Latch)) (mask : BitVec 16) :
    attentionOf t mask = true ↔ ∃ n, (tabFind t n).isSome ∧ mask.getLsbD n = false := by
  simp [attentionOf, tabFind_isSome_iff]

section
variable (d : DeskPort) (k : Notice) (x : Subject)

/-- The record a latch leaves at its own flag. -/
theorem DeskPort.notices_latch_self : tabFind (d.latch k x).notices k.flag =
    some { count := ((tabFind d.notices k.flag).map (fun l => min 255 (l.count + 1))).getD 1, subject := x } := by
  simp only [DeskPort.latch, DeskPort.updateAttention, tabFind_tabInsert, if_pos]
  cases tabFind d.notices k.flag <;> rfl

theorem DeskPort.attention_latch : (d.latch k x).attention = attentionOf (d.latch k x).notices d.mask := rfl

/-- A latch moves the notice set and the attention line alone. -/
theorem DeskPort.latch_frame : { d.latch k x with notices := d.notices, attention := d.attention } = d := rfl

end

/-- Settles O50: the slot of the kind's own flag, the other slots, and the line over the set that results. -/
theorem aLatchCountsAndKeepsTheLatestSubject : Obligations.ALatchCountsAndKeepsTheLatestSubject := by
  unfold Obligations.ALatchCountsAndKeepsTheLatestSubject
  intro d k x
  refine ⟨fun hclear => ?_, fun l hset => ?_, fun n => d.notices_latch_other x, fun _ => ?_, d.latch_frame k x⟩
  · rw [d.notices_latch_self, hclear]
    rfl
  · rw [d.notices_latch_self, hset]
    rfl
  · rw [d.attention_latch, attentionOf_iff]

/-! ### READ NOTICES and SET NOTICE MASK (R182, R184, R185) -/

/-- A clear leaves the port the timeouts that hold. -/
theorem State.clearNotices_eq (s : State) (p : Port) :
    s.clearNotices p = s.setPort p { s.port p with
      notices := regTimeouts (s.link .a).reg.timedOut (s.link .b).reg.timedOut
      attention := attentionOf (regTimeouts (s.link .a).reg.timedOut (s.link .b).reg.timedOut) (s.port p).mask } := by
  rw [State.clearNotices, DeskPort.relatch_cleared]

/-- Settles O49: the state after is that of `State.clearNotices`, whose set is `regTimeouts`. -/
theorem readNoticesClearsTheSet : Obligations.ReadNoticesClearsTheSet := by
  unfold Obligations.ReadNoticesClearsTheSet
  intro s g p tag h
  refine ⟨g.clearNotices p, exec_of_served h rfl (readNotices p) rfl, ?_⟩
  rw [State.clearNotices_eq, State.port_setPort_self]
  refine ⟨fun n hn => ?_, ?_, ?_, attentionOf_regTimeouts .., rfl, rfl, rfl, fun d => State.port_setPort_other _ _, rfl⟩
  · rw [tabFind_regTimeouts, if_neg (by omega), if_neg (by omega)]
  · simp [tabFind_regTimeouts]
  · simp [tabFind_regTimeouts]

/-- Settles O48, by bit 15 of the mask. -/
theorem setNoticeMaskStoresTheMask : Obligations.SetNoticeMaskStoresTheMask := by
  unfold Obligations.SetNoticeMaskStoresTheMask
  exact fun s g p tag m h => ⟨fun hm => answers_of_served h rfl rfl (if_pos hm),
    fun hm => answers_of_served h rfl rfl (if_neg (not_lt.2 hm))⟩

/-! ### A counter, stored and raised (R186, R187) -/

section
variable (s : State) {u v i j : Nat} (c : Counter)

/-- No unit has more than eight counters, so a key names one unit and one index. -/
theorem counterKey_eq_iff (hi : i < 8) (hj : j < 8) : counterKey v j = counterKey u i ↔ v = u ∧ j = i := by
  unfold counterKey
  omega

/-- The table leaves out a counter at zero, and reads one that it does not hold as zero. -/
theorem State.counter_setCounter (hi : i < 8) (hj : j < 8) :
    (s.setCounter u i c).counter v j = if v = u ∧ j = i then c else s.counter v j := by
  simp only [State.counter, State.setCounter_counters, tabFind_tabUpdate, counterKey_eq_iff hi hj]
  split
  · split
    · exact Eq.symm ‹_›
    · rfl
  · rfl

theorem State.counter_setCounter_self (hi : i < 8) : (s.setCounter u i c).counter u i = c := by
  rw [s.counter_setCounter c hi hi, if_pos ⟨rfl, rfl⟩]

theorem State.counter_setCounter_other (hi : i < 8) (hj : j < 8) (hne : (v, j) ≠ (u, i)) :
    (s.setCounter u i c).counter v j = s.counter v j := by
  rw [s.counter_setCounter c hi hj, if_neg (by simpa using hne)]

theorem State.counter_latchAll (k : Notice) (x : Subject) (u i : Nat) : (s.latchAll k x).counter u i = s.counter u i := rfl

theorem State.raise_of_top (h : (s.counter u i).value = 4294967295#32) : s.raise u i =
    (s.setCounter u i { value := 0, overflow := true }).latchAll .counterWrap (.counter u i) :=
  if_pos h

theorem State.raise_of_not_top (h : (s.counter u i).value ≠ 4294967295#32) :
    s.raise u i = s.setCounter u i { s.counter u i with value := (s.counter u i).value + 1 } :=
  if_neg h

theorem State.counter_raise_other (hi : i < 8) (hj : j < 8) (hne : (v, j) ≠ (u, i)) :
    (s.raise u i).counter v j = s.counter v j := by
  by_cases htop : (s.counter u i).value = 4294967295#32
  · rw [s.raise_of_top htop, State.counter_latchAll, s.counter_setCounter_other _ hi hj hne]
  · rw [s.raise_of_not_top htop, s.counter_setCounter_other _ hi hj hne]

end

/-- Settles O51, by whether the counter stands at its top value. -/
theorem aCounterWrapsWithItsFlag : Obligations.ACounterWrapsWithItsFlag := by
  unfold Obligations.ACounterWrapsWithItsFlag
  intro s u i hi
  refine ⟨fun htop => ?_, fun htop => ?_, fun v j hj => s.counter_raise_other hi hj, s.raise_frame u i⟩
  · rw [s.raise_of_top htop, State.counter_latchAll]
    exact ⟨s.counter_setCounter_self _ hi, fun p => State.port_mapPorts ..⟩
  · rw [s.raise_of_not_top htop]
    exact ⟨s.counter_setCounter_self _ hi, rfl⟩

/-! ### CLEAR COUNTERS (R188) -/

theorem unitCounters_le (u : Nat) : unitCounters u ≤ 6 := by
  unfold unitCounters
  split <;> omega

/-- The state after counters of a unit are cleared, one by one. -/
def State.clearEach (s : State) (u : Nat) (is : List Nat) : State := is.foldl (fun t i => t.clearCounter u i) s

theorem State.counter_clearEach {is : List Nat} (his : ∀ i ∈ is, i < 8) (s : State) (u v : Nat) {j : Nat} (hj : j < 8) :
    (s.clearEach u is).counter v j = if v = u ∧ j ∈ is then Counter.zero else s.counter v j := by
  unfold State.clearEach
  induction is generalizing s with
  | nil => simp
  | cons i is ih =>
    obtain ⟨hi, his⟩ := List.forall_mem_cons.1 his
    rw [List.foldl_cons, ih his, State.clearCounter, s.counter_setCounter _ hi hj]
    by_cases hv : v = u <;> by_cases hmem : j ∈ is <;> simp [hv, hmem]

/-- Clearing moves the counters alone. -/
theorem State.clearEach_frame (s : State) (u : Nat) (is : List Nat) : { s.clearEach u is with counters := s.counters } = s :=
  List.foldlRecOn (motive := fun t : State => { t with counters := s.counters } = s) _ _ rfl fun _ ht _ _ => ht

section
variable {s g : State} {p : Port} {tag u : Nat} {index : Option Nat}

theorem clearCounters_refused (h : s.served p (.clearCounters u index) tag = some g)
    (hbad : 7 ≤ u ∨ ∃ i ∈ clearedIndices u index, unitCounters u ≤ i) :
    exec (.clearCounters p) s = .next (g.finish p tag (Answer.refuse .badIndex)) := by
  refine answers_of_served h rfl rfl (if_neg fun ⟨hu, hall⟩ => ?_)
  obtain hu' | ⟨i, hi, hle⟩ := hbad
  · omega
  · exact absurd (of_decide_eq_true (List.all_eq_true.1 hall i hi)) (not_lt.2 hle)

/-- CLEAR COUNTERS of counters that the unit has: the answer, the counters named, the others, and the frame. -/
theorem clearCounters_accepted (h : s.served p (.clearCounters u index) tag = some g) (hu : u ≤ 6)
    (hnamed : ∀ i ∈ clearedIndices u index, i < unitCounters u) : ∃ t : State,
    exec (.clearCounters p) s = .next (t.finish p tag (Answer.done false (unitBytes g u (clearedIndices u index)))) ∧
      (∀ i ∈ clearedIndices u index, t.counter u i = Counter.zero) ∧
      (∀ v j, j < 8 → ¬(v = u ∧ j ∈ clearedIndices u index) → t.counter v j = g.counter v j) ∧
      { t with counters := g.counters } = g := by
  have hbound : ∀ i ∈ clearedIndices u index, i < 8 := fun i hi => by
    have := hnamed i hi
    have := unitCounters_le u
    omega
  refine ⟨g.clearEach u (clearedIndices u index), answers_of_served h rfl rfl (if_pos ⟨hu, by simpa using hnamed⟩),
    fun i hi => ?_, fun v j hj hne => ?_, g.clearEach_frame u _⟩
  · rw [State.counter_clearEach hbound g u u (hbound i hi), if_pos ⟨rfl, hi⟩]
  · rw [State.counter_clearEach hbound g u v hj, if_neg hne]

end

theorem unitBytes_singleton (s : State) (u i : Nat) : unitBytes s u [i] = byte2 1 ++ counterBytes (s.counter u i) := by
  simp [unitBytes, byteList]

/-- Settles O52: the indices named are one or all of the unit's. -/
theorem clearCountersZeroesWhatItNames : Obligations.ClearCountersZeroesWhatItNames := by
  unfold Obligations.ClearCountersZeroesWhatItNames
  intro s g p tag u index h
  refine ⟨fun hu => clearCounters_refused h (.inl hu), fun i hu hindex hi => ?_, fun i hu hindex hi => ?_,
    fun hu hindex => ?_⟩ <;> subst hindex
  · exact clearCounters_refused h (.inr ⟨i, List.mem_singleton_self i, hi⟩)
  · have hnamed : ∀ k ∈ clearedIndices u (some i), k < unitCounters u := List.forall_mem_singleton.2 hi
    obtain ⟨t, hexec, hzero, hkeep, hframe⟩ := clearCounters_accepted h hu hnamed
    rw [clearedIndices, unitBytes_singleton, counterBytes, ← List.append_assoc] at hexec
    refine ⟨t, hexec, hzero i (List.mem_singleton_self i), fun v j hj hne => hkeep v j hj fun ⟨hv, hmem⟩ => hne ?_, hframe⟩
    rw [hv, List.mem_singleton.1 hmem]
  · have hnamed : ∀ k ∈ clearedIndices u none, k < unitCounters u := fun k => List.mem_range.1
    obtain ⟨t, hexec, hzero, hkeep, hframe⟩ := clearCounters_accepted h hu hnamed
    exact ⟨t, hexec, fun i hi => hzero i (List.mem_range.2 hi), fun v j hv hj => hkeep v j hj fun hboth => hv hboth.1, hframe⟩

end Sys2Proof.Machine
end

section
/-! Requests, read back from the code and the field bytes that a station writes: the theorem that settles O10. -/

namespace Sys2Proof.Machine

open Sys2Proof

/-! ### A field in front of the rest (R189, R191) -/

section
variable {n : Nat}

@[simp] theorem field1_byte1 (h : n < 256) (rest : List Byte) : field1 (byte1 n ++ rest) = some (n, rest) := by
  rw [byte1, List.singleton_append, field1, toNat_ofNat_byte h]

theorem field1_byteFlag (b : Bool) (rest : List Byte) : field1 (byteFlag b ++ rest) = some (b.toNat, rest) := by
  cases b <;> rfl

@[simp] theorem field2_byte2 (h : n < 65536) (rest : List Byte) : field2 (byte2 n ++ rest) = some (n, rest) := by
  rw [byte2, List.cons_append, List.singleton_append, field2, number2_bytes h]

/-- FFFFh is no slot's number, so it stands for none alone. -/
@[simp] theorem fieldSlot_byteSlot {o : Option Nat} (h : slotFits o = true) (rest : List Byte) :
    fieldSlot (byteSlot o ++ rest) = some (o, rest) := by
  rw [byteSlot, byte2, List.cons_append, List.singleton_append, fieldSlot]
  cases o with
  | none => rw [Option.getD_none, number2_bytes (by decide), if_pos rfl]
  | some n =>
    have hn : n < 65535 := of_decide_eq_true h
    rw [Option.getD_some, number2_bytes (by omega), if_neg (by omega)]

/-- The codes of a string, each in its byte. -/
theorem map_toNat_flatMap_byte1 {x : Str} (h : ∀ c ∈ x, c < 256) : (x.flatMap byte1).map (·.toNat) = x := by
  induction x with
  | nil => rfl
  | cons c x ih =>
    obtain ⟨hc, hx⟩ := List.forall_mem_cons.1 h
    rw [List.flatMap_cons, byte1, List.singleton_append, List.map_cons, toNat_ofNat_byte hc, ih hx]

@[simp] theorem fieldStr_byteStr {x : Str} (h : strFits x = true) (rest : List Byte) :
    fieldStr (byteStr x ++ rest) = some (x, rest) := by
  simp only [strFits, Bool.and_eq_true, decide_eq_true_eq, List.all_eq_true] at h
  obtain ⟨hlength, hcodes⟩ := h
  rw [byteStr_of_length_lt hlength, byte1, List.append_assoc, List.singleton_append, fieldStr, toNat_ofNat_byte hlength,
    ← length_flatMap_byte1 x, if_pos (by simp), List.take_left, List.drop_left, map_toNat_flatMap_byte1 hcodes]

end

/-! ### The last field, with nothing behind it -/

section
variable {n : Nat}

theorem read_last {α : Type} {f : Field α} {bytes : List Byte} {a : α} (h : ∀ rest, f (bytes ++ rest) = some (a, rest)) :
    f bytes = some (a, []) := by
  simpa using h []

@[simp] theorem field1_byte1_last (h : n < 256) : field1 (byte1 n) = some (n, []) := read_last (field1_byte1 h)

@[simp] theorem field2_byte2_last (h : n < 65536) : field2 (byte2 n) = some (n, []) := read_last (field2_byte2 h)

@[simp] theorem fieldSlot_byteSlot_last {o : Option Nat} (h : slotFits o = true) : fieldSlot (byteSlot o) = some (o, []) :=
  read_last (fieldSlot_byteSlot h)

@[simp] theorem fieldStr_byteStr_last {x : Str} (h : strFits x = true) : fieldStr (byteStr x) = some (x, []) :=
  read_last (fieldStr_byteStr h)

end

/-! ### Layout records (R13) -/

section
variable {α : Type}

/-- The next field of a record, taken off before what is read behind it: a layout record nests twenty of them. -/
theorem bind_field2 {n : Nat} (h : n < 65536) (rest : List Byte) (k : Nat × List Byte → Option α) :
    (field2 (byte2 n ++ rest) >>= k) = k (n, rest) := by
  rw [field2_byte2 h]
  rfl

theorem bind_flag (b : Bool) (rest : List Byte) (k : Nat × List Byte → Option α) :
    (field1 (byteFlag b ++ rest) >>= k) = k (b.toNat, rest) := by
  rw [field1_byteFlag]
  rfl

end

theorem fieldLayout_layoutBytes {l : Layout} (h : layoutFits l = true) :
    fieldLayout (layoutBytes l) = some ((l, true), []) := by
  simp only [layoutFits, Bool.and_eq_true, decide_eq_true_eq] at h
  have hflag (b : Bool) : (b.toNat == 1) = b ∧ b.toNat < 2 := by cases b <;> decide
  unfold layoutBytes
  simp only [↓List.append_assoc]
  unfold fieldLayout
  simp only [↓bind_field2, ↓bind_flag, field1_byte1_last, Option.bind_eq_bind, Option.bind_some, h, hflag, decide_true,
    Bool.and_self]

/-! ### The field bytes of a request (R191) -/

theorem oneField2_bytes {n : Nat} (k : Nat → Request) (h : n < 65536) : oneField2 k (byte2 n) = some (k n) := by
  simp [oneField2, fieldsEnd, h]

theorem oneField1_bytes {n : Nat} (k : Nat → Request) (h : n < 256) : oneField1 k (byte1 n) = some (k n) := by
  simp [oneField1, fieldsEnd, h]

theorem twoFields2_bytes {m n : Nat} (k : Nat → Nat → Request) (hm : m < 65536) (hn : n < 65536) :
    twoFields2 k (byte2 m ++ byte2 n) = some (k m n) := by
  simp [twoFields2, fieldsEnd, hm, hn]

/-- Settles O10, by the shape of the request's fields. -/
theorem requestFieldsRoundTrip : Obligations.RequestFieldsRoundTrip := by
  unfold Obligations.RequestFieldsRoundTrip
  intro r tag h
  cases r with
  | readImagePort | readPlacementUnit | readRenderer | readArbiter | readSettingsPort | readNotices | saveSettings => rfl
  | closeBook n | dropSection n | dropSheet n | unlockSheet n | dropEntry n | reservePortrait n | releasePortrait n
  | cancelJob n | setNoticeMask n | readBook n | readSection n | readSheet n | readEntry n | readPortrait n
  | readPlacementResult n | readJob n | readDeskPort n | readCounters n => exact oneField2_bytes _ (of_decide_eq_true h)
  | forceResync n | readPressJobCollections n | readPressLink n => exact oneField1_bytes _ (of_decide_eq_true h)
  | readRosterIndex m n | readTile m n =>
    simp only [Request.fits, Bool.and_eq_true, decide_eq_true_eq] at h
    simp [requestOf, heldOf, encodeRequest, readFields, twoFields2_bytes, h]
  | addSheet m n | approveSheet m n | moveEntry m n | swapPortraits m n =>
    simp only [Request.fits, Bool.and_eq_true, decide_eq_true_eq] at h
    exact twoFields2_bytes _ h.1 h.2
  | setLayout i l flagsFit =>
    simp only [Request.fits, Bool.and_eq_true, decide_eq_true_eq] at h
    obtain ⟨⟨hi, hlayout⟩, rfl⟩ := h
    simp [requestOf, heldOf, encodeRequest, hi, fieldLayout_layoutBytes hlayout, fieldsEnd]
  | openBook | setBook | addSection | setSection | addEntry | setFaceBox | submitRun | submitProof | setPress | setArbiter
  | clearCounters =>
    simp only [Request.fits, faceBoxFits, Bool.and_eq_true, decide_eq_true_eq] at h
    simp [requestOf, heldOf, encodeRequest, faceBytes, fieldsEnd, h]
  | editName | editRole | editStatus | editPortrait | editOther =>
    simp only [Request.fits, Bool.and_eq_true, decide_eq_true_eq] at h
    simp [requestOf, heldOf, encodeRequest, editFields, oneField1, fieldsEnd, h]

end Sys2Proof.Machine
end

section
/-! Return-lane words (R193, R194): the theorem that settles O46. -/

namespace Sys2Proof.Machine

open Sys2Proof

/-- A good word is one that spells a unit: its kind is known, and the bits beside its fields are zero. -/
theorem returnWordGood_iff (w : Word32) : returnWordGood w = true ↔ (returnUnitOf w).isSome := by
  unfold returnWordGood returnUnitOf returnKind
  split
  case h_4 hkind1 hkind2 hkind3 =>
    rw [decide_eq_false hkind1, decide_eq_false hkind2, decide_eq_false hkind3]
    exact Iff.rfl
  all_goals
    rename_i hkind
    simp [hkind]

theorem State.takeReturnWord_of_none {w : Word32} (h : returnUnitOf w = none) (s : State) (q : Press) :
    s.takeReturnWord q w = s := by
  rw [State.takeReturnWord, h]

/-- The field's lowest value is taken as the one above it (R194). -/
theorem markOffset_lowest : markOffset (-2048#12) = markOffset (-2047#12) := rfl

/-- Without a mark no report is good (R155). -/
theorem goodFor_notFound (window : Nat) (stray : Bool) (offset : Int) : goodFor window false stray offset = false := rfl

/-- The judgement of a report without a mark reads neither its stray flag nor its offset (R157, R159). -/
theorem State.judgeReport_notFound (s : State) (q : Press) (stray stray' : Bool) (offset offset' : Int) :
    s.judgeReport q false stray offset = s.judgeReport q false stray' offset' := by
  unfold State.judgeReport
  split
  · rfl
  · simp only [State.judgeCapture, goodFor_notFound, Bool.false_eq_true, if_false]
  · simp only [State.judgeCapture, goodFor_notFound, Bool.false_eq_true, if_false]
  · simp only [State.judgeHold, goodFor_notFound, Bool.false_eq_true, if_false]

/-- Reports that the lock judges alike do the same. -/
theorem exec_markReport_congr {s : State} {q : Press} {found found' stray stray' : Bool} {offset offset' : BitVec 12}
    (h : s.judgeReport q found stray (markOffset offset) = s.judgeReport q found' stray' (markOffset offset')) :
    exec (.markReport q found stray offset) s = exec (.markReport q found' stray' offset') s := by
  simp only [exec, execMarkReport, State.takeMarkReport, h]

/-- Settles O46: a bad word spells no unit, and a report acts through its judgement alone. -/
theorem badReturnWordsAreDiscarded : Obligations.BadReturnWordsAreDiscarded := by
  unfold Obligations.BadReturnWordsAreDiscarded
  refine fun s q => ⟨fun w hw => ?_, returnWordGood_iff, fun found stray => exec_markReport_congr (by rw [markOffset_lowest]),
    fun stray stray' offset offset' => exec_markReport_congr (s.judgeReport_notFound q ..)⟩
  have hnone : returnUnitOf w = none := by
    rw [← Option.not_isSome_iff_eq_none, ← returnWordGood_iff, hw]
    exact Bool.false_ne_true
  exact congrArg Host.Outcome.next (State.takeReturnWord_of_none hnone s q)

end Sys2Proof.Machine
end

section
/-! The settings port: a save, the end of its write, and the end of the start-up load. The theorem that settles O53. -/

namespace Sys2Proof.Machine

open Sys2Proof

/-! ### A save, the end of its write, and the end of a load, by the state of the settings port (R196, R197) -/

section
variable {s : State}

theorem saveSettings_of_saving (h : s.settings.state = .saving) : saveSettings s = (s, Answer.busy) := by
  simp only [saveSettings, h]

/-- A save that starts: the image holds the values as they stand, and each port's mask stands as its default mask. -/
theorem saveSettings_of_not_saving (h : s.settings.state ≠ .saving) : saveSettings s =
    ({ s.mapPorts (fun d => { d with defaultMask := d.mask }) with
        settings := { s.settings with state := .saving, image := s.currentSettings } }, Answer.ok) := by
  simp only [saveSettings]

theorem exec_settingsSaveComplete_of_saving (readBack : List Byte) (h : s.settings.state = .saving) :
    exec (.settingsSaveComplete readBack) s = .next { s with settings := { s.settings with
      state := .idle, lastSave := if readBack = settingsBytes s.settings.image then .ok else .failed } } := by
  simp only [exec, execSettingsSaveComplete, h]

theorem exec_settingsSaveComplete_of_not_saving (readBack : List Byte) (h : s.settings.state ≠ .saving) :
    exec (.settingsSaveComplete readBack) s = .next s := by
  simp only [exec, execSettingsSaveComplete]

theorem exec_settingsLoadComplete_of_loading (image : Option (List Byte)) (h : s.settings.state = .loading) :
    exec (.settingsLoadComplete image) s = .next (s.completeLoad image) := by
  simp only [exec, execSettingsLoadComplete, h]

theorem exec_settingsLoadComplete_of_not_loading (image : Option (List Byte)) (h : s.settings.state ≠ .loading) :
    exec (.settingsLoadComplete image) s = .next s := by
  simp only [exec, execSettingsLoadComplete]

end

/-! ### The values of an image, taken by the blocks (R196) -/

section
variable (s : State)

/-- Every port takes its own mask of the image. -/
theorem State.port_loadMasks (m : PerPort (BitVec 16)) (p : Port) :
    (s.loadMasks m).port p = (s.port p).takeDefault (m.get p) := by
  cases p <;> rfl

theorem State.loadMasks_frame (m : PerPort (BitVec 16)) : { s.loadMasks m with ports := s.ports } = s :=
  List.foldlRecOn (motive := fun t : State => { t with ports := s.ports } = s) _ _ rfl fun _ ht _ _ => ht

/-- A withdrawal latches COUNTER_WRAP at most (R175, R187). -/
theorem State.notices_withdrawDisabled (p q : Port) {n : Nat} (hn : n ≠ 11) :
    tabFind ((s.withdrawDisabled p).port q).notices n = tabFind (s.port q).notices n := by
  unfold State.withdrawDisabled
  split
  · split
    · rw [State.formReply, State.countReply_eq, State.notices_raise _ _ _ _ hn, State.enqueueReply]
      by_cases hq : q = p
      · subst hq
        simp only [State.port_setPort_self]
      · rw [State.port_setPort_other _ _ hq, State.port_setPort_other _ _ hq]
    · rfl
  · rfl

theorem State.notices_storeWeights (w : PerPort Nat) (wi : Nat) (q : Port) {n : Nat} (hn : n ≠ 11) :
    tabFind ((s.storeWeights w wi).port q).notices n = tabFind (s.port q).notices n :=
  List.foldlRecOn (motive := fun t : State => tabFind (t.port q).notices n = tabFind (s.port q).notices n) _ _ rfl
    fun t ht p _ => (t.notices_withdrawDisabled p q hn).trans ht

end

/-- The values of an image beside the weights, taken by the locks, the renderer, the ports and the settings port. -/
def State.takeOtherValues (s : State) (v : Settings) : State :=
  { (((s.loadPress .a v.presses.a).loadPress .b v.presses.b).storeStall v.stallWindow).loadMasks v.masks with
    settings := { state := .idle, lastSave := .none, image := v } }

section
variable (s : State) (v : Settings)

theorem State.applySettings_eq : s.applySettings v = (s.storeWeights v.weights v.imageWeight).takeOtherValues v := rfl

/-- Each lock takes the four values of its own press (R164). -/
theorem State.settings_takeOtherValues (q : Press) : ((s.takeOtherValues v).link q).reg.settings = v.presses.get q := by
  cases q <;> rfl

theorem State.port_takeOtherValues (p : Port) :
    (s.takeOtherValues v).port p = (s.port p).takeDefault (v.masks.get p) :=
  State.port_loadMasks _ v.masks p

theorem State.takeOtherValues_renderer :
    (s.takeOtherValues v).renderer = { s.renderer with stallWindow := v.stallWindow } := rfl

theorem State.takeOtherValues_frame :
    { s.takeOtherValues v with
      settings := s.settings, links := s.links, renderer := s.renderer, ports := s.ports } = s :=
  congrArg
    (fun t : State => { t with settings := s.settings, links := s.links, renderer := s.renderer, ports := s.ports })
    (State.loadMasks_frame (((s.loadPress .a v.presses.a).loadPress .b v.presses.b).storeStall v.stallWindow) v.masks)

theorem State.takeOtherValues_arbiter : (s.takeOtherValues v).arbiter = s.arbiter :=
  (congrArg State.arbiter (s.takeOtherValues_frame v) :)

theorem State.applySettings_arbiter :
    (s.applySettings v).arbiter = { s.arbiter with weights := v.weights, imageWeight := v.imageWeight } := by
  rw [State.applySettings_eq, State.takeOtherValues_arbiter, State.storeWeights_arbiter]

theorem State.applySettings_renderer :
    (s.applySettings v).renderer = { s.renderer with stallWindow := v.stallWindow } := by
  have hstored : (s.storeWeights v.weights v.imageWeight).renderer = s.renderer :=
    (congrArg State.renderer (s.storeWeights_frame v.weights v.imageWeight) :)
  rw [State.applySettings_eq, State.takeOtherValues_renderer, hstored]

theorem State.settings_applySettings (q : Press) : ((s.applySettings v).link q).reg.settings = v.presses.get q :=
  State.settings_takeOtherValues _ v q

theorem State.port_applySettings (p : Port) : (s.applySettings v).port p =
    ((s.storeWeights v.weights v.imageWeight).port p).takeDefault (v.masks.get p) :=
  State.port_takeOtherValues _ v p

/-- Taking the values of an image latches COUNTER_WRAP at most. -/
theorem State.notices_applySettings (p : Port) {n : Nat} (hn : n ≠ 11) :
    tabFind ((s.applySettings v).port p).notices n = tabFind (s.port p).notices n := by
  rw [State.port_applySettings]
  exact s.notices_storeWeights v.weights v.imageWeight p hn

theorem State.applySettings_frame :
    { s.applySettings v with
      settings := s.settings, arbiter := s.arbiter, links := s.links, renderer := s.renderer, ports := s.ports
      counters := s.counters } = s :=
  (congrArg (fun t : State => { t with
      settings := s.settings, arbiter := s.arbiter, links := s.links, renderer := s.renderer, ports := s.ports
      counters := s.counters }) ((s.storeWeights v.weights v.imageWeight).takeOtherValues_frame v)).trans
    (congrArg (fun t : State => { t with settings := s.settings, links := s.links, renderer := s.renderer })
      (s.storeWeights_frame v.weights v.imageWeight))

end

section
variable {s : State} {image : Option (List Byte)}

theorem State.completeLoad_of_good {v : Settings} (h : image.bind settingsOf = some v) :
    s.completeLoad image = s.applySettings v := by
  simp only [State.completeLoad, h]

theorem State.completeLoad_of_bad (h : image.bind settingsOf = none) :
    s.completeLoad image = (s.latchAll .settingsDefault .none).applySettings Settings.default := by
  simp only [State.completeLoad, h]

/-- A load that ends takes the image's values, or the defaults, over a state that differs in its ports at most. -/
theorem State.completeLoad_eq {v : Settings}
    (h : image.bind settingsOf = some v ∨ image.bind settingsOf = none ∧ v = Settings.default) :
    ∃ ports, s.completeLoad image = { s with ports := ports }.applySettings v := by
  obtain hgood | ⟨hbad, rfl⟩ := h
  · exact ⟨s.ports, State.completeLoad_of_good hgood⟩
  · exact ⟨_, State.completeLoad_of_bad hbad⟩

theorem State.notices_completeLoad_of_bad (h : image.bind settingsOf = none) (p : Port) :
    (tabFind ((s.completeLoad image).port p).notices 12).map (·.subject) = some .none := by
  rw [State.completeLoad_of_bad h, State.notices_applySettings _ _ _ (by decide)]
  exact s.notices_latchAll .settingsDefault .none p

theorem State.completeLoad_frame (s : State) (image : Option (List Byte)) :
    { s.completeLoad image with
      settings := s.settings, arbiter := s.arbiter, links := s.links, renderer := s.renderer, ports := s.ports
      counters := s.counters } = s := by
  unfold State.completeLoad
  split
  · exact s.applySettings_frame _
  · exact congrArg (fun t : State => { t with ports := s.ports })
      ((s.latchAll .settingsDefault .none).applySettings_frame Settings.default)

end

/-- Settles O53: a save by the state of the settings port, a load by whether its image is good. -/
theorem settingsAreSavedAndLoaded : Obligations.SettingsAreSavedAndLoaded := by
  unfold Obligations.SettingsAreSavedAndLoaded
  refine ⟨fun s g p tag => ⟨fun h => ⟨fun hsaving => ?_, fun hidle => ?_⟩, exec_settingsSaveComplete_of_saving,
    exec_settingsSaveComplete_of_not_saving⟩, fun s image hload => ?_⟩
  · exact answers_of_served h rfl rfl (saveSettings_of_saving hsaving)
  · exact ⟨_, answers_of_served h rfl rfl (saveSettings_of_not_saving hidle), rfl, fun d => State.port_mapPorts .., rfl⟩
  · refine ⟨_, exec_settingsLoadComplete_of_loading image hload, fun v hv => ?_, State.notices_completeLoad_of_bad,
      s.completeLoad_frame image, fun u => exec_settingsLoadComplete_of_not_loading image⟩
    obtain ⟨ports, heq⟩ := State.completeLoad_eq (s := s) hv
    rw [heq]
    have harbiter := State.applySettings_arbiter { s with ports := ports } v
    exact ⟨rfl, congrArg Arbiter.weights harbiter, congrArg Arbiter.imageWeight harbiter,
      State.settings_applySettings _ v .a, State.settings_applySettings _ v .b, State.applySettings_renderer _ v, fun p => by
        rw [State.port_applySettings]
        exact ⟨rfl, rfl⟩⟩

end Sys2Proof.Machine
end

section
/-! A step goes on: every command leads to a next state, in each branch of its row. The theorem that settles O1. -/

namespace Sys2Proof.Machine

open Sys2Proof

/-! ### What a step runs -/

/-- With a command waiting, a step is that command's meaning on the rest of the queue (assumption 13). -/
theorem step_of_front {s : State} {c : Instr} {rest : List Instr} (h : s.pending = c :: rest) :
    step s = exec c { s with pending := rest } := by
  simp only [step, h]

/-! ### The rows that look at the state first: each branch goes on (assumption 7) -/

/-- The rows of a desk port's receiver, by its state (R167, R168, R178). -/
theorem execDeskLine_goesOn {c : Instr} {p : Port}
    (hc : (∃ bytes, c = .requestFrame p bytes) ∨ c ∈ [.requestFrameStart p, .lineBreak p, .breakEnd p]) (s : State) :
    ∃ t, exec c s = .next t := by
  simp only [List.mem_cons, List.not_mem_nil, or_false] at hc
  obtain ⟨bytes, rfl⟩ | rfl | rfl | rfl := hc <;>
    simp only [exec, execRequestFrame, execRequestFrameStart, execLineBreak, execBreakEnd] <;> repeat' split
  all_goals exact ⟨_, rfl⟩

/-- The ends of a settings load and of a save, by the state of the settings port (R196, R197). -/
theorem execSettingsEvent_goesOn {c : Instr}
    (hc : (∃ image, c = .settingsLoadComplete image) ∨ ∃ readBack, c = .settingsSaveComplete readBack) (s : State) :
    ∃ t, exec c s = .next t := by
  obtain ⟨image, rfl⟩ | ⟨readBack, rfl⟩ := hc <;> simp only [exec, execSettingsLoadComplete, execSettingsSaveComplete] <;>
    split <;> exact ⟨_, rfl⟩

/-- The image port's grants and its timer, by the state of the port; a grant also by whether it is made (R69, R72, R76). -/
theorem execImageEvent_goesOn {c : Instr} (hc : c ∈ [.imageHeaderGrant, .imageEndMarkGrant, .loadTimerExpiry]) (s : State) :
    ∃ t, exec c s = .next t := by
  simp only [List.mem_cons, List.not_mem_nil, or_false] at hc
  obtain rfl | rfl | rfl := hc <;> simp only [exec, execImageHeaderGrant, execImageEndMarkGrant, execLoadTimerExpiry] <;>
    repeat' split
  all_goals exact ⟨_, rfl⟩

/-- The placement unit's rows, by what it works on and what is queued (R79, R81). -/
theorem execPlacement_goesOn {c : Instr} (hc : c = .placementTake ∨ c = .placementCompletion) (s : State) :
    ∃ t, exec c s = .next t := by
  obtain rfl | rfl := hc <;> simp only [exec, execPlacementTake, execPlacementCompletion] <;> repeat' split
  all_goals exact ⟨_, rfl⟩

/-- The renderer's rows, by the ACTIVE job and the band in production; the stall timer's by whether it runs (R126 to R129). -/
theorem execRenderer_goesOn {c : Instr} (hc : Instr.ofRenderer c) (s : State) : ∃ t, exec c s = .next t := by
  obtain rfl | rfl | rfl | rfl := hc <;>
    simp only [exec, execRendererGrant, execBandBegin, execBandCompletion, execStallTimerExpiry] <;> repeat' split
  all_goals exact ⟨_, rfl⟩

/-- The edges of a press's online line, by the state of its link (R153, R154). -/
theorem execOnlineEdge_goesOn {c : Instr} {q : Press} (hc : c = .onlineFall q ∨ c = .onlineRise q) (s : State) :
    ∃ t, exec c s = .next t := by
  obtain rfl | rfl := hc <;> simp only [exec, execOnlineFall, execOnlineRise] <;> split <;> exact ⟨_, rfl⟩

/-! ### Every command -/

/-- No command stops: the request rows are served or leave the state, and every other row has a next state in each of its
branches (assumption 14). -/
theorem exec_goesOn (c : Instr) (s : State) : ∃ t, exec c s = .next t := by
  cases c with
  | requestFrame p bytes => exact execDeskLine_goesOn (p := p) (.inl ⟨bytes, rfl⟩) s
  | requestFrameStart p | lineBreak p | breakEnd p => exact execDeskLine_goesOn (p := p) (.inr (by simp)) s
  | settingsLoadComplete _ | settingsSaveComplete _ => exact execSettingsEvent_goesOn (by simp) s
  | imageHeaderGrant | imageEndMarkGrant | loadTimerExpiry => exact execImageEvent_goesOn (by simp) s
  | placementTake | placementCompletion => exact execPlacement_goesOn (by simp) s
  | rendererGrant | bandBegin | bandCompletion | stallTimerExpiry => exact execRenderer_goesOn (by simp [Instr.ofRenderer]) s
  | onlineFall q | onlineRise q => exact execOnlineEdge_goesOn (q := q) (by simp) s
  | imageHeader _ | imagePayload _ _ | imageEndMark _ | imageAbort | markReport _ _ _ _ | frameRequest _ | statusReport _ _
  | badReturnWord _ _ | replyFrameSent _ | reset => exact ⟨_, rfl⟩
  | openBook p | setBook p | closeBook p | addSection p | setSection p | dropSection p | addSheet p | dropSheet p
  | setLayout p | approveSheet p | unlockSheet p | addEntry p | dropEntry p | editEntryName p | editEntryRole p
  | editEntryStatus p | editEntryPortrait p | moveEntry p | swapPortraits p | reservePortrait p | releasePortrait p
  | setFaceBox p | submitRun p | submitProof p | cancelJob p | forceResync p | setPress p | setArbiter p | readBook p
  | readSection p | readSheet p | readEntry p | readRosterIndex p | readPortrait p | readImagePort p | readPlacementUnit p
  | readPlacementResult p | readTile p | readJob p | readPressJobCollections p | readRenderer p | readPressLink p
  | readDeskPort p | readArbiter p | readCounters p | readSettingsPort p | readNotices p | setNoticeMask p | clearCounters p
  | saveSettings p | unknownRequestCode p => exact ⟨s.serve p _, rfl⟩

/-- No step stops: time passes on an empty queue, and a waiting command goes on. -/
theorem step_goesOn (s : State) : goesOn s := by
  unfold goesOn
  cases h : s.pending with
  | nil => exact ⟨s.tick, step_of_idle h⟩
  | cons c rest =>
    rw [step_of_front h]
    exact exec_goesOn c _

/-- Settles O1: the front command is run on the rest of the queue, and no command stops. -/
theorem stepRunsTheFrontCommand : Obligations.StepRunsTheFrontCommand := by
  unfold Obligations.StepRunsTheFrontCommand
  exact ⟨fun c rest s => step_of_front rfl, step_goesOn⟩

end Sys2Proof.Machine
end
